-- ==== Sys2Proof/Word.lean ====
section
/-! DEFINITION. The plain words of the GH-4812: bytes, tick counts and lane numbers. -/

namespace Sys2Proof

/-- One byte of a lane or of the store (R199, R204). -/
abbrev Byte := BitVec 8

/-- The tick count and every deadline: 32 bits, returning to 0 after 4,294,967,295 (R29). -/
abbrev Tick := BitVec 32

/-- A lane number, 0..7 (R148). -/
abbrev Lane := Fin 8

end Sys2Proof
end

