-- ==== Sys2Proof/Syntax.lean ====
section
/-! DEFINITION. The commands of the GH-4812: one constructor for each row of spec/opcode_table.json. -/

namespace Sys2Proof

/-- What the store device answers to a read (R123, R188): the bytes it holds, all bits set because it answers no
command, or the bytes it holds but for a list of misread addresses. -/
inductive StoreAnswer where
  | asStored
  | silent
  | misread (cells : List (Nat × Byte))
deriving DecidableEq, Repr

/-- What a write left in the store at its address (R123, R124): the whole of its bytes, nothing of them, or some other
bytes from its address on, never more than the write covers. -/
inductive WriteEffect where
  | whole
  | nothing
  | left (bytes : List Byte)
deriving DecidableEq, Repr

/-- What the store answers after a write: the status byte (R207), then the bytes just written (R123). -/
structure WriteAnswers where
  status : Byte
  readBack : StoreAnswer
deriving DecidableEq, Repr

/-- The commands. A request carries its lane and the fields of its body in the order of R200, each as the number the frame
carries. -/
inductive Instr where
  -- resets and restore (R187 to R195, R207)
  | powerOnReset (cut : WriteEffect)
  | pinReset (cut : WriteEffect)
  | resetNLow (cut : WriteEffect)
  | restoreHeaderLoaded (answer : StoreAnswer)
  | restoreRingScan (answer : StoreAnswer)
  | restoreImages (answer : StoreAnswer)
  | journalExhaustion
  -- time
  | tick
  | holdExpiryEvent (handle : Nat) (deadline : Tick)
  | clockAdvance
  | drainTimerExpiry
  | drainEvent
  | silenceTimerExpiry (lane : Lane)
  | laneLostEvent (lane : Lane)
  | gapTimerExpiry (lane : Lane)
  -- lanes
  | byteReceived (lane : Lane) (byte : Byte) (stopBit : Bool)
  | frameReceived (lane : Lane) (lastByte : Byte)
  | frameSent (lane : Lane)
  | laneGrant
  -- requests of every role
  | ping (lane : Lane)
  | pollNotice (lane : Lane)
  | balance (lane : Lane) (card : Nat)
  -- requests on holds
  | hold (lane : Lane) (card amount parts : Nat)
  | capture (lane : Lane) (handle amount final : Nat)
  | release (lane : Lane) (handle : Nat)
  | extend (lane : Lane) (handle : Nat)
  | reverse (lane : Lane) (receipt : Nat)
  -- office purse operations
  | openPurse (lane : Lane) (card : Nat)
  | closePurse (lane : Lane) (card : Nat)
  | block (lane : Lane) (card : Nat)
  | unblock (lane : Lane) (card : Nat)
  | topUp (lane : Lane) (card amount : Nat)
  | withdraw (lane : Lane) (card amount : Nat)
  | fundSponsor (lane : Lane) (sponsor amount : Nat)
  | readPurse (lane : Lane) (slot : Nat)
  | readTotals (lane : Lane) (part : Nat)
  -- configuration requests
  | setRange (lane : Lane) (entry enabled firstCard slotEnd grant sponsor limit : Nat)
  | setSponsorCount (lane : Lane) (count : Nat)
  | setLane (lane : Lane) (named role holdLifetime silenceLimit holdLimit : Nat)
  | setCeiling (lane : Lane) (amount : Nat)
  | setLowMark (lane : Lane) (amount : Nat)
  | saveConfig (lane : Lane)
  | lockConfig (lane : Lane)
  | readConfig (lane : Lane) (part : Nat)
  -- period requests
  | closePeriod (lane : Lane)
  | setClock (lane : Lane) (seconds : Nat)
  | setSchedule (lane : Lane) (entry time enable : Nat)
  | setDrainLimit (lane : Lane) (seconds : Nat)
  -- journal and store requests
  | sync (lane : Lane)
  | readJournal (lane : Lane) (sequence : Nat)
  | retryStore (lane : Lane)
  | formatStore (lane : Lane)
  -- notice requests
  | setRoute (lane : Lane) (eventClass route : Nat)
  | clearEvents (lane : Lane) (classes : Nat)
  | readEvents (lane : Lane)
  -- the store port
  | storePortGrant
  | writeStatusTimeout (effect : WriteEffect)
  | storeWriteComplete (effect : WriteEffect) (answers : WriteAnswers)
  | retryHeaderRead (answer : StoreAnswer)
  | journalReadComplete (answer : StoreAnswer)
  -- durable and abandoned events, by the record's sequence number
  | captureDurable (sequence : Nat)
  | captureAbandoned (sequence : Nat)
  | reversalDurable (sequence : Nat)
  | reversalAbandoned (sequence : Nat)
  | officeRecordDurable (sequence : Nat)
  | officeRecordAbandoned (sequence : Nat)
  | periodCloseDurable (sequence : Nat)
  | periodAdvance
  | periodCloseAbandoned (sequence : Nat)
  | closeFailed
deriving DecidableEq, Repr

end Sys2Proof
end

