-- ==== Sys2Proof/WellFormed.lean ====
section
/-! DEFINITION. Which commands a frame or an event can spell: every operand fits its field (R199, R200). -/

namespace Sys2Proof

/-- A number that fits a field of `n` bytes (R200). -/
abbrev fitsBytes (n v : Nat) : Prop := v < 256 ^ n

/-- A sequence number or receipt field: 32 bits (R125). -/
abbrev fitsSequence (v : Nat) : Prop := v < 4294967296

/-- Well-formed commands: the operands of a request fit the fields of its frame body (R200), a handle is 0..65,535
(R25), and a sequence number has 32 bits (R125). -/
abbrev Instr.wf : Instr → Prop
  | .holdExpiryEvent handle _ => fitsBytes 2 handle
  | .balance _ card | .openPurse _ card | .closePurse _ card | .block _ card | .unblock _ card => fitsBytes 3 card
  | .hold _ card amount parts => fitsBytes 3 card ∧ fitsBytes 3 amount ∧ fitsBytes 1 parts
  | .capture _ handle amount final => fitsBytes 2 handle ∧ fitsBytes 3 amount ∧ fitsBytes 1 final
  | .release _ handle | .extend _ handle => fitsBytes 2 handle
  | .reverse _ receipt => fitsBytes 4 receipt
  | .topUp _ card amount | .withdraw _ card amount => fitsBytes 3 card ∧ fitsBytes 3 amount
  | .fundSponsor _ sponsor amount => fitsBytes 1 sponsor ∧ fitsBytes 4 amount
  | .readPurse _ slot => fitsBytes 2 slot
  | .readTotals _ part | .readConfig _ part => fitsBytes 1 part
  | .setRange _ entry enabled firstCard slotEnd grant sponsor limit =>
      fitsBytes 1 entry ∧ fitsBytes 1 enabled ∧ fitsBytes 3 firstCard ∧ fitsBytes 2 slotEnd ∧ fitsBytes 2 grant ∧
        fitsBytes 1 sponsor ∧ fitsBytes 3 limit
  | .setSponsorCount _ count => fitsBytes 1 count
  | .setLane _ named role holdLifetime silenceLimit holdLimit =>
      fitsBytes 1 named ∧ fitsBytes 1 role ∧ fitsBytes 2 holdLifetime ∧ fitsBytes 1 silenceLimit ∧
        fitsBytes 1 holdLimit
  | .setCeiling _ amount => fitsBytes 3 amount
  | .setLowMark _ amount => fitsBytes 4 amount
  | .setClock _ seconds => fitsBytes 3 seconds
  | .setSchedule _ entry time enable => fitsBytes 1 entry ∧ fitsBytes 3 time ∧ fitsBytes 1 enable
  | .setDrainLimit _ seconds => fitsBytes 2 seconds
  | .readJournal _ sequence => fitsBytes 4 sequence
  | .setRoute _ eventClass route => fitsBytes 1 eventClass ∧ fitsBytes 1 route
  | .clearEvents _ classes => fitsBytes 2 classes
  | .captureDurable s | .captureAbandoned s | .reversalDurable s | .reversalAbandoned s | .officeRecordDurable s
  | .officeRecordAbandoned s | .periodCloseDurable s | .periodCloseAbandoned s => fitsSequence s
  | .powerOnReset _ | .pinReset _ | .resetNLow _ | .restoreHeaderLoaded _ | .restoreRingScan _ | .restoreImages _
  | .journalExhaustion | .tick | .clockAdvance | .drainTimerExpiry | .drainEvent | .silenceTimerExpiry _
  | .laneLostEvent _ | .gapTimerExpiry _ | .byteReceived _ _ _ | .frameReceived _ _ | .frameSent _ | .laneGrant
  | .ping _ | .pollNotice _ | .saveConfig _ | .lockConfig _ | .closePeriod _ | .sync _ | .retryStore _
  | .formatStore _ | .readEvents _ | .storePortGrant | .writeStatusTimeout _ | .storeWriteComplete _ _
  | .retryHeaderRead _ | .journalReadComplete _ | .periodAdvance | .closeFailed => True

end Sys2Proof
end

