-- ==== Sys2Proof/Decode.lean ====
section
/-! DEFINITION. Bytes and commands: big-endian numbers, the CRC-16 of R199, request kinds and bodies (R199, R200), and
the decoder of the opcode table's words (the table gives no row any bits). -/

namespace Sys2Proof

/-- `v` in `n` bytes, most significant byte first (10_formats_and_signals.md); bits above are dropped. -/
def beBytes : Nat → Nat → List Byte
  | 0, _ => []
  | n + 1, v => BitVec.ofNat 8 (v / 256 ^ n) :: beBytes n v

/-- The number a run of bytes spells, most significant byte first. -/
def beNat (bytes : List Byte) : Nat := bytes.foldl (fun acc b => acc * 256 + b.toNat) 0

/-- The number in the `len` bytes from byte `off` on. -/
def readField (bytes : List Byte) (off len : Nat) : Nat := beNat ((bytes.drop off).take len)

/-- One bit of the CRC-16 with polynomial x^16+x^12+x^5+1, most significant bit first (R199). -/
def crcBit (c : BitVec 16) : BitVec 16 := if c.msb then (c <<< 1) ^^^ 0x1021#16 else c <<< 1

/-- One byte of the CRC-16 (R199): eight bit steps. -/
def crcByte (c : BitVec 16) (b : Byte) : BitVec 16 :=
  Nat.repeat crcBit 8 (c ^^^ (b.setWidth 16 <<< 8))

/-- The CRC-16 of R199: initial value FFFFh, no final inversion. -/
def crc16 (bytes : List Byte) : BitVec 16 := bytes.foldl crcByte 0xFFFF#16

/-- The check field of a frame, unit or header: the CRC-16, high byte first (R199). -/
def checkBytes (bytes : List Byte) : List Byte := beBytes 2 (crc16 bytes).toNat

/-- The start mark of a frame (R199). -/
def startMark : Byte := 0xA5#8

/-- The bytes of a frame around the bytes its length counts (R199): start mark, length, those bytes, check. -/
def frameBytes (counted : List Byte) : List Byte :=
  startMark :: BitVec.ofNat 8 counted.length :: counted ++ checkBytes counted

/-- The thirty-six request kinds (R200). -/
inductive RequestKind where
  | ping | pollNotice | balance | hold | capture | release | extend | reverse
  | openPurse | closePurse | block | unblock | topUp | withdraw | fundSponsor | readPurse
  | setLane | setRange | setSponsorCount | setCeiling | setLowMark | setSchedule | setDrainLimit | setRoute
  | saveConfig | lockConfig | readConfig | closePeriod | setClock | readTotals
  | sync | readJournal | retryStore | formatStore | clearEvents | readEvents
deriving DecidableEq, Repr

/-- The kind codes of R200. -/
def kindCode : RequestKind → Byte
  | .ping => 0x01 | .pollNotice => 0x02 | .balance => 0x03
  | .hold => 0x10 | .capture => 0x11 | .release => 0x12 | .extend => 0x13 | .reverse => 0x14
  | .openPurse => 0x20 | .closePurse => 0x21 | .block => 0x22 | .unblock => 0x23 | .topUp => 0x24 | .withdraw => 0x25
  | .fundSponsor => 0x26 | .readPurse => 0x27
  | .setLane => 0x30 | .setRange => 0x31 | .setSponsorCount => 0x32 | .setCeiling => 0x33 | .setLowMark => 0x34
  | .setSchedule => 0x35 | .setDrainLimit => 0x36 | .setRoute => 0x37 | .saveConfig => 0x38 | .lockConfig => 0x39
  | .readConfig => 0x3A
  | .closePeriod => 0x40 | .setClock => 0x41 | .readTotals => 0x42
  | .sync => 0x50 | .readJournal => 0x51 | .retryStore => 0x52 | .formatStore => 0x53
  | .clearEvents => 0x60 | .readEvents => 0x61

/-- Every request kind once. -/
def allKinds : List RequestKind :=
  [.ping, .pollNotice, .balance, .hold, .capture, .release, .extend, .reverse, .openPurse, .closePurse, .block,
   .unblock, .topUp, .withdraw, .fundSponsor, .readPurse, .setLane, .setRange, .setSponsorCount, .setCeiling,
   .setLowMark, .setSchedule, .setDrainLimit, .setRoute, .saveConfig, .lockConfig, .readConfig, .closePeriod,
   .setClock, .readTotals, .sync, .readJournal, .retryStore, .formatStore, .clearEvents, .readEvents]

/-- The request a kind byte names, or none (BAD_REQUEST, R155). -/
def kindOfCode (b : Byte) : Option RequestKind := allKinds.find? (fun k => kindCode k = b)

/-- The one body length of each request kind (R200). -/
def bodyLength : RequestKind → Nat
  | .hold => 7 | .capture => 6 | .reverse => 4 | .topUp | .withdraw => 6 | .fundSponsor => 5
  | .setLane => 6 | .setRange => 13 | .setLowMark => 4 | .setSchedule => 5 | .readJournal => 4
  | .balance | .openPurse | .closePurse | .block | .unblock | .setCeiling | .setClock => 3
  | .release | .extend | .readPurse | .setDrainLimit | .setRoute | .clearEvents => 2
  | .setSponsorCount | .readConfig | .readTotals => 1
  | .ping | .pollNotice | .saveConfig | .lockConfig | .closePeriod | .sync | .retryStore | .formatStore
  | .readEvents => 0

/-- The command a request frame of kind `k` on lane `l` spells (R200): the fields of its body in order. -/
def requestCommand (l : Lane) (k : RequestKind) (b : List Byte) : Instr :=
  match k with
  | .ping => .ping l
  | .pollNotice => .pollNotice l
  | .balance => .balance l (readField b 0 3)
  | .hold => .hold l (readField b 0 3) (readField b 3 3) (readField b 6 1)
  | .capture => .capture l (readField b 0 2) (readField b 2 3) (readField b 5 1)
  | .release => .release l (readField b 0 2)
  | .extend => .extend l (readField b 0 2)
  | .reverse => .reverse l (readField b 0 4)
  | .openPurse => .openPurse l (readField b 0 3)
  | .closePurse => .closePurse l (readField b 0 3)
  | .block => .block l (readField b 0 3)
  | .unblock => .unblock l (readField b 0 3)
  | .topUp => .topUp l (readField b 0 3) (readField b 3 3)
  | .withdraw => .withdraw l (readField b 0 3) (readField b 3 3)
  | .fundSponsor => .fundSponsor l (readField b 0 1) (readField b 1 4)
  | .readPurse => .readPurse l (readField b 0 2)
  | .setLane =>
      .setLane l (readField b 0 1) (readField b 1 1) (readField b 2 2) (readField b 4 1) (readField b 5 1)
  | .setRange =>
      .setRange l (readField b 0 1) (readField b 1 1) (readField b 2 3) (readField b 5 2) (readField b 7 2)
        (readField b 9 1) (readField b 10 3)
  | .setSponsorCount => .setSponsorCount l (readField b 0 1)
  | .setCeiling => .setCeiling l (readField b 0 3)
  | .setLowMark => .setLowMark l (readField b 0 4)
  | .setSchedule => .setSchedule l (readField b 0 1) (readField b 1 3) (readField b 4 1)
  | .setDrainLimit => .setDrainLimit l (readField b 0 2)
  | .setRoute => .setRoute l (readField b 0 1) (readField b 1 1)
  | .saveConfig => .saveConfig l
  | .lockConfig => .lockConfig l
  | .readConfig => .readConfig l (readField b 0 1)
  | .closePeriod => .closePeriod l
  | .setClock => .setClock l (readField b 0 3)
  | .readTotals => .readTotals l (readField b 0 1)
  | .sync => .sync l
  | .readJournal => .readJournal l (readField b 0 4)
  | .retryStore => .retryStore l
  | .formatStore => .formatStore l
  | .clearEvents => .clearEvents l (readField b 0 2)
  | .readEvents => .readEvents l

/-- The lane, kind and body of the request frame that spells a command (R200), or none for a command that is no
request. -/
def encodeRequest : Instr → Option (Lane × RequestKind × List Byte)
  | .ping l => some (l, .ping, [])
  | .pollNotice l => some (l, .pollNotice, [])
  | .balance l card => some (l, .balance, beBytes 3 card)
  | .hold l card amount parts => some (l, .hold, beBytes 3 card ++ beBytes 3 amount ++ beBytes 1 parts)
  | .capture l handle amount final => some (l, .capture, beBytes 2 handle ++ beBytes 3 amount ++ beBytes 1 final)
  | .release l handle => some (l, .release, beBytes 2 handle)
  | .extend l handle => some (l, .extend, beBytes 2 handle)
  | .reverse l receipt => some (l, .reverse, beBytes 4 receipt)
  | .openPurse l card => some (l, .openPurse, beBytes 3 card)
  | .closePurse l card => some (l, .closePurse, beBytes 3 card)
  | .block l card => some (l, .block, beBytes 3 card)
  | .unblock l card => some (l, .unblock, beBytes 3 card)
  | .topUp l card amount => some (l, .topUp, beBytes 3 card ++ beBytes 3 amount)
  | .withdraw l card amount => some (l, .withdraw, beBytes 3 card ++ beBytes 3 amount)
  | .fundSponsor l sponsor amount => some (l, .fundSponsor, beBytes 1 sponsor ++ beBytes 4 amount)
  | .readPurse l slot => some (l, .readPurse, beBytes 2 slot)
  | .readTotals l part => some (l, .readTotals, beBytes 1 part)
  | .setRange l entry enabled firstCard slotEnd grant sponsor limit =>
      some (l, .setRange, beBytes 1 entry ++ beBytes 1 enabled ++ beBytes 3 firstCard ++ beBytes 2 slotEnd ++
        beBytes 2 grant ++ beBytes 1 sponsor ++ beBytes 3 limit)
  | .setSponsorCount l count => some (l, .setSponsorCount, beBytes 1 count)
  | .setLane l named role holdLifetime silenceLimit holdLimit =>
      some (l, .setLane, beBytes 1 named ++ beBytes 1 role ++ beBytes 2 holdLifetime ++ beBytes 1 silenceLimit ++
        beBytes 1 holdLimit)
  | .setCeiling l amount => some (l, .setCeiling, beBytes 3 amount)
  | .setLowMark l amount => some (l, .setLowMark, beBytes 4 amount)
  | .saveConfig l => some (l, .saveConfig, [])
  | .lockConfig l => some (l, .lockConfig, [])
  | .readConfig l part => some (l, .readConfig, beBytes 1 part)
  | .closePeriod l => some (l, .closePeriod, [])
  | .setClock l seconds => some (l, .setClock, beBytes 3 seconds)
  | .setSchedule l entry time enable => some (l, .setSchedule, beBytes 1 entry ++ beBytes 3 time ++ beBytes 1 enable)
  | .setDrainLimit l seconds => some (l, .setDrainLimit, beBytes 2 seconds)
  | .sync l => some (l, .sync, [])
  | .readJournal l sequence => some (l, .readJournal, beBytes 4 sequence)
  | .retryStore l => some (l, .retryStore, [])
  | .formatStore l => some (l, .formatStore, [])
  | .setRoute l eventClass route => some (l, .setRoute, beBytes 1 eventClass ++ beBytes 1 route)
  | .clearEvents l classes => some (l, .clearEvents, beBytes 2 classes)
  | .readEvents l => some (l, .readEvents, [])
  | .powerOnReset _ | .pinReset _ | .resetNLow _ | .restoreHeaderLoaded _ | .restoreRingScan _ | .restoreImages _
  | .journalExhaustion | .tick | .holdExpiryEvent _ _ | .clockAdvance | .drainTimerExpiry | .drainEvent
  | .silenceTimerExpiry _ | .laneLostEvent _ | .gapTimerExpiry _ | .byteReceived _ _ _ | .frameReceived _ _
  | .frameSent _ | .laneGrant | .storePortGrant | .writeStatusTimeout _ | .storeWriteComplete _ _
  | .retryHeaderRead _ | .journalReadComplete _ | .captureDurable _ | .captureAbandoned _ | .reversalDurable _
  | .reversalAbandoned _ | .officeRecordDurable _ | .officeRecordAbandoned _ | .periodCloseDurable _
  | .periodAdvance | .periodCloseAbandoned _ | .closeFailed => none

/-- The request a frame of kind byte `kind` and body `body` spells on lane `l`: its kind is known and its body has the
kind's length (R155, R200). -/
def decodeRequest (l : Lane) (kind : Byte) (body : List Byte) : Option Instr :=
  match kindOfCode kind with
  | some k => if body.length = bodyLength k then some (requestCommand l k body) else none
  | none => none

/-- The command an opcode-table word spells: no row of the table gives bits, so none. -/
def decodeTableWord (_nbits _w : Nat) : Option Instr := none

end Sys2Proof
end

