-- ==== Sys2Proof/Config.lean ====
section
/-! DEFINITION. What the manual leaves to the implementation: free values, with no body. -/

namespace Sys2Proof

/-- FREE VALUE (log entry 17). The purse state, by its code in R203, that the restore gives a purse slot whose image or
record is valid (R124) and carries state code 3, by the slot and the sequence number it carries: R203 lists no state of that
code, and R192 fits the states it lists. -/
opaque Config.unlistedState : Nat → Nat → Fin 3

/-- FREE VALUE (log entry 34). Whether a request kind, by its byte, that the role of a LOST lane does not allow is refused
there for the loss, LANE_RECOVERING (R52, R162, the second row of R165), or for the role, NOT_PERMITTED (R155, R157, R190):
the rules name both answers. -/
opaque Config.lossRefusesFirst : Byte → Bool

end Sys2Proof
end

