-- ==== Sys2Proof/Machine/Types.lean ====
section
/-! DEFINITION. The kinds of things the GH-4812 holds: named values, records, lists, slots. Plain data only. -/

namespace Sys2Proof.Machine

/-- Data by key, a canonical list (Machine/Table.lean): keys rising, no entry equal to what an unlisted key holds. -/
abbrev Table (α : Type) := List (Nat × α)

/-! ## Named values (R203) and results (R202) -/

/-- The results a reply can carry (R202). -/
inductive Result where
  | ok | busy | badRequest | badLength | badValue | badAmount | notPermitted | notReady | laneRecovering
  | noCard | blocked | alreadyOpen | pendingRecord | noChange
  | insufficient | overLimit | ceiling | purseHoldsFull | laneHoldsFull | notEmpty | holdsPresent | purseClosed
  | holdGone | holdBusy | notOwner | overHold | extendLimit | notFound | alreadyReversed | reversalPending | tooLate
  | periodClosing | alreadyClosing | storeFault | outOfRange
  | inUse | overlap | badOrder | cardsOverlap | locked | lastOffice
deriving DecidableEq, Repr

/-- Lane roles (R148). -/
inductive Role where | off | till | office
deriving DecidableEq, Repr

/-- Lane states (R161). -/
inductive LaneState where | idle | active | lost
deriving DecidableEq, Repr

/-- Part states (R189). -/
inductive PartState where | restoring | unformatted | restoreFailed | formatting | ready
deriving DecidableEq, Repr

/-- Store states (R134). -/
inductive StoreState where | ok | fault
deriving DecidableEq, Repr

/-- Period states (R105). -/
inductive PeriodState where | opened | freezing | closeWrite
deriving DecidableEq, Repr

/-- States of a card purse (R2). `unlisted` is what a stored unit carries whose two-bit state code is 3, a code R203 does not
list; no purse of the table is in it (log entry 17). -/
inductive PurseState where | free | opened | blocked | unlisted
deriving DecidableEq, Repr

/-- States of a hold (R24). -/
inductive HoldState where | free | live | settling
deriving DecidableEq, Repr

/-- Why a hold ended (R27). -/
inductive EndReason where | unknown | captured | released | expired | laneLost | drained | officeReleased
deriving DecidableEq, Repr

/-- The end mark of a SETTLING hold (R24, R59). -/
inductive EndMark where | unmarked | laneLost | drained
deriving DecidableEq, Repr

/-- Reversal state of a capture ring entry (R68). -/
inductive ReversalState where | notReversed | queued | done
deriving DecidableEq, Repr

/-- Configuration sources (R181). -/
inductive ConfigSource where | header | defaults | formatted
deriving DecidableEq, Repr

/-- Restore findings (R189). -/
inductive Finding where
  | none | noMark | badHeader | ringInconsistent | imageInvalid | purseMisplaced | pursesWithoutConfig | storeWrite
deriving DecidableEq, Repr

/-- The ten event classes (R175), in the order of their codes (R203). -/
inductive EventClass where
  | storeFault | storeRestored | periodClosed | closeFailed | holdsDrained | laneLost | sponsorLow | linkErrors
  | configDefaulted | totalsPartial
deriving DecidableEq, Repr

/-- A timer that counts ticks: stopped, running to an expiry tick, or due because the tick count has reached it and the
expiry has not yet been taken (R105, R123, R162). -/
inductive Timer where
  | stopped
  | running (at_ : Tick)
  | due (at_ : Tick)
deriving DecidableEq, Repr

/-! ## Lanes -/

/-- The role and three settings of a lane (R148), times in seconds. -/
structure LaneSettings where
  role : Role
  holdLifetime : Nat
  silenceLimit : Nat
  holdLimit : Nat
deriving DecidableEq, Repr

/-- A valid request frame: kind byte, tag, body (R199). -/
structure Frame where
  kind : Byte
  tag : Byte
  body : List Byte
deriving DecidableEq, Repr

/-- A reply or BUSY frame: kind and tag of the frame answered, result, body (R153, R199). -/
structure ReplyFrame where
  kind : Byte
  tag : Byte
  result : Result
  body : List Byte
deriving DecidableEq, Repr

/-- The receiver of a Lane Unit (R151); `closed` in role OFF and before the lanes are opened (R148, R167). A frame in
reception keeps its bytes from the length byte on. -/
inductive Receiver where
  | closed
  | hunt
  | receiving (got : List Byte)
  | discarding
deriving DecidableEq, Repr

/-- The request slot (R154). -/
inductive RequestSlot where
  | empty
  | waiting (f : Frame)
  | withOwner (f : Frame)
  | replying (f : Frame)
deriving DecidableEq, Repr

/-- The two slots the transmitter sends from (R153). -/
inductive TxSlot where | reply | busy
deriving DecidableEq, Repr

/-- A Lane Unit (R148 to R167). `tx` lists the filled slots in the order they were filled; its head is being sent. -/
structure LaneUnit where
  settings : LaneSettings
  state : LaneState
  receiver : Receiver
  request : RequestSlot
  reply : Option ReplyFrame
  busy : Option ReplyFrame
  tx : List TxSlot
  silence : Timer
  linkError : Bool
  noticeAwaited : Bool
deriving DecidableEq, Repr

/-- The Lane Arbiter (R159): the lane granted last, and the lane whose request is handed on and not yet taken. -/
structure Arbiter where
  pointer : Lane
  intake : Option Lane
deriving DecidableEq, Repr

/-! ## Purses, range map, holds -/

/-- A card purse (R2, R84). -/
structure CardPurse where
  state : PurseState
  cardNumber : Nat
  cashBalance : Nat
  cashHeld : Nat
  cashOutgoing : Nat
  topUpPending : Nat
  allowanceRemaining : Nat
  allowanceHeld : Nat
  allowancePeriod : Nat
  spent : Nat
  holdList : List Nat
  pendingRecords : Nat
  closeQueued : Bool
deriving DecidableEq, Repr

/-- A sponsor purse (R4). -/
structure SponsorPurse where
  balance : Nat
  held : Nat
  pendingRecords : Nat
deriving DecidableEq, Repr

/-- A range entry (R10). -/
structure RangeEntry where
  enabled : Bool
  firstCard : Nat
  slotEnd : Nat
  grant : Nat
  sponsor : Option Nat
  limit : Nat
deriving DecidableEq, Repr

/-- A hold record (R24). -/
structure Hold where
  generation : Nat
  state : HoldState
  lane : Lane
  cardSlot : Nat
  sponsor : Option Nat
  allowanceShare : Nat
  cashShare : Nat
  partsRemaining : Nat
  capturedSoFar : Nat
  deadline : Tick
  extensionsUsed : Nat
  period : Nat
  endMark : EndMark
  deadlinePassed : Bool
  endReason : EndReason
  lastReceipt : Option Nat
deriving DecidableEq, Repr

/-- A deadline-list entry (R30). -/
structure DeadlineEntry where
  deadline : Tick
  handle : Nat
deriving DecidableEq, Repr

/-- A capture ring entry (R67). -/
structure RingEntry where
  receipt : Nat
  lane : Lane
  cardSlot : Nat
  cardNumber : Nat
  sponsor : Option Nat
  allowancePart : Nat
  cashPart : Nat
  period : Nat
  reversal : ReversalState
  closedMark : Bool
deriving DecidableEq, Repr

/-- The sixteen period totals (R120). -/
structure Totals where
  captureCount : Nat
  capturedCash : Nat
  capturedAllowance : Nat
  lanes : Vector Nat 8
  reversedCash : Nat
  reversedAllowance : Nat
  topUps : Nat
  withdrawals : Nat
  funding : Nat
deriving DecidableEq, Repr

/-- The closed-period totals (R120). -/
structure ClosedTotals where
  totals : Totals
  partialMark : Bool
  period : Nat
deriving DecidableEq, Repr

/-! ## Journal records -/

/-- The card after-state of a record (R129). -/
structure CardAfter where
  state : PurseState
  cardNumber : Nat
  cashBalance : Nat
  allowanceRemaining : Nat
  allowancePeriod : Nat
  spent : Nat
deriving DecidableEq, Repr

/-- A sponsor named by a record, with the sponsor after-state (R129). -/
structure SponsorAfter where
  sponsor : Nat
  balance : Nat
deriving DecidableEq, Repr

/-- Who started a close (R105): a lane, or a schedule entry. -/
inductive Origin where
  | lane (l : Lane)
  | schedule (entry : Nat)
deriving DecidableEq, Repr

/-- The five totals a PERIOD_CLOSE record carries, and the partial mark (R111). -/
structure CloseFigures where
  captureCount : Nat
  capturedCash : Nat
  capturedAllowance : Nat
  reversedCash : Nat
  reversedAllowance : Nat
  partialMark : Bool
deriving DecidableEq, Repr

/-- The four record kinds that change a purse's state (R129). -/
inductive StateKind where | openPurse | closePurse | block | unblock
deriving DecidableEq, Repr

/-- What a record carries beside its head, by kind (R129). The referenced receipt of a REVERSAL read back from the
store is 0 when it is beyond reach (R205). -/
inductive RecordBody where
  | capture (slot : Nat) (card : CardAfter) (sponsor : Option SponsorAfter) (allowancePart cashPart : Nat)
  | reversal (slot : Nat) (card : CardAfter) (sponsor : Option SponsorAfter) (allowancePart cashPart : Nat)
      (receipt : Nat) (cardTakesBack : Bool)
  | topUp (slot : Nat) (card : CardAfter) (amount : Nat)
  | withdraw (slot : Nat) (card : CardAfter) (amount : Nat)
  | change (kind : StateKind) (slot : Nat) (card : CardAfter)
  | fund (sponsor : SponsorAfter) (amount : Nat)
  | periodClose (origin : Origin) (clock : Option Nat) (figures : CloseFigures)
deriving DecidableEq, Repr

/-- A journal record (R129). -/
structure Record where
  sequence : Nat
  lane : Lane
  period : Nat
  body : RecordBody
deriving DecidableEq, Repr

/-- The owner that travels with a queued record (R129). -/
inductive Owner where
  | request (lane : Lane)
  | capture (lane : Lane) (handle : Nat) (final : Bool)
  | reversal (lane : Lane) (receipt : Nat)
  | periodControl
deriving DecidableEq, Repr

/-- An entry of the journal queue (R128). -/
structure QueueEntry where
  record : Record
  owner : Owner
  writing : Bool
deriving DecidableEq, Repr

/-- A durable or abandoned event on its way to the Balance Engine (R130, R134). -/
inductive JournalEvent where
  | durable (record : Record) (owner : Owner)
  | abandoned (record : Record) (owner : Owner)
deriving DecidableEq, Repr

/-- What the engine passes on to Period Control (R117, R118). -/
inductive CloseEnd where | durable | abandoned
deriving DecidableEq, Repr

/-! ## Store port -/

/-- A write under way (R123): where, what, which attempt, and the 2-tick limit on its status. -/
structure StoreWrite where
  address : Nat
  bytes : List Byte
  attempt : Nat
  timer : Timer
deriving DecidableEq, Repr

/-- The operation that holds the store port, and its step (R142). -/
inductive PortOp where
  | recordWrite (record : Record)
  | imageWrites (record : Record) (slot : Nat) (rest : List Nat)
  | staleImage (slot : Nat)
  | saveBlock (lanes : List Lane) (check : List Byte)
  | saveCheck (lanes : List Lane)
  | journalRead (lane : Lane) (sequence : Nat) (readsDone : Nat) (voided : Bool)
  | retryHeader
  | retryCheck
  | retryVoid
  | formatClear
  | formatVoid (ringSlot : Nat)
  | formatImage (slot : Nat)
  | formatHeader
  | restoreImage
deriving DecidableEq, Repr

/-- The port in use: the operation, and the write it has under way, if any. -/
structure PortUse where
  op : PortOp
  write : Option StoreWrite
deriving DecidableEq, Repr

/-- A journal read waiting for the port (R144); `voided` is set when a retry has since made its slot void (R145). -/
structure ReadWait where
  lane : Lane
  sequence : Nat
  voided : Bool
deriving DecidableEq, Repr

/-- A waiting SYNC and its mark (R143). -/
structure SyncWait where
  lane : Lane
  mark : Nat
deriving DecidableEq, Repr

/-! ## Notices -/

/-- A notice with the fields its kind has (R168). -/
inductive Notice where
  | holdExpired (handle card : Nat) (tick : Tick)
  | holdDrained (handle card : Nat) (tick : Tick)
  | holdEnded (handle card : Nat) (tick : Tick)
  | laneLost (count : Nat) (tick : Tick)
  | event (eventClass : EventClass) (tick : Tick)
deriving DecidableEq, Repr

/-- A lane's notice queue, notice-lost mark and attention output (R168, R171). -/
structure NoticeLane where
  queue : List Notice
  lost : Bool
  attention : Bool
deriving DecidableEq, Repr

/-! ## Configuration and restore -/

/-- A schedule entry (R103). -/
structure ScheduleEntry where
  time : Nat
  enabled : Bool
deriving DecidableEq, Repr

/-- The working configuration, gathered from the blocks that hold it (R181). -/
structure WorkingConfig where
  sponsorCount : Nat
  ceiling : Nat
  lowMark : Nat
  drainLimit : Nat
  lanes : Vector LaneSettings 8
  schedule : Vector ScheduleEntry 6
  ranges : Vector RangeEntry 8
  routes : Vector (Option Lane) 10
deriving DecidableEq, Repr

/-- An image of a purse in the store (R133), with its sequence number. -/
inductive Image where
  | card (after : CardAfter) (sequence : Nat)
  | sponsor (balance : Nat) (sequence : Nat)
deriving DecidableEq, Repr

/-- The step of the restore that comes next (R188 to R195), with what the steps before it found. `records` are the
valid records of the ring slots examined, lowest sequence first, and `newest` is N (R191). -/
inductive RestoreStage where
  | idle
  | header
  | ringScan (defaulted : Bool)
  | images (defaulted : Bool) (newest : Nat) (records : List Record)
  | rewriting (newest : Nat) (records : List Record) (rest : List (Nat × List Byte))
deriving DecidableEq, Repr

end Sys2Proof.Machine
end

