-- ==== Sys2Proof/Machine/Table.lean ====
section
/-! DEFINITION. Data by key in one canonical form: keys strictly rising, no entry equal to the value `d` that an
unlisted key holds. The purse, sponsor and hold tables and the store's bytes are kept so. -/

namespace Sys2Proof.Machine

/-- What key `k` holds. -/
def Table.get {α : Type} (d : α) (k : Nat) : Table α → α
  | [] => d
  | (j, w) :: t => if k = j then w else Table.get d k t

/-- Write `v` at key `k`; writing what an unlisted key holds removes the entry. -/
def Table.put {α : Type} [DecidableEq α] (d : α) (k : Nat) (v : α) : Table α → Table α
  | [] => if v = d then [] else [(k, v)]
  | (j, w) :: t =>
    if k < j then (if v = d then (j, w) :: t else (k, v) :: (j, w) :: t)
    else if k = j then (if v = d then t else (k, v) :: t)
    else (j, w) :: Table.put d k v t

/-- Every key of the rest is above `lo`, and no entry holds `d`. -/
def Table.above {α : Type} [DecidableEq α] (d : α) (lo : Nat) : Table α → Bool
  | [] => true
  | (j, w) :: t => decide (lo < j) && !decide (w = d) && Table.above d j t

/-- The canonical form. -/
def Table.wf {α : Type} [DecidableEq α] (d : α) : Table α → Bool
  | [] => true
  | (j, w) :: t => !decide (w = d) && Table.above d j t

/-- Change what every listed key from `lo` up to `hi - 1` holds by `f`, which leaves `d` as it is; a key that comes to hold `d` is no
longer listed. -/
def Table.mapRange {α : Type} [DecidableEq α] (d : α) (lo hi : Nat) (f : α → α) (t : Table α) : Table α :=
  t.filterMap fun (k, v) =>
    if lo ≤ k ∧ k < hi then (if f v = d then none else some (k, f v)) else some (k, v)

/-- Empty every key from `lo` up to `hi - 1`. -/
def Table.clearRange {α : Type} (lo hi : Nat) (t : Table α) : Table α := t.filter (fun e => e.1 < lo || hi ≤ e.1)

end Sys2Proof.Machine
end

