-- ==== Sys2Proof/Machine/Blocks.lean ====
section
/-! DEFINITION. What each block of the GH-4812 owns (00_scope.md 1.2). Plain data only. -/

namespace Sys2Proof.Machine

/-- The store's bytes (R204): a canonical table in which an unlisted byte reads 00h (DESIGN CHOICE, log entry 5). -/
abbrev Memory := Table Byte

/-- The canonical form of the store's bytes. -/
def Memory.wf (m : Memory) : Bool := Table.wf 0 m

/-- What the Balance Engine owns (R1 to R99, R120), and the events sent to it that it has not yet taken. -/
structure Engine where
  cards : Table CardPurse
  sponsors : Table SponsorPurse
  sponsorCount : Nat
  ranges : Vector RangeEntry 8
  holds : Table Hold
  freeList : List Nat
  laneHolds : Vector (List Nat) 8
  ring : List RingEntry
  totals : Totals
  partialMark : Bool
  closed : ClosedTotals
  expiries : List (Nat × Tick)
  lostLanes : List Lane
  drains : Nat
  journalEvents : List JournalEvent
deriving DecidableEq, Repr

/-- What the Deadline Unit owns (R29, R30). -/
structure DeadlineUnit where
  tick : Tick
  list : List DeadlineEntry
deriving DecidableEq, Repr

/-- What Period Control owns (R100 to R119); `clockDue` counts clock advances due and not yet taken, and `closeEnd`
is the event the engine has passed on. -/
structure PeriodControl where
  number : Nat
  state : PeriodState
  clock : Option Nat
  clockTicks : Nat
  clockDue : Nat
  schedule : Vector ScheduleEntry 6
  drainLimit : Nat
  drainTimer : Timer
  holdCount : Nat
  origin : Option Origin
  closeEnd : Option CloseEnd
deriving DecidableEq, Repr

/-- What the Journal Unit owns (R122 to R147). -/
structure JournalUnit where
  queue : List QueueEntry
  lastDurable : Nat
  nextSeq : Nat
  store : StoreState
  stale : List Nat
  voidSlot : Option Nat
  exhaustionDue : Bool
  port : Option PortUse
  reads : List ReadWait
  syncs : List SyncWait
  retry : Option (List Lane)
  save : Option (List Lane)
deriving DecidableEq, Repr

/-- What the Notice Unit owns (R168 to R180). Flag n is bit n (R203). -/
structure NoticeUnit where
  lanes : Vector NoticeLane 8
  flags : BitVec 10
  routes : Vector (Option Lane) 10
deriving DecidableEq, Repr

/-- What the Configuration Unit owns (R96, R181, R182). -/
structure ConfigUnit where
  ceiling : Nat
  lowMark : Nat
  source : ConfigSource
  lock : Bool
deriving DecidableEq, Repr

/-- What the Restore Unit owns (R188 to R198); `inReset` holds from RESET_N going low to the end of the pin reset. -/
structure RestoreUnit where
  part : PartState
  finding : Finding
  stage : RestoreStage
  ringBase : Nat
  formatPeriod : Nat
  format : Option Lane
  inReset : Bool
deriving DecidableEq, Repr

end Sys2Proof.Machine
end

