-- ==== Sys2Proof/Machine/Defaults.lean ====
section
/-! DEFINITION. The values of each record that nothing has written, the default configuration (R23, R53, R148,
R181), and each block after a reset. Card number 0 of a FREE purse, and the fields of a FREE hold that R53 does not name, are DESIGN CHOICE (log
entry 7). -/

namespace Sys2Proof.Machine

/-- A FREE card purse with zero amounts and allowance period 0 (R22). -/
def CardPurse.free : CardPurse :=
  { state := .free, cardNumber := 0, cashBalance := 0, cashHeld := 0, cashOutgoing := 0, topUpPending := 0,
    allowanceRemaining := 0, allowanceHeld := 0, allowancePeriod := 0, spent := 0, holdList := [],
    pendingRecords := 0, closeQueued := false }

/-- A sponsor purse at balance 0 (R19, R22). -/
def SponsorPurse.zero : SponsorPurse := { balance := 0, held := 0, pendingRecords := 0 }

/-- A hold slot after reset (R53). -/
def Hold.free : Hold :=
  { generation := 0, state := .free, lane := 0, cardSlot := 0, sponsor := none, allowanceShare := 0, cashShare := 0,
    partsRemaining := 0, capturedSoFar := 0, deadline := 0, extensionsUsed := 0, period := 0, endMark := .unmarked,
    deadlinePassed := false, endReason := .unknown, lastReceipt := none }

/-- All sixteen totals at 0 (R120). -/
def Totals.zero : Totals :=
  { captureCount := 0, capturedCash := 0, capturedAllowance := 0, lanes := Vector.replicate 8 0, reversedCash := 0,
    reversedAllowance := 0, topUps := 0, withdrawals := 0, funding := 0 }

/-- The default of a range entry (R23). -/
def RangeEntry.default : RangeEntry :=
  { enabled := false, firstCard := 1, slotEnd := 0, grant := 0, sponsor := none, limit := 0 }

/-- The default settings of a lane (R148): lane 0 OFFICE, lanes 1..7 TILL; 90 s, 15 s, 32. -/
def LaneSettings.default (l : Lane) : LaneSettings :=
  { role := if l = 0 then .office else .till, holdLifetime := 90, silenceLimit := 15, holdLimit := 32 }

/-- The default configuration (R181). -/
def WorkingConfig.default : WorkingConfig :=
  { sponsorCount := 0, ceiling := 50000, lowMark := 10000, drainLimit := 120,
    lanes := Vector.ofFn LaneSettings.default,
    schedule := Vector.replicate 6 { time := 0, enabled := false },
    ranges := Vector.replicate 8 RangeEntry.default,
    routes := Vector.replicate 10 (some 0) }

/-- A Lane Unit after reset (R167), with the given settings: IDLE, slots empty, timer stopped, receive line closed. -/
def LaneUnit.afterReset (settings : LaneSettings) : LaneUnit :=
  { settings := settings, state := .idle, receiver := .closed, request := .empty, reply := none, busy := none,
    tx := [], silence := .stopped, linkError := false, noticeAwaited := false }

/-- The Balance Engine after either reset, before the restore (R22, R53, R69, R120), under a configuration's sponsor
count and range map. -/
def Engine.afterReset (c : WorkingConfig) : Engine :=
  { cards := [], sponsors := [], sponsorCount := c.sponsorCount, ranges := c.ranges, holds := [],
    freeList := List.range 512, laneHolds := Vector.replicate 8 [], ring := [], totals := Totals.zero,
    partialMark := false, closed := { totals := Totals.zero, partialMark := false, period := 0 },
    expiries := [], lostLanes := [], drains := 0, journalEvents := [] }

/-- The Deadline Unit after either reset (R29, R53). -/
def DeadlineUnit.afterReset : DeadlineUnit := { tick := 0, list := [] }

/-- Period Control after either reset, before the restore (R101, R105, R119, R166). -/
def PeriodControl.afterReset (c : WorkingConfig) : PeriodControl :=
  { number := 0, state := .opened, clock := none, clockTicks := 0, clockDue := 0, schedule := c.schedule,
    drainLimit := c.drainLimit, drainTimer := .stopped, holdCount := 0, origin := none, closeEnd := none }

/-- The Journal Unit after either reset, before the restore (R147). -/
def JournalUnit.afterReset : JournalUnit :=
  { queue := [], lastDurable := 0, nextSeq := 1, store := .ok, stale := [], voidSlot := none, exhaustionDue := false,
    port := none, reads := [], syncs := [], retry := none, save := none }

/-- The Notice Unit after either reset (R180). -/
def NoticeUnit.afterReset (c : WorkingConfig) : NoticeUnit :=
  { lanes := Vector.replicate 8 { queue := [], lost := false, attention := false }, flags := 0, routes := c.routes }

/-- The Configuration Unit after a reset, before the restore (R96, R182): the lock is cleared by a power-on reset and
kept by a pin reset. -/
def ConfigUnit.afterReset (c : WorkingConfig) (lock : Bool) : ConfigUnit :=
  { ceiling := c.ceiling, lowMark := c.lowMark, source := .defaults, lock := lock }

/-- The Restore Unit after either reset (R187, R189). -/
def RestoreUnit.afterReset : RestoreUnit :=
  { part := .restoring, finding := .none, stage := .header, ringBase := 1, formatPeriod := 1, format := none,
    inReset := false }

/-- The Lane Units after either reset, before the restore (R167). -/
def lanesAfterReset : Vector LaneUnit 8 := Vector.ofFn (fun l => LaneUnit.afterReset (LaneSettings.default l))

end Sys2Proof.Machine
end

