-- ==== Sys2Proof/Machine/State.lean ====
section
/-! DEFINITION. The state of the GH-4812, the reasons a step can stop, and the state after a power-on reset. -/

namespace Sys2Proof.Machine

/-- The GH-4812 with its store, and the queue of commands that wait. -/
structure State where
  lanes : Vector LaneUnit 8
  arbiter : Arbiter
  engine : Engine
  deadlines : DeadlineUnit
  period : PeriodControl
  journal : JournalUnit
  notices : NoticeUnit
  config : ConfigUnit
  restore : RestoreUnit
  memory : Memory
  pending : List Instr
deriving DecidableEq, Repr

/-- The faults of the model. -/
inductive Fault where
  /-- Raised by HOLD alone, when a request passes every check and the free list is empty. R26 and R28 exclude it: at
  most 448 of the 512 slots are in use. Safe: the model stops where the manual says nothing (log entry 18). -/
  | freeListEmpty
deriving DecidableEq, Repr

/-- The refusals of the model. -/
inductive Refusal where
  /-- Raised by exec for a command that has no meaning yet. Safe: nothing is claimed of it. -/
  | notModelled (mnemonic : String)
deriving DecidableEq, Repr

/-- What a step answers. -/
abbrev Answer := Host.Outcome State Fault Refusal

/-- The part right after a reset, before the restore's first step (R187), with the given config lock, store contents
and waiting commands. Every block stands at its own chapter's value after reset; what the restore sets stands at the
values of log entry 7. -/
def State.afterReset (lock : Bool) (memory : Memory) (pending : List Instr) : State :=
  { lanes := lanesAfterReset,
    arbiter := { pointer := 0, intake := none },
    engine := Engine.afterReset WorkingConfig.default,
    deadlines := DeadlineUnit.afterReset,
    period := PeriodControl.afterReset WorkingConfig.default,
    journal := JournalUnit.afterReset,
    notices := NoticeUnit.afterReset WorkingConfig.default,
    config := ConfigUnit.afterReset WorkingConfig.default lock,
    restore := RestoreUnit.afterReset,
    memory := memory, pending := pending }

/-- The part after a power-on reset over a store in which nothing is listed, with no command waiting. -/
def State.reset : State := State.afterReset false [] []

end Sys2Proof.Machine
end

