-- ==== Sys2Proof/Machine/Operands.lean ====
section
/-! DEFINITION. The codes of named values (R202, R203) and the values each request field may take. -/

namespace Sys2Proof.Machine

/-- The result codes of R202. -/
def resultCode : Result → Byte
  | .ok => 0x00 | .busy => 0x01 | .badRequest => 0x02 | .badLength => 0x03 | .badValue => 0x04 | .badAmount => 0x05
  | .notPermitted => 0x06 | .notReady => 0x07 | .laneRecovering => 0x08
  | .noCard => 0x10 | .blocked => 0x11 | .alreadyOpen => 0x12 | .pendingRecord => 0x13 | .noChange => 0x14
  | .insufficient => 0x15 | .overLimit => 0x16 | .ceiling => 0x17 | .purseHoldsFull => 0x18 | .laneHoldsFull => 0x19
  | .notEmpty => 0x1B | .holdsPresent => 0x1C | .purseClosed => 0x1D
  | .holdGone => 0x20 | .holdBusy => 0x21 | .notOwner => 0x22 | .overHold => 0x23 | .extendLimit => 0x24
  | .notFound => 0x25 | .alreadyReversed => 0x26 | .reversalPending => 0x27 | .tooLate => 0x28
  | .periodClosing => 0x30 | .alreadyClosing => 0x31 | .storeFault => 0x39 | .outOfRange => 0x3A
  | .inUse => 0x40 | .overlap => 0x41 | .badOrder => 0x42 | .cardsOverlap => 0x43 | .locked => 0x44
  | .lastOffice => 0x45

def roleCode : Role → Nat | .off => 0 | .till => 1 | .office => 2
def laneStateCode : LaneState → Nat | .idle => 0 | .active => 1 | .lost => 2
def partCode : PartState → Nat
  | .restoring => 0 | .unformatted => 1 | .restoreFailed => 2 | .formatting => 3 | .ready => 4
def storeCode : StoreState → Nat | .ok => 0 | .fault => 1
def periodCode : PeriodState → Nat | .opened => 0 | .freezing => 1 | .closeWrite => 2
def purseCode : PurseState → Nat | .free => 0 | .opened => 1 | .blocked => 2 | .unlisted => 3
def endReasonCode : EndReason → Nat
  | .unknown => 0 | .captured => 1 | .released => 2 | .expired => 3 | .laneLost => 4 | .drained => 5
  | .officeReleased => 6
def sourceCode : ConfigSource → Nat | .header => 0 | .defaults => 1 | .formatted => 2
def findingCode : Finding → Nat
  | .none => 0 | .noMark => 1 | .badHeader => 2 | .ringInconsistent => 3 | .imageInvalid => 4 | .purseMisplaced => 5
  | .pursesWithoutConfig => 6 | .storeWrite => 7
def boolCode (b : Bool) : Nat := if b then 1 else 0

/-- The number of an event class, which is its bit in a flags field (R203). -/
def classIndex : EventClass → Fin 10
  | .storeFault => 0 | .storeRestored => 1 | .periodClosed => 2 | .closeFailed => 3 | .holdsDrained => 4
  | .laneLost => 5 | .sponsorLow => 6 | .linkErrors => 7 | .configDefaulted => 8 | .totalsPartial => 9

/-- A field for a sponsor or none: 00h..3Fh, or FFh for none (R200). -/
def sponsorField : Option Nat → Nat | some n => n | none => 0xFF
/-- A field for a route or none: 00h..07h, or FFh for none (R200). -/
def routeField : Option Lane → Nat | some l => l.val | none => 0xFF
/-- A receipt field: 0 means none (R200). -/
def receiptField : Option Nat → Nat | some r => r | none => 0
/-- A clock field: UNSET is FFFFFFh (R201). -/
def clockField : Option Nat → Nat | some c => c | none => 0xFFFFFF

def roleOfCode : Nat → Option Role
  | 0 => some .off | 1 => some .till | 2 => some .office | _ => none
/-- A final or enable field: 00h or 01h (R199). -/
def boolOfCode : Nat → Option Bool
  | 0 => some false | 1 => some true | _ => none
/-- The state of a two-bit code of a stored unit (R203, R205). -/
def purseOfCode : Nat → PurseState
  | 0 => .free | 1 => .opened | 2 => .blocked | _ => .unlisted
def laneOfCode (v : Nat) : Option Lane := if h : v < 8 then some ⟨v, h⟩ else none
/-- A sponsor field as the number or none it names, or nothing for another value. -/
def sponsorOfCode (v : Nat) : Option (Option Nat) :=
  if v < 64 then some (some v) else if v = 0xFF then some none else none
/-- A route field as the lane or none it names, or nothing for another value. -/
def routeOfCode (v : Nat) : Option (Option Lane) :=
  if v = 0xFF then some none else (laneOfCode v).map some

/-- The settings a SET_LANE or a configuration block gives a lane, when every value is in range (R148, R149). -/
def laneSettingsOf (role holdLifetime silenceLimit holdLimit : Nat) : Option LaneSettings :=
  match roleOfCode role with
  | some r =>
    if (5 ≤ holdLifetime ∧ holdLifetime ≤ 600) ∧ (silenceLimit = 0 ∨ (2 ≤ silenceLimit ∧ silenceLimit ≤ 120)) ∧
        (1 ≤ holdLimit ∧ holdLimit ≤ 64) then
      some { role := r, holdLifetime := holdLifetime, silenceLimit := silenceLimit, holdLimit := holdLimit }
    else none
  | none => none

/-- The entry a SET_RANGE or a configuration block gives, when every field is in the range of R10. -/
def rangeEntryOf (enabled : Option Bool) (firstCard slotEnd grant : Nat) (sponsor : Option (Option Nat))
    (limit : Nat) : Option RangeEntry :=
  match enabled, sponsor with
  | some e, some sp =>
    if (1 ≤ firstCard ∧ firstCard ≤ 16777215) ∧ slotEnd ≤ 4096 ∧ grant ≤ 10000 ∧ limit ≤ 100000 then
      some { enabled := e, firstCard := firstCard, slotEnd := slotEnd, grant := grant, sponsor := sp, limit := limit }
    else none
  | _, _ => none

/-- The entry a SET_SCHEDULE or a configuration block gives (R103). -/
def scheduleEntryOf (time enable : Nat) : Option ScheduleEntry :=
  match boolOfCode enable with
  | some e => if time ≤ 86399 then some { time := time, enabled := e } else none
  | none => none

/-- The amount of a hold or a capture: 1..100,000 (R37, R54). -/
def saleAmountOk (amount : Nat) : Bool := 1 ≤ amount && amount ≤ 100000
/-- The amount of a top-up or a withdrawal: 1..2,000,000 (R89, R91). -/
def cashAmountOk (amount : Nat) : Bool := 1 ≤ amount && amount ≤ 2000000
/-- The amount of a funding: 1..100,000,000 (R93). -/
def fundAmountOk (amount : Nat) : Bool := 1 ≤ amount && amount ≤ 100000000

end Sys2Proof.Machine
end

