-- ==== Sys2Proof/Machine/RangeMap.lean ====
section
/-! DEFINITION. The range map: spans, the mapping of cards to slots, and the checks a map must pass (R10 to R15). -/

namespace Sys2Proof.Machine

/-- The slot end of the nearest enabled entry below entry `k`, or 0 (R11). With k = 8 it is the card region end. -/
def spanStart (m : Vector RangeEntry 8) (k : Nat) : Nat :=
  (m.toList.take k).foldl (fun acc e => if e.enabled then e.slotEnd else acc) 0

/-- The size of entry `k` (R11). -/
def spanSize (m : Vector RangeEntry 8) (k : Fin 8) : Nat := m[k].slotEnd - spanStart m k

/-- Card `c` maps to enabled entry `k` (R11). -/
def mapsTo (m : Vector RangeEntry 8) (c : Nat) (k : Fin 8) : Bool :=
  decide (m[k].enabled ∧ m[k].firstCard ≤ c ∧ c < m[k].firstCard + spanSize m k)

/-- The entry that maps card `c`, or none (R11). -/
def entryOf (m : Vector RangeEntry 8) (c : Nat) : Option (Fin 8) := (List.finRange 8).find? (fun k => mapsTo m c k)

/-- The slot card `c` maps to, or none (R11). -/
def slotOf (m : Vector RangeEntry 8) (c : Nat) : Option Nat :=
  (entryOf m c).map fun (k : Fin 8) => spanStart m k + (c - m[k].firstCard)

/-- The allowance grant of the entry that maps card `c`, or 0 (R8). -/
def grantOf (m : Vector RangeEntry 8) (c : Nat) : Nat :=
  match entryOf m c with
  | some k => m[k].grant
  | none => 0

/-- The last card of a written entry lies within the card numbers (R14); an entry of size 0 passes. -/
def lastCardOk (m : Vector RangeEntry 8) (k : Fin 8) : Bool :=
  !m[k].enabled || spanSize m k = 0 || m[k].firstCard + spanSize m k - 1 ≤ 16777215

/-- Step 1 of R15: the slot ends of the enabled entries do not decrease. -/
def slotEndsInOrder (m : Vector RangeEntry 8) : Bool :=
  (List.finRange 8).all fun k => !m[k].enabled || spanStart m k ≤ m[k].slotEnd

/-- Step 2 of R15 and check 3 of R18: no enabled slot end reaches into the sponsor region of `count` sponsors. -/
def clearOfSponsors (m : Vector RangeEntry 8) (count : Nat) : Bool :=
  (List.finRange 8).all fun k => !m[k].enabled || m[k].slotEnd ≤ 4096 - count

/-- Step 3 of R15: no two enabled entries of size above zero share a card number. -/
def cardsApart (m : Vector RangeEntry 8) : Bool :=
  (List.finRange 8).all fun i => (List.finRange 8).all fun j =>
    i = j || !m[i].enabled || !m[j].enabled || spanSize m i = 0 || spanSize m j = 0 ||
      m[i].firstCard + spanSize m i ≤ m[j].firstCard || m[j].firstCard + spanSize m j ≤ m[i].firstCard

/-- An enabled entry names sponsor `n` (R18). -/
def mapNamesSponsor (m : Vector RangeEntry 8) (n : Nat) : Bool :=
  m.toList.any fun e => e.enabled && e.sponsor = some n

end Sys2Proof.Machine
end

