-- ==== Sys2Proof/Machine/Access.lean ====
section
/-! DEFINITION. Reading and changing one block, lane, purse or hold of the state: the one home of each register. -/

namespace Sys2Proof.Machine

/-! ## Blocks -/

def State.mapLane (l : Lane) (f : LaneUnit → LaneUnit) (s : State) : State :=
  { s with lanes := s.lanes.set l (f s.lanes[l]) }
def State.mapArbiter (f : Arbiter → Arbiter) (s : State) : State := { s with arbiter := f s.arbiter }
def State.mapEngine (f : Engine → Engine) (s : State) : State := { s with engine := f s.engine }
def State.mapDeadlines (f : DeadlineUnit → DeadlineUnit) (s : State) : State := { s with deadlines := f s.deadlines }
def State.mapPeriod (f : PeriodControl → PeriodControl) (s : State) : State := { s with period := f s.period }
def State.mapJournal (f : JournalUnit → JournalUnit) (s : State) : State := { s with journal := f s.journal }
def State.mapNotices (f : NoticeUnit → NoticeUnit) (s : State) : State := { s with notices := f s.notices }
def State.mapConfig (f : ConfigUnit → ConfigUnit) (s : State) : State := { s with config := f s.config }
def State.mapRestore (f : RestoreUnit → RestoreUnit) (s : State) : State := { s with restore := f s.restore }
def State.withMemory (m : Memory) (s : State) : State := { s with memory := m }

/-- The notice queue, mark and attention output of lane `l`. -/
def State.mapNoticeLane (l : Lane) (f : NoticeLane → NoticeLane) (s : State) : State :=
  s.mapNotices fun n => { n with lanes := n.lanes.set l (f n.lanes[l]) }

/-! ## Purses and holds of the Balance Engine -/

/-- The card purse at a slot. -/
def Engine.card (e : Engine) (slot : Nat) : CardPurse := Table.get .free slot e.cards
def Engine.mapCard (slot : Nat) (f : CardPurse → CardPurse) (e : Engine) : Engine :=
  { e with cards := Table.put .free slot (f (e.card slot)) e.cards }

/-- The FREE purse a card purse leaves, with zero amounts and allowance period 0: its card number is left at the value it last held
(R2). -/
def CardPurse.emptied (p : CardPurse) : CardPurse := { CardPurse.free with cardNumber := p.cardNumber }
/-- Every slot from `lo` up to `hi - 1` becomes a FREE card purse. -/
def Engine.emptyCards (lo hi : Nat) (e : Engine) : Engine :=
  { e with cards := Table.mapRange .free lo hi CardPurse.emptied e.cards }

/-- The sponsor purse of sponsor `n`, at slot 4095 - n (R1). -/
def Engine.sponsor (e : Engine) (n : Nat) : SponsorPurse := Table.get .zero n e.sponsors
def Engine.mapSponsor (n : Nat) (f : SponsorPurse → SponsorPurse) (e : Engine) : Engine :=
  { e with sponsors := Table.put .zero n (f (e.sponsor n)) e.sponsors }
/-- The sponsor purse, when one is named. -/
def Engine.mapSponsor? (n : Option Nat) (f : SponsorPurse → SponsorPurse) (e : Engine) : Engine :=
  match n with
  | some n => e.mapSponsor n f
  | none => e

/-- The hold record in a slot. -/
def Engine.hold (e : Engine) (slot : Nat) : Hold := Table.get .free slot e.holds
def Engine.mapHold (slot : Nat) (f : Hold → Hold) (e : Engine) : Engine :=
  { e with holds := Table.put .free slot (f (e.hold slot)) e.holds }

def Engine.mapLaneHolds (l : Lane) (f : List Nat → List Nat) (e : Engine) : Engine :=
  { e with laneHolds := e.laneHolds.set l (f e.laneHolds[l]) }

/-- The slot holds a card purse record, not a sponsor purse (R1). -/
def Engine.isCardSlot (e : Engine) (slot : Nat) : Bool := slot < 4096 - e.sponsorCount

/-- Cash available (R6). -/
def CardPurse.cashAvailable (p : CardPurse) : Nat := p.cashBalance - p.cashHeld - p.cashOutgoing
/-- Allowance available (R6). -/
def CardPurse.allowanceAvailable (p : CardPurse) : Nat := p.allowanceRemaining - p.allowanceHeld
/-- Sponsor available (R6). -/
def SponsorPurse.available (p : SponsorPurse) : Nat := p.balance - p.held

/-- The count of LIVE and SETTLING holds: 512 less the free list (R26). -/
def Engine.openHolds (e : Engine) : Nat := 512 - e.freeList.length

/-! ## Handles (R25) -/

def handleOf (generation slot : Nat) : Nat := generation * 512 + slot
def handleSlot (handle : Nat) : Nat := handle % 512
def handleGeneration (handle : Nat) : Nat := handle / 512

/-- How a handle resolves against the hold table (R25). -/
inductive Resolved where | stale | ended | live | settling
deriving DecidableEq, Repr

def Engine.resolve (e : Engine) (handle : Nat) : Resolved :=
  let h := e.hold (handleSlot handle)
  if h.generation ≠ handleGeneration handle then .stale
  else match h.state with
    | .free => .ended
    | .live => .live
    | .settling => .settling

/-! ## Small readings of the whole state -/

def State.now (s : State) : Tick := s.deadlines.tick
def State.ready (s : State) : Bool := s.restore.part = .ready
def State.storeOk (s : State) : Bool := s.journal.store = .ok
def State.laneLost (s : State) (l : Lane) : Bool := s.lanes[l].state = .lost
def State.role (s : State) (l : Lane) : Role := s.lanes[l].settings.role

/-- The journal is exhausted (R127). -/
def JournalUnit.exhausted (j : JournalUnit) : Bool := 4294967231 ≤ j.lastDurable

/-- The frame lane `l` is sending on TXD, as bytes (R153, R199), or none while the line rests high. -/
def ReplyFrame.bytes (f : ReplyFrame) : List Byte := frameBytes (f.kind :: f.tag :: resultCode f.result :: f.body)

def State.txBytes (s : State) (l : Lane) : Option (List Byte) :=
  match s.lanes[l].tx with
  | .reply :: _ => s.lanes[l].reply.map ReplyFrame.bytes
  | .busy :: _ => s.lanes[l].busy.map ReplyFrame.bytes
  | [] => none

end Sys2Proof.Machine
end

