-- ==== Sys2Proof/Machine/Flags.lean ====
section
/-! DEFINITION. Timers, notices and the ten event flags (R105, R162, R168 to R176). -/

namespace Sys2Proof.Machine

/-! ## Timers -/

/-- The tick count takes the value `now`: a timer running to it falls due. -/
def Timer.reach (now : Tick) : Timer → Timer
  | .running t => if t = now then .due t else .running t
  | .stopped => .stopped
  | .due t => .due t

def Timer.isDue : Timer → Bool
  | .due _ => true
  | _ => false

/-- Running or due: not stopped. -/
def Timer.isOn : Timer → Bool
  | .stopped => false
  | _ => true

/-- `seconds` from `now`, in ticks (00_scope.md 4.2). -/
def ticksFrom (now : Tick) (seconds : Nat) : Tick := now + BitVec.ofNat 32 (10 * seconds)

/-- The silence timer as it starts or restarts (R161, R162): in role TILL with a limit other than 0. -/
def startSilence (now : Tick) (c : LaneSettings) : Timer :=
  if c.role = .till ∧ c.silenceLimit ≠ 0 then .running (ticksFrom now c.silenceLimit) else .stopped

/-! ## Notices -/

def Notice.isLaneLost : Notice → Bool
  | .laneLost _ _ => true
  | _ => false

/-- The queue of 8 after a forced insertion (R170): the newest notice that is no LANE_LOST goes, or the oldest when all
are LANE_LOST. -/
def forcedInsertion (queue : List Notice) (n : Notice) : List Notice :=
  if queue.all Notice.isLaneLost then queue.tail ++ [n]
  else (queue.reverse.eraseP (fun m => !m.isLaneLost)).reverse ++ [n]

/-- A lane's queue, mark and attention output after a placement (R169 to R171), for a lane not in role OFF. -/
def NoticeLane.place (n : Notice) (q : NoticeLane) : NoticeLane :=
  if q.queue.length < 8 then { q with queue := q.queue ++ [n], attention := true }
  else if n.isLaneLost then { q with queue := forcedInsertion q.queue n, lost := true }
  else { q with lost := true }

/-- The placement report of a LANE_LOST notice to its Lane Unit (R173): the notice-awaited mark is cleared. -/
def reportPlacement (l : Lane) (n : Notice) (s : State) : State :=
  if n.isLaneLost then s.mapLane l fun u => { u with noticeAwaited := false } else s

/-- Place a notice for a lane (R169, R173). -/
def placeNotice (l : Lane) (n : Notice) (s : State) : State :=
  reportPlacement l n (if s.role l = .off then s else s.mapNoticeLane l (NoticeLane.place n))

/-! ## Event flags -/

/-- The flag of a class is set (R175). -/
def NoticeUnit.flag (n : NoticeUnit) (c : EventClass) : Bool := n.flags.getLsbD (classIndex c).val

/-- The flag of a class alone, as a flags field. -/
def flagBit (c : EventClass) : BitVec 10 := BitVec.ofNat 10 (2 ^ (classIndex c).val)

/-- A block sets a flag (R175, R176): on a change from clear to set, an EVENT notice follows the class's route. -/
def raiseFlag (c : EventClass) (s : State) : State :=
  if s.notices.flag c then s
  else
    let s' := s.mapNotices fun n => { n with flags := n.flags ||| flagBit c }
    match s.notices.routes[classIndex c] with
    | some l => placeNotice l (.event c s.now) s'
    | none => s'

end Sys2Proof.Machine
end

