-- ==== Sys2Proof/Machine/Formats.lean ====
section
/-! DEFINITION. The store's layouts (R204 to R206): addresses, record and image units packed bit by bit, the header
and its configuration block; and the store device's part in a read or write (R123). -/

namespace Sys2Proof.Machine

/-! ## Addresses and the device -/

/-- Image `k` (R204). -/
def imageAddress (k : Nat) : Nat := 0x020000 + 32 * k
/-- Ring slot `k` (R204). -/
def ringAddress (k : Nat) : Nat := 0x040000 + 32 * k
/-- The ring slot of sequence number `s` (R122). -/
def ringSlot (s : Nat) : Nat := s % 8192
/-- The header check (R206). -/
def headerCheckAddress : Nat := 0x00000D
/-- The configuration block (R206). -/
def configAddress : Nat := 0x000100
/-- The configuration check (R206). -/
def configCheckAddress : Nat := 0x0001AC

/-- The byte the store holds at address `a`. -/
def readByte (m : Memory) (a : Nat) : Byte := Table.get 0 a m

/-- The bytes from address `a` on, walking a memory whose first entries lie below `a` once only. -/
def readFrom : Memory → Nat → Nat → List Byte
  | _, _, 0 => []
  | [], a, n + 1 => (0 : Byte) :: readFrom [] (a + 1) n
  | (j, b) :: t, a, n + 1 =>
    if j = a then b :: readFrom t (a + 1) n else (0 : Byte) :: readFrom ((j, b) :: t) (a + 1) n
termination_by structural _ _ n => n

/-- The `n` bytes the store holds from address `a` on. -/
def readBytes (m : Memory) (a n : Nat) : List Byte := readFrom (m.dropWhile (fun e => e.1 < a)) a n

/-- Write bytes from address `a` on. -/
def writeBytes (m : Memory) (a : Nat) : List Byte → Memory
  | [] => m
  | b :: bs => writeBytes (Table.put 0 a b m) (a + 1) bs

/-- What a read of the `n` bytes from address `a` on gives (R123). -/
def readAnswer (answer : StoreAnswer) (m : Memory) (a n : Nat) : List Byte :=
  match answer with
  | .asStored => readBytes m a n
  | .silent => List.replicate n 0xFF
  | .misread cells =>
    (readBytes m a n).zipIdx.map fun (b, i) => ((cells.find? (fun c => c.1 = a + i)).map (·.2)).getD b

/-- What a write leaves in the store at its address (R123). -/
def writeEffect (effect : WriteEffect) (w : StoreWrite) (m : Memory) : Memory :=
  match effect with
  | .whole => writeBytes m w.address w.bytes
  | .nothing => m
  | .left bytes => writeBytes m w.address (bytes.take w.bytes.length)

/-- The mark when cleared (R206). -/
def clearedMark : List Byte := [0, 0, 0, 0]

/-- What a write that has not succeeded leaves in the store: what the device left of it, and, where it is the last header
write of a format, the format mark cleared, since the store reads as unformatted until that write has succeeded (R197, log
entry 15). -/
def unfinishedEffect (op : PortOp) (effect : WriteEffect) (w : StoreWrite) (m : Memory) : Memory :=
  match op with
  | .formatHeader => writeBytes (writeEffect effect w m) w.address (clearedMark.take w.bytes.length)
  | .recordWrite _ | .imageWrites .. | .staleImage _ | .saveBlock .. | .saveCheck _ | .journalRead .. | .retryHeader
  | .retryCheck | .retryVoid | .formatClear | .formatVoid _ | .formatImage _ | .restoreImage => writeEffect effect w m

/-! ## Bit packing (R205) -/

/-- Fields of (width, value) from the top of `room` bits on, most significant bit first; the bits left are 0. -/
def packBits (room : Nat) : List (Nat × Nat) → Nat
  | [] => 0
  | (w, v) :: fs => v % 2 ^ w * 2 ^ (room - w) + packBits (room - w) fs

/-- The values of fields of the given widths, from the top of the `room` low bits of `n` on. -/
def unpackBits (room n : Nat) : List Nat → List Nat
  | [] => []
  | w :: ws => n / 2 ^ (room - w) % 2 ^ w :: unpackBits (room - w) n ws

/-- Thirty bytes of fields and their check (R205). -/
def unitBytes (fields : List (Nat × Nat)) : List Byte :=
  let body := beBytes 30 (packBits 240 fields)
  body ++ checkBytes body

/-- The check of a unit is correct for its contents (R124). -/
def unitCheckOk (unit : List Byte) : Bool := unit.drop 30 = checkBytes (unit.take 30)

/-- The void unit (R205). -/
def voidUnit : List Byte := List.replicate 32 0

/-! ## Record units -/

/-- The kind codes of R203. -/
def recordKind : RecordBody → Nat
  | .capture .. => 1 | .reversal .. => 2 | .topUp .. => 3 | .withdraw .. => 4
  | .change .openPurse .. => 5 | .change .closePurse .. => 6 | .change .block .. => 7 | .change .unblock .. => 8
  | .fund .. => 9 | .periodClose .. => 10

/-- The one-bit card state of a record: 0 OPEN, 1 BLOCKED (R205). -/
def cardStateBit (s : PurseState) : Nat := if s = .blocked then 1 else 0
def stateOfBit (v : Nat) : PurseState := if v = 1 then .blocked else .opened

/-- The sponsor balance that means none (R205). -/
def noSponsorMark : Nat := 0x7FFFFFF
def sponsorNumber (s : Option SponsorAfter) : Nat := match s with | some a => a.sponsor | none => 0
def sponsorBalance (s : Option SponsorAfter) : Nat := match s with | some a => a.balance | none => noSponsorMark
def sponsorAfterOf (sponsor balance : Nat) : Option SponsorAfter :=
  if balance = noSponsorMark then none else some { sponsor := sponsor, balance := balance }

/-- The receipt low part of a REVERSAL record `r` of receipt `q` (R205). -/
def receiptLow (r q : Nat) : Nat := if q < r ∧ r ≤ q + 8191 then q % 8192 else r % 8192

/-- The receipt a low part spells in record `r`: the one number in r - 8,191..r - 1 with those low bits, or 0 when
there is none (R205). -/
def receiptOfLow (r low : Nat) : Nat :=
  let back := (r % 8192 + 8192 - low) % 8192
  if back = 0 ∨ r ≤ back then 0 else r - back

/-- The bits of a PERIOD_CLOSE clock field (R205). -/
def clockBits (c : Option Nat) : Nat := match c with | some v => v | none => 0x1FFFF

/-- The body fields of a record (R205). The schedule entry field of a PERIOD_CLOSE record with a lane origin is stored as 0:
R205 states no value for it (log entry 36). -/
def bodyFields (sequence : Nat) : RecordBody → List (Nat × Nat)
  | .capture slot c sp ap cp =>
    [(12, slot), (1, cardStateBit c.state), (6, sponsorNumber sp), (24, c.cardNumber), (14, ap), (17, cp),
     (21, c.cashBalance), (14, c.allowanceRemaining), (32, c.spent), (27, sponsorBalance sp)]
  | .reversal slot c sp ap cp q back =>
    [(12, slot), (1, cardStateBit c.state), (1, boolCode back), (6, sponsorNumber sp), (24, c.cardNumber), (14, ap),
     (17, cp), (21, c.cashBalance), (14, c.allowanceRemaining), (32, c.spent), (27, sponsorBalance sp),
     (13, receiptLow sequence q)]
  | .topUp slot c amount | .withdraw slot c amount =>
    [(12, slot), (1, cardStateBit c.state), (24, c.cardNumber), (21, amount), (21, c.cashBalance),
     (14, c.allowanceRemaining), (32, c.spent)]
  | .change _ slot c =>
    [(12, slot), (2, purseCode c.state), (24, c.cardNumber), (21, c.cashBalance), (14, c.allowanceRemaining),
     (32, c.spent)]
  | .fund sp amount => [(6, sp.sponsor), (27, amount), (27, sp.balance)]
  | .periodClose origin clock f =>
    [(1, match origin with | .lane _ => 0 | .schedule _ => 1),
     (3, match origin with | .lane _ => 0 | .schedule e => e), (17, clockBits clock), (1, boolCode f.partialMark),
     (32, f.captureCount), (32, f.capturedCash), (32, f.capturedAllowance), (32, f.reversedCash),
     (32, f.reversedAllowance)]

/-- The 32 bytes of a record in its ring slot (R205). -/
def recordUnit (r : Record) : List Byte :=
  unitBytes ([(19, r.sequence / 8192), (4, recordKind r.body), (3, r.lane.val), (32, r.period)] ++
    bodyFields r.sequence r.body)

/-- The widths of the body fields of each record kind (R205), or none for a code that is no kind. -/
def bodyWidths : Nat → Option (List Nat)
  | 1 => some [12, 1, 6, 24, 14, 17, 21, 14, 32, 27]
  | 2 => some [12, 1, 1, 6, 24, 14, 17, 21, 14, 32, 27, 13]
  | 3 | 4 => some [12, 1, 24, 21, 21, 14, 32]
  | 5 | 6 | 7 | 8 => some [12, 2, 24, 21, 14, 32]
  | 9 => some [6, 27, 27]
  | 10 => some [1, 3, 17, 1, 32, 32, 32, 32, 32]
  | _ => none

/-- The body that fields spell in record `sequence` of period `period`. In a card after-state the allowance period is the period field of the head. -/
def bodyOfFields (kind sequence period : Nat) (lane : Lane) : List Nat → Option RecordBody
  | [slot, st, sp, card, ap, cp, cash, al, spent, bal] =>
    if kind = 1 then
      some (.capture slot ⟨stateOfBit st, card, cash, al, period, spent⟩ (sponsorAfterOf sp bal) ap cp)
    else none
  | [slot, st, back, sp, card, ap, cp, cash, al, spent, bal, low] =>
    if kind = 2 then
      some (.reversal slot ⟨stateOfBit st, card, cash, al, period, spent⟩ (sponsorAfterOf sp bal) ap cp
        (receiptOfLow sequence low) (back = 1))
    else none
  | [slot, st, card, amount, cash, al, spent] =>
    if kind = 3 then some (.topUp slot ⟨stateOfBit st, card, cash, al, period, spent⟩ amount)
    else if kind = 4 then some (.withdraw slot ⟨stateOfBit st, card, cash, al, period, spent⟩ amount)
    else none
  | [slot, st, card, cash, al, spent] =>
    let after : CardAfter := ⟨purseOfCode st, card, cash, al, period, spent⟩
    if kind = 5 then some (.change .openPurse slot after)
    else if kind = 6 then some (.change .closePurse slot after)
    else if kind = 7 then some (.change .block slot after)
    else if kind = 8 then some (.change .unblock slot after)
    else none
  | [sponsor, amount, bal] => if kind = 9 then some (.fund ⟨sponsor, bal⟩ amount) else none
  | [origin, entry, clock, part, count, cash, al, rcash, ral] =>
    if kind = 10 then
      some (.periodClose (if origin = 0 then .lane lane else .schedule entry)
        (if clock = 0x1FFFF then none else some clock) ⟨count, cash, al, rcash, ral, part = 1⟩)
    else none
  | _ => none

/-- The record a valid ring unit in slot `k` spells (R124, R205), or none for a unit that is not valid. -/
def readRecord (k : Nat) (unit : List Byte) : Option Record :=
  if unitCheckOk unit then
    let n := beNat (unit.take 30)
    match unpackBits 240 n [19, 4, 3, 32] with
    | [hi, kind, lane, period] =>
      match bodyWidths kind with
      | some widths =>
        (bodyOfFields kind (hi * 8192 + k) period (Fin.ofNat 8 lane) (unpackBits 182 n widths)).map fun body =>
          { sequence := hi * 8192 + k, lane := Fin.ofNat 8 lane, period := period, body := body }
      | none => none
    | _ => none
  else none

/-! ## Image units -/

/-- The 32 bytes of an image of slot `k` (R133, R205). -/
def imageUnit (k : Nat) : Image → List Byte
  | .card c s =>
    unitBytes [(8, 1), (12, k), (2, purseCode c.state), (24, c.cardNumber), (21, c.cashBalance),
      (14, c.allowanceRemaining), (32, c.allowancePeriod), (32, c.spent), (32, s)]
  | .sponsor balance s => unitBytes [(8, 2), (12, k), (6, 4095 - k), (27, balance), (32, s)]

/-- The image a valid image unit spells (R124), or none. -/
def readImage (unit : List Byte) : Option Image :=
  if unitCheckOk unit then
    let n := beNat (unit.take 30)
    match unpackBits 240 n [8, 12, 2, 24, 21, 14, 32, 32, 32], unpackBits 240 n [8, 12, 6, 27, 32] with
    | [kind, _, st, card, cash, al, period, spent, s], [_, _, _, balance, s'] =>
      if kind = 1 then some (.card ⟨purseOfCode st, card, cash, al, period, spent⟩ s)
      else if kind = 2 then some (.sponsor balance s')
      else none
    | _, _ => none
  else none

/-! ## Configuration block and header (R206) -/

/-- The five bytes of a lane's settings. -/
def laneBytes (s : LaneSettings) : List Byte :=
  beBytes 1 (roleCode s.role) ++ beBytes 2 s.holdLifetime ++ beBytes 1 s.silenceLimit ++ beBytes 1 s.holdLimit

/-- The four bytes of a schedule entry. -/
def scheduleBytes (e : ScheduleEntry) : List Byte := beBytes 3 e.time ++ beBytes 1 (boolCode e.enabled)

/-- The eleven bytes of a range entry; its enable-and-sponsor byte holds enabled in bit 7 and 7Fh for no sponsor. -/
def rangeBytes (e : RangeEntry) : List Byte :=
  beBytes 3 e.firstCard ++ beBytes 2 e.slotEnd ++ beBytes 2 e.grant ++
    beBytes 1 (boolCode e.enabled * 128 + (match e.sponsor with | some n => n | none => 0x7F)) ++ beBytes 3 e.limit

/-- The ten bytes of sponsor count, cash ceiling, sponsor low mark and drain limit. -/
def scalarBytes (c : WorkingConfig) : List Byte :=
  beBytes 1 c.sponsorCount ++ beBytes 3 c.ceiling ++ beBytes 4 c.lowMark ++ beBytes 2 c.drainLimit

/-- The ten routes, one byte each. -/
def routeBytes (routes : Vector (Option Lane) 10) : List Byte := routes.toList.flatMap fun r => beBytes 1 (routeField r)

/-- The configuration block, 172 bytes (R206). -/
def configBlock (c : WorkingConfig) : List Byte :=
  scalarBytes c ++ c.lanes.toList.flatMap laneBytes ++ c.schedule.toList.flatMap scheduleBytes ++
    c.ranges.toList.flatMap rangeBytes ++ routeBytes c.routes

/-- The enable-and-sponsor byte's sponsor, or nothing for a value of no meaning. -/
def blockSponsor (v : Nat) : Option (Option Nat) :=
  if v % 128 < 64 then some (some (v % 128)) else if v % 128 = 0x7F then some none else none

/-- All elements present, as a vector. -/
def allPresent {α : Type} {n : Nat} (d : α) (v : Vector (Option α) n) : Option (Vector α n) :=
  if v.toList.all Option.isSome then some (v.map (fun o => o.getD d)) else none

/-- The configuration a block holds, when every value lies in its range and the enabled entries pass the checks of
SET_RANGE that R206 names against its sponsor count. The two bounds of R14 that depend on the rest of the block, a sponsor below
its sponsor count and a last card of at most 16,777,215, are not judged: the model's choice (log entry 38). -/
def readConfigBlock (b : List Byte) : Option WorkingConfig :=
  let lanes := Vector.ofFn fun (i : Fin 8) =>
    let o := 10 + 5 * i.val
    laneSettingsOf (readField b o 1) (readField b (o + 1) 2) (readField b (o + 3) 1) (readField b (o + 4) 1)
  let schedule := Vector.ofFn fun (i : Fin 6) =>
    scheduleEntryOf (readField b (50 + 4 * i.val) 3) (readField b (53 + 4 * i.val) 1)
  let ranges := Vector.ofFn fun (i : Fin 8) =>
    let o := 74 + 11 * i.val
    let es := readField b (o + 7) 1
    rangeEntryOf (some (128 ≤ es)) (readField b o 3) (readField b (o + 3) 2) (readField b (o + 5) 2) (blockSponsor es)
      (readField b (o + 8) 3)
  let routes := Vector.ofFn fun (i : Fin 10) => routeOfCode (readField b (162 + i.val) 1)
  match allPresent (LaneSettings.default 0) lanes, allPresent { time := 0, enabled := false } schedule,
      allPresent RangeEntry.default ranges, allPresent none routes with
  | some ls, some sc, some rs, some ro =>
    let c : WorkingConfig :=
      { sponsorCount := readField b 0 1, ceiling := readField b 1 3, lowMark := readField b 4 4,
        drainLimit := readField b 8 2, lanes := ls, schedule := sc, ranges := rs, routes := ro }
    if c.sponsorCount ≤ 64 ∧ c.ceiling ≤ 2000000 ∧ c.lowMark ≤ 100000000 ∧ (10 ≤ c.drainLimit ∧ c.drainLimit ≤ 900) ∧
        slotEndsInOrder rs ∧ clearOfSponsors rs c.sponsorCount ∧ cardsApart rs then some c
    else none
  | _, _, _, _ => none

/-- The format mark (R206). -/
def formatMark : List Byte := [0x5A, 0x3C, 0x96, 0xC3]

/-- The header's first thirteen bytes: mark, format version, ring base sequence, period at format time (R206). -/
def headerStart (mark : List Byte) (ringBase formatPeriod : Nat) : List Byte :=
  mark ++ [0x01] ++ beBytes 4 ringBase ++ beBytes 4 formatPeriod

/-- The whole header region as FORMAT_STORE writes it (R197, R206): the fields of the table, and 00h elsewhere. -/
def headerBytes (mark : List Byte) (ringBase formatPeriod : Nat) (c : WorkingConfig) : List Byte :=
  let start := headerStart mark ringBase formatPeriod
  let block := configBlock c
  start ++ checkBytes start ++ List.replicate 241 0 ++ block ++ checkBytes block ++ List.replicate 130642 0

/-- What the header step of the restore finds (R188). -/
inductive HeaderFound where
  | noMark
  | bad
  | good (ringBase formatPeriod : Nat) (config : Option WorkingConfig)
deriving DecidableEq, Repr

/-- A header's format mark and header check are both good (R141): over its first fifteen bytes. -/
def markAndCheckOk (h : List Byte) : Bool :=
  decide (h.take 4 = formatMark) && decide ((h.drop 13).take 2 = checkBytes (h.take 13))

/-- Judge the header's first 430 bytes (R188, R206). -/
def judgeHeader (h : List Byte) : HeaderFound :=
  if h.take 4 ≠ formatMark then .noMark
  else if !markAndCheckOk h || readField h 4 1 ≠ 1 then .bad
  else
    let block := (h.drop 0x100).take 172
    .good (readField h 5 4) (readField h 9 4)
      (if (h.drop 0x1AC).take 2 = checkBytes block then readConfigBlock block else none)

end Sys2Proof.Machine
end

