-- ==== Sys2Proof/Machine/Ops.lean ====
section
/-! DEFINITION. The operations every family shares: replies, requests taken from the intake, lookup and refresh, the
ending of holds, journal records and their effects, drain completion, and the entry of the store into FAULT. -/

namespace Sys2Proof.Machine

/-! ## Replies and requests -/

/-- The owner of lane `l`'s request fills the reply slot (R154, R158): the request becomes REPLYING and the reply joins
the transmitter's order. A lane whose request is with no owner is answered nothing. -/
def fillReply (l : Lane) (r : Result) (body : List Byte) (s : State) : State :=
  s.mapLane l fun u =>
    match u.request with
    | .withOwner f =>
      { u with request := .replying f, tx := u.tx ++ [.reply],
               reply := some { kind := f.kind, tag := f.tag, result := r, body := body } }
    | _ => u

/-- A reply with the result alone. -/
def refuse (l : Lane) (r : Result) (s : State) : State := fillReply l r [] s

/-- The same reply to each of several lanes. -/
def fillAll (ls : List Lane) (r : Result) (s : State) : State := ls.foldl (fun s l => refuse l r s) s

/-- The request in the intake, as the command its frame spells (R158, R159). -/
def State.granted (s : State) : Option Instr :=
  match s.arbiter.intake with
  | some l =>
    match s.lanes[l].request with
    | .withOwner f => decodeRequest l f.kind f.body
    | _ => none
  | none => none

/-- No event is taken while a pin reset holds the part (R207). -/
def running (f : State → Answer) (s : State) : Answer := if s.restore.inReset then .next s else f s

/-- An event that answers a next state always. -/
def event (f : State → State) (s : State) : Answer := running (fun s => .next (f s)) s

/-- The owner of request `c` takes it (R158): the intake is freed, and the owner makes its remaining checks. A command
that is not the request in the intake names an event that does not arise, and changes nothing (log entry 1). -/
def takeRequest (c : Instr) (owner : State → Answer) (s : State) : Answer :=
  running (fun s => if s.granted = some c then owner (s.mapArbiter fun a => { a with intake := none }) else .next s) s

/-- A request whose owner answers it in every case. -/
def request (c : Instr) (owner : State → State) (s : State) : Answer := takeRequest c (fun s => .next (owner s)) s

/-- A request its owner answers NOT_READY until the part is READY (R158, R190). -/
def readyRequest (c : Instr) (l : Lane) (owner : State → State) (s : State) : Answer :=
  request c (fun s => if s.ready then owner s else refuse l .notReady s) s

/-- A configuration request the config lock refuses (R182), READY being checked first. -/
def lockedRequest (c : Instr) (l : Lane) (owner : State → State) (s : State) : Answer :=
  readyRequest c l (fun s => if s.config.lock then refuse l .locked s else owner s) s

/-! ## Lookup and refresh -/

/-- The card purse of a card number, by the two steps of R13. -/
def lookup (e : Engine) (card : Nat) : Option Nat :=
  match slotOf e.ranges card with
  | some slot =>
    if e.isCardSlot slot ∧ (e.card slot).state ≠ .free ∧ (e.card slot).cardNumber = card then some slot else none
  | none => none

/-- A purse brought into period `period` with grant `grant` (R8). -/
def CardPurse.refreshed (period grant : Nat) (p : CardPurse) : CardPurse :=
  { p with allowanceRemaining := grant, allowanceHeld := 0, spent := 0, allowancePeriod := period }

/-- The lazy period refresh (R8, R9): an OPEN or BLOCKED card purse of another period. -/
def refresh (slot : Nat) (s : State) : State :=
  let p := s.engine.card slot
  if p.state ≠ .free ∧ p.allowancePeriod ≠ s.period.number then
    s.mapEngine fun e => e.mapCard slot (CardPurse.refreshed s.period.number (grantOf e.ranges p.cardNumber))
  else s

/-! ## Records: effects, after-states, totals -/

def capAt (top v : Nat) : Nat := min top v
/-- A 32-bit total that stops at its top (R2, R120). -/
def addTotal (a b : Nat) : Nat := capAt 4294967295 (a + b)

def RecordBody.cardSlot : RecordBody → Option Nat
  | .capture slot .. | .reversal slot .. | .topUp slot .. | .withdraw slot .. | .change _ slot _ => some slot
  | .fund .. | .periodClose .. => none

def RecordBody.cardAfter : RecordBody → Option CardAfter
  | .capture _ c .. | .reversal _ c .. | .topUp _ c _ | .withdraw _ c _ | .change _ _ c => some c
  | .fund .. | .periodClose .. => none

def RecordBody.sponsorAfter : RecordBody → Option SponsorAfter
  | .capture _ _ sp .. | .reversal _ _ sp .. => sp
  | .fund sp _ => some sp
  | .topUp .. | .withdraw .. | .change .. | .periodClose .. => none

/-- The sponsor a record names (R129). -/
def RecordBody.sponsor (b : RecordBody) : Option Nat := b.sponsorAfter.map SponsorAfter.sponsor

/-- A record's effect on the stored fields of the card purse it names (R60, R77, R83, R86, R88, R90, R92). -/
def RecordBody.cardEffect (b : RecordBody) (c : CardAfter) : CardAfter :=
  match b with
  | .capture _ _ _ ap cp =>
    { c with cashBalance := c.cashBalance - cp, allowanceRemaining := c.allowanceRemaining - ap,
             spent := addTotal c.spent (ap + cp) }
  | .reversal _ _ _ ap cp _ back =>
    if back then
      { c with cashBalance := c.cashBalance + cp, allowanceRemaining := c.allowanceRemaining + ap,
               spent := c.spent - (ap + cp) }
    else { c with cashBalance := c.cashBalance + cp }
  | .topUp _ _ amount => { c with cashBalance := c.cashBalance + amount }
  | .withdraw _ _ amount => { c with cashBalance := c.cashBalance - amount }
  | .change .openPurse _ after => after
  | .change .closePurse _ _ => { c with state := .free, cashBalance := 0, allowanceRemaining := 0, spent := 0 }
  | .change .block _ _ => { c with state := .blocked }
  | .change .unblock _ _ => { c with state := .opened }
  | .fund .. | .periodClose .. => c

/-- A record's effect on the balance of the sponsor purse it names (R60, R77, R94). -/
def RecordBody.sponsorEffect (b : RecordBody) (balance : Nat) : Nat :=
  match b with
  | .capture _ _ _ ap _ => balance - ap
  | .reversal _ _ _ ap _ _ _ => balance + ap
  | .fund _ amount => balance + amount
  | .topUp .. | .withdraw .. | .change .. | .periodClose .. => balance

/-- What a record adds to the period totals at its durability (R62, R77, R90, R92, R94). -/
def Totals.add (t : Totals) (r : Record) : Totals :=
  match r.body with
  | .capture _ _ _ ap cp =>
    { t with captureCount := addTotal t.captureCount 1, capturedCash := addTotal t.capturedCash cp,
             capturedAllowance := addTotal t.capturedAllowance ap,
             lanes := t.lanes.set r.lane (addTotal t.lanes[r.lane] (ap + cp)) }
  | .reversal _ _ _ ap cp _ _ =>
    { t with reversedCash := addTotal t.reversedCash cp, reversedAllowance := addTotal t.reversedAllowance ap }
  | .topUp _ _ amount => { t with topUps := addTotal t.topUps amount }
  | .withdraw _ _ amount => { t with withdrawals := addTotal t.withdrawals amount }
  | .fund _ amount => { t with funding := addTotal t.funding amount }
  | .change .. | .periodClose .. => t

/-- The stored fields of a purse, as an after-state carries them (R57). -/
def CardPurse.after (p : CardPurse) : CardAfter :=
  { state := p.state, cardNumber := p.cardNumber, cashBalance := p.cashBalance,
    allowanceRemaining := p.allowanceRemaining, allowancePeriod := p.allowancePeriod, spent := p.spent }

/-- A purse whose stored fields are those of an after-state. -/
def CardPurse.withAfter (c : CardAfter) (p : CardPurse) : CardPurse :=
  { p with state := c.state, cardNumber := c.cardNumber, cashBalance := c.cashBalance,
           allowanceRemaining := c.allowanceRemaining, allowancePeriod := c.allowancePeriod, spent := c.spent }

/-- The record of a durable event the engine has not yet taken. -/
def JournalEvent.durableRecord : JournalEvent → Option Record
  | .durable r _ => some r
  | .abandoned _ _ => none

/-- The durable records whose effect the engine has not yet applied. -/
def State.untakenRecords (s : State) : List Record := s.engine.journalEvents.filterMap JournalEvent.durableRecord

/-- The earlier queued records of R57, R81 and R111, in sequence order: those durable whose event the engine has not yet
taken, then those in the queue not yet durable (log entry 10). -/
def State.earlierRecords (s : State) : List Record :=
  s.untakenRecords ++
    (s.journal.queue.filter fun q => s.journal.lastDurable < q.record.sequence).map QueueEntry.record

/-- The stored fields of card slot `slot` after the effects of those of `records` that name it (R57). -/
def cardThrough (records : List Record) (slot : Nat) (c : CardAfter) : CardAfter :=
  records.foldl (fun c r => if r.body.cardSlot = some slot then r.body.cardEffect c else c) c

/-- The balance of sponsor `n` after the effects of those of `records` that name it. -/
def sponsorThrough (records : List Record) (n : Nat) (balance : Nat) : Nat :=
  records.foldl (fun b r => if r.body.sponsor = some n then r.body.sponsorEffect b else b) balance

/-- The card purse as every earlier queued record will leave it (R57). -/
def State.cardAhead (s : State) (slot : Nat) : CardAfter :=
  cardThrough s.earlierRecords slot (s.engine.card slot).after

/-- The sponsor balance as every earlier queued record will leave it (R57). -/
def State.sponsorAhead (s : State) (n : Nat) : Nat := sponsorThrough s.earlierRecords n (s.engine.sponsor n).balance

/-- A sponsor after-state whose balance has moved by a record's own effect. -/
def State.sponsorAfterOf (s : State) (n : Option Nat) (own : Nat → Nat) : Option SponsorAfter :=
  n.map fun n => { sponsor := n, balance := own (s.sponsorAhead n) }

/-! ## Queueing a record -/

/-- Queue a record with the next sequence number (R125, R128). -/
def queueRecord (lane : Lane) (period : Nat) (body : RecordBody) (owner : Owner) (s : State) : State :=
  s.mapJournal fun j =>
    { j with
      queue := j.queue ++
        [{ record := { sequence := j.nextSeq, lane := lane, period := period, body := body }, owner := owner,
           writing := false }],
      nextSeq := j.nextSeq + 1 }

def CardPurse.addPending (p : CardPurse) : CardPurse := { p with pendingRecords := p.pendingRecords + 1 }
def CardPurse.dropPending (p : CardPurse) : CardPurse := { p with pendingRecords := p.pendingRecords - 1 }
def SponsorPurse.addPending (p : SponsorPurse) : SponsorPurse := { p with pendingRecords := p.pendingRecords + 1 }
def SponsorPurse.dropPending (p : SponsorPurse) : SponsorPurse := { p with pendingRecords := p.pendingRecords - 1 }

/-- Change the card purse and the sponsor purse a record names. -/
def onNamed (b : RecordBody) (fc : CardPurse → CardPurse) (fs : SponsorPurse → SponsorPurse) (s : State) : State :=
  s.mapEngine fun e =>
    let e := match b.cardSlot with
      | some slot => e.mapCard slot fc
      | none => e
    e.mapSponsor? b.sponsor fs

/-- The engine queues a record of the current period and counts it on each purse it names (R5, R81). -/
def engineQueues (lane : Lane) (body : RecordBody) (owner : Owner) (s : State) : State :=
  onNamed body CardPurse.addPending SponsorPurse.addPending (queueRecord lane s.period.number body owner s)

/-! ## Drain completion (R110 to R112) -/

/-- The period after period `n` (R100). -/
def nextPeriod (n : Nat) : Nat := if n = 4294967295 then 1 else n + 1

/-- The totals the engine will hold once every earlier queued record is durable (R111). -/
def State.totalsAhead (s : State) : Totals := s.earlierRecords.foldl Totals.add s.engine.totals

/-- The figures of a PERIOD_CLOSE record (R111). -/
def State.closeFigures (s : State) : CloseFigures :=
  let t := s.totalsAhead
  { captureCount := t.captureCount, capturedCash := t.capturedCash, capturedAllowance := t.capturedAllowance,
    reversedCash := t.reversedCash, reversedAllowance := t.reversedAllowance, partialMark := s.engine.partialMark }

/-- The lane field of a PERIOD_CLOSE record: the origin's lane, 0 for a schedule origin (R205). -/
def originLane : Origin → Lane
  | .lane l => l
  | .schedule _ => 0

/-- The running close ends with the period unchanged (R112, R118). -/
def closeFails (s : State) : State :=
  raiseFlag .closeFailed (s.mapPeriod fun p => { p with state := .opened, origin := none })

/-- The drain completes (R110): the timer stops, and the PERIOD_CLOSE record is queued or, with the store in FAULT, the
close fails. -/
def completeDrain (s : State) : State :=
  let s := s.mapPeriod fun p => { p with drainTimer := .stopped }
  if s.storeOk then
    let origin := s.period.origin.getD (.lane 0)
    queueRecord (originLane origin) (nextPeriod s.period.number) (.periodClose origin s.period.clock s.closeFigures)
      .periodControl (s.mapPeriod fun p => { p with state := .closeWrite })
  else closeFails s

/-- The engine reports the count of LIVE and SETTLING holds to Period Control (R35, R110). -/
def reportHolds (s : State) : State :=
  let s := s.mapPeriod fun p => { p with holdCount := s.engine.openHolds }
  if s.period.state = .freezing ∧ s.period.holdCount = 0 then completeDrain s else s

/-! ## Deadline list (R31) -/

/-- Ticks remaining of a deadline (R29). -/
def ticksRemaining (now deadline : Tick) : Nat := (deadline - now).toNat

/-- The entry `y` has no more ticks remaining than `x`. -/
def dueNoLater (now : Tick) (x y : DeadlineEntry) : Bool := ticksRemaining now y.deadline ≤ ticksRemaining now x.deadline

/-- Insert: after every entry with no more ticks remaining, before the rest (R31). In a list out of order, which holds entries
past their deadline ahead of the others, the new entry goes right behind the last entry with no more ticks remaining, and the past
entries ahead of that one stay ahead; with no such entry it goes to the front, before a past entry too: the model's choice (log
entry 30). -/
def insertDeadline (now : Tick) (x : DeadlineEntry) : List DeadlineEntry → List DeadlineEntry
  | [] => [x]
  | y :: t => if (y :: t).any (dueNoLater now x) then y :: insertDeadline now x t else x :: y :: t

/-- Remove a hold's entry, if it has one (R31). -/
def removeDeadline (handle : Nat) (l : List DeadlineEntry) : List DeadlineEntry := l.filter (fun y => y.handle ≠ handle)

/-! ## Ending a hold (R33, R34) -/

/-- The notice of an ending, if its reason has one (R34). -/
def endNotice (reason : EndReason) (handle card : Nat) (tick : Tick) : Option Notice :=
  match reason with
  | .expired => some (.holdExpired handle card tick)
  | .officeReleased => some (.holdEnded handle card tick)
  | .drained => some (.holdDrained handle card tick)
  | .unknown | .captured | .released | .laneLost => none

/-- Steps 1 to 6 of R33 at the engine and the Deadline Unit. -/
def detachHold (slot : Nat) (reason : EndReason) (s : State) : State :=
  let h := s.engine.hold slot
  let handle := handleOf h.generation slot
  (s.mapEngine fun e =>
    let e := e.mapCard h.cardSlot fun p =>
      { p with cashHeld := p.cashHeld - h.cashShare, allowanceHeld := p.allowanceHeld - h.allowanceShare,
               holdList := p.holdList.erase handle }
    let e := e.mapSponsor? h.sponsor fun p => { p with held := p.held - h.allowanceShare }
    let e := e.mapLaneHolds h.lane fun hs => hs.erase handle
    let e := e.mapHold slot fun h =>
      { h with state := .free, endReason := reason, allowanceShare := 0, cashShare := 0, endMark := .unmarked,
               deadlinePassed := false }
    { e with freeList := e.freeList ++ [slot] }).mapDeadlines fun d => { d with list := removeDeadline handle d.list }

/-- Step 8 of R33: the notice of an ending goes to the hold's lane. -/
def noticeEnding (slot : Nat) (reason : EndReason) (s : State) : State :=
  let h := s.engine.hold slot
  match endNotice reason (handleOf h.generation slot) (s.engine.card h.cardSlot).cardNumber s.now with
  | some n => placeNotice h.lane n s
  | none => s

/-- A hold ends for a reason, without the report of step 7 (for the drain walk, which reports once, R115). -/
def endHoldQuietly (slot : Nat) (reason : EndReason) (s : State) : State :=
  noticeEnding slot reason (detachHold slot reason (refresh (s.engine.hold slot).cardSlot s))

/-- A hold ends for a reason, by all the steps of R33. -/
def endHold (slot : Nat) (reason : EndReason) (s : State) : State :=
  noticeEnding slot reason (reportHolds (detachHold slot reason (refresh (s.engine.hold slot).cardSlot s)))

def EndMark.reason : EndMark → Option EndReason
  | .unmarked => none
  | .laneLost => some .laneLost
  | .drained => some .drained

/-- The settlement of a hold ends without an ending of its own: its marks act, or it is LIVE again (R59). -/
def settlementEnds (slot : Nat) (s : State) : State :=
  let h := s.engine.hold slot
  if h.deadlinePassed then endHold slot .expired s
  else match h.endMark.reason with
    | some reason => endHold slot reason s
    | none => s.mapEngine fun e => e.mapHold slot fun h => { h with state := .live }

/-- Set the end mark of a SETTLING hold that has none (R51, R115). -/
def markHold (slot : Nat) (m : EndMark) (s : State) : State :=
  s.mapEngine fun e => e.mapHold slot fun h => if h.endMark = .unmarked then { h with endMark := m } else h

/-- The refusal HOLD_GONE (R27, R201): the slot's end reason and last receipt, or UNKNOWN and none for a stale
handle. -/
def holdGone (l : Lane) (handle : Nat) (s : State) : State :=
  let h := s.engine.hold (handleSlot handle)
  let (reason, receipt) :=
    if s.engine.resolve handle = .stale then (EndReason.unknown, none) else (h.endReason, h.lastReceipt)
  fillReply l .holdGone (beBytes 1 (endReasonCode reason) ++ beBytes 4 (receiptField receipt)) s

/-! ## Store fault (R134, R135) -/

/-- The entries of the queue that are not yet durable, lowest first. -/
def JournalUnit.waiting (j : JournalUnit) : List QueueEntry :=
  j.queue.filter fun q => j.lastDurable < q.record.sequence

/-- The store enters FAULT (R134): the flag, the abandoned events in sequence order, the rollback; the waiting save
ends (R142) and the SYNCs whose mark an abandoned record lies under are answered (R143). The queue is empty after it
(R135); `voidAt` is the ring slot of a record's own failed write. -/
def enterFault (voidAt : Option Nat) (s : State) : State :=
  let waiting := s.journal.waiting
  let s := raiseFlag .storeFault (s.mapJournal fun j => { j with store := .fault })
  let s := s.mapEngine fun e =>
    { e with journalEvents := e.journalEvents ++ waiting.map fun q => .abandoned q.record q.owner }
  let savers := s.journal.save.getD []
  let syncers := (s.journal.syncs.filter fun w =>
    waiting.any fun q => q.record.sequence ≤ w.mark).map SyncWait.lane
  let s := s.mapJournal fun j =>
    { j with
      queue := [],
      nextSeq := match waiting with
        | q :: _ => q.record.sequence
        | [] => j.nextSeq
      voidSlot := match voidAt with
        | some k => some k
        | none => j.voidSlot
      save := none,
      syncs := j.syncs.filter fun w => !(waiting.any fun q => q.record.sequence ≤ w.mark) }
  fillAll syncers .storeFault (fillAll savers .storeFault s)

/-! ## The working configuration (R181) -/

/-- The working configuration as the blocks hold it. -/
def State.workingConfig (s : State) : WorkingConfig :=
  { sponsorCount := s.engine.sponsorCount, ceiling := s.config.ceiling, lowMark := s.config.lowMark,
    drainLimit := s.period.drainLimit, lanes := s.lanes.map LaneUnit.settings, schedule := s.period.schedule,
    ranges := s.engine.ranges, routes := s.notices.routes }

/-- Insert into a rising list of slots, once (R137). -/
def insertSlot (k : Nat) : List Nat → List Nat
  | [] => [k]
  | j :: t => if k < j then k :: j :: t else if k = j then j :: t else j :: insertSlot k t

end Sys2Proof.Machine
end

