-- ==== Sys2Proof/Machine/Captures.lean ====
section
/-! DEFINITION. Captures and reversals (03_capture_settlement_and_reversal.md): CAPTURE, REVERSE, and the durable and
abandoned events of their records. -/

namespace Sys2Proof.Machine

/-! ## Events of records -/

/-- The engine takes the oldest journal event not yet taken, when it is the one the command names. -/
def takeJournalEvent (act : JournalEvent → Option (State → State)) (s : State) : Answer :=
  event (fun s =>
    match s.engine.journalEvents with
    | x :: rest =>
      match act x with
      | some f => f (s.mapEngine fun e => { e with journalEvents := rest })
      | none => s
    | [] => s) s

/-- The lazy refresh of the card purse a record names, if it names one (R9). -/
def refreshNamed (b : RecordBody) (s : State) : State :=
  match b.cardSlot with
  | some slot => refresh slot s
  | none => s

/-- A durable record's effect on the stored fields of a card purse it names, and its pending record gone. -/
def CardPurse.taking (b : RecordBody) (p : CardPurse) : CardPurse := (p.withAfter (b.cardEffect p.after)).dropPending

/-- A durable record's effect on a sponsor purse it names, and its pending record gone. -/
def SponsorPurse.taking (b : RecordBody) (p : SponsorPurse) : SponsorPurse :=
  ({ p with balance := b.sponsorEffect p.balance } : SponsorPurse).dropPending

/-- The effect of a durable record on the purses it names, each refreshed first if due. -/
def applyRecord (b : RecordBody) (s : State) : State :=
  onNamed b (CardPurse.taking b) (SponsorPurse.taking b) (refreshNamed b s)

/-- An abandoned record's pending records fall away (R64, R78, R81). -/
def forgetRecord (b : RecordBody) (s : State) : State := onNamed b CardPurse.dropPending SponsorPurse.dropPending s

/-- What a durable record adds to the period totals. -/
def countRecord (r : Record) (s : State) : State := s.mapEngine fun e => { e with totals := e.totals.add r }

/-! ## CAPTURE (R54 to R57) -/

/-- The body of a CAPTURE record of `ap` and `cp` against hold `h` (R57). -/
def captureBody (h : Hold) (ap cp : Nat) (s : State) : RecordBody :=
  let ahead := s.cardAhead h.cardSlot
  .capture h.cardSlot ((RecordBody.capture h.cardSlot ahead none ap cp).cardEffect ahead)
    (s.sponsorAfterOf h.sponsor fun b => b - ap) ap cp

/-- A CAPTURE is accepted (R56): the record is queued and the hold becomes SETTLING. -/
def acceptCapture (l : Lane) (handle amount : Nat) (final : Bool) (s : State) : State :=
  let slot := handleSlot handle
  let s := refresh (s.engine.hold slot).cardSlot s
  let h := s.engine.hold slot
  let ap := min amount h.allowanceShare
  (engineQueues h.lane (captureBody h ap (amount - ap) s) (.capture l handle final) s).mapEngine fun e =>
    e.mapHold slot fun h => { h with state := .settling }

/-- A CAPTURE on its handle (R55). -/
def captureOnHold (l : Lane) (handle amount : Nat) (final : Bool) (s : State) : State :=
  let h := s.engine.hold (handleSlot handle)
  match s.engine.resolve handle with
  | .stale | .ended => holdGone l handle s
  | .settling => refuse l .holdBusy s
  | .live =>
    if h.lane ≠ l then refuse l .notOwner s
    else if h.allowanceShare + h.cashShare < amount then
      fillReply l .overHold (beBytes 2 h.allowanceShare ++ beBytes 3 h.cashShare) s
    else if !s.storeOk then refuse l .storeFault s
    else acceptCapture l handle amount final s

/-- CAPTURE at the engine (R54). -/
def engineCapture (l : Lane) (handle amount final : Nat) (s : State) : State :=
  if s.laneLost l then refuse l .laneRecovering s
  else if !saleAmountOk amount then refuse l .badAmount s
  else match boolOfCode final with
    | none => refuse l .badValue s
    | some f => captureOnHold l handle amount f s

def execCapture (l : Lane) (handle amount final : Nat) (s : State) : Answer :=
  readyRequest (.capture l handle amount final) l (engineCapture l handle amount final) s

/-! ## CAPTURE_DURABLE (R60 to R63) and CAPTURE_ABANDONED (R64) -/

/-- The hold outcome of a CAPTURE reply, 12 bytes (R200 note 1). -/
def holdOutcome (h : Hold) : List Byte :=
  if h.state = .live then
    beBytes 1 0 ++ beBytes 1 (endReasonCode .unknown) ++ beBytes 2 h.allowanceShare ++ beBytes 3 h.cashShare ++
      beBytes 1 h.partsRemaining ++ beBytes 4 h.deadline.toNat
  else beBytes 1 1 ++ beBytes 1 (endReasonCode h.endReason) ++ beBytes 2 0 ++ beBytes 3 0 ++ beBytes 1 0 ++ beBytes 4 0

/-- The held amounts a capture takes with it (R60). -/
def chargeHeld (b : RecordBody) (ap cp : Nat) (s : State) : State :=
  onNamed b (fun p => { p with allowanceHeld := p.allowanceHeld - ap, cashHeld := p.cashHeld - cp })
    (fun p => { p with held := p.held - ap }) s

/-- The hold a durable capture was made against (R61). -/
def Hold.charged (receipt ap cp : Nat) (h : Hold) : Hold :=
  { h with allowanceShare := h.allowanceShare - ap, cashShare := h.cashShare - cp,
           partsRemaining := h.partsRemaining - 1, capturedSoFar := h.capturedSoFar + (ap + cp),
           lastReceipt := some receipt }

/-- A durable capture finished its hold (R61). -/
def Hold.finished (final : Bool) (h : Hold) : Bool :=
  final || h.partsRemaining = 0 || (h.allowanceShare = 0 && h.cashShare = 0)

/-- The hold of a durable capture (R61): charged, then ended CAPTURED or left to its marks. -/
def settleHold (handle receipt ap cp : Nat) (final : Bool) (s : State) : State :=
  let slot := handleSlot handle
  let s := s.mapEngine fun e => e.mapHold slot (Hold.charged receipt ap cp)
  if (s.engine.hold slot).finished final then endHold slot .captured s else settlementEnds slot s

/-- Append to the capture ring; a full ring loses its head (R67). -/
def ringAppend (x : RingEntry) (ring : List RingEntry) : List RingEntry :=
  (if 256 ≤ ring.length then ring.tail else ring) ++ [x]

/-- The ring entry of a durable capture (R67). -/
def captureEntry (r : Record) (period ap cp : Nat) : RingEntry :=
  { receipt := r.sequence, lane := r.lane, cardSlot := r.body.cardSlot.getD 0,
    cardNumber := (r.body.cardAfter.map CardAfter.cardNumber).getD 0, sponsor := r.body.sponsor, allowancePart := ap,
    cashPart := cp, period := period, reversal := .notReversed, closedMark := false }

/-- A capture that leaves a charged sponsor below the low mark raises SPONSOR_LOW (R62, R97). -/
def checkSponsorLow (b : RecordBody) (ap : Nat) (s : State) : State :=
  match b.sponsor with
  | some n => if 0 < ap ∧ (s.engine.sponsor n).balance < s.config.lowMark then raiseFlag .sponsorLow s else s
  | none => s

/-- The engine takes the durable event of a CAPTURE record (R60 to R63). -/
def takeCaptureDurable (r : Record) (ap cp : Nat) (l : Lane) (handle : Nat) (final : Bool) (s : State) : State :=
  let period := (s.engine.hold (handleSlot handle)).period
  let s := countRecord r (chargeHeld r.body ap cp (applyRecord r.body s))
  let s := s.mapEngine fun e => { e with ring := ringAppend (captureEntry r period ap cp) e.ring }
  let s := settleHold handle r.sequence ap cp final s
  let s := checkSponsorLow r.body ap s
  fillReply l .ok
    (beBytes 4 r.sequence ++ beBytes 2 ap ++ beBytes 3 cp ++ holdOutcome (s.engine.hold (handleSlot handle))) s

def execCaptureDurable (sequence : Nat) (s : State) : Answer :=
  takeJournalEvent (fun
    | .durable r (.capture l handle final) =>
      if r.sequence = sequence then
        match r.body with
        | .capture _ _ _ ap cp => some (takeCaptureDurable r ap cp l handle final)
        | _ => none
      else none
    | _ => none) s

/-- The engine takes the abandoned event of a CAPTURE record (R64). -/
def takeCaptureAbandoned (r : Record) (l : Lane) (handle : Nat) (s : State) : State :=
  let slot := handleSlot handle
  let s := settlementEnds slot (forgetRecord r.body s)
  fillReply l .storeFault (holdOutcome (s.engine.hold slot)) s

def execCaptureAbandoned (sequence : Nat) (s : State) : Answer :=
  takeJournalEvent (fun
    | .abandoned r (.capture l handle _) =>
      if r.sequence = sequence then some (takeCaptureAbandoned r l handle) else none
    | _ => none) s

/-! ## REVERSE (R70 to R76) -/

/-- Set the reversal state of the ring entry of a receipt, if the ring still holds it (R68). -/
def markReversal (receipt : Nat) (v : ReversalState) (s : State) : State :=
  s.mapEngine fun e =>
    { e with ring := e.ring.map fun x => if x.receipt = receipt then { x with reversal := v } else x }

/-- The sponsor a reversal names (R73): none for an entry whose sponsor has left the region with no allowance charged;
no answer where its sponsor has left with allowance charged. -/
def reversalSponsor (count : Nat) (x : RingEntry) : Option (Option Nat) :=
  match x.sponsor with
  | none => some none
  | some n => if n < count then some (some n) else if 0 < x.allowancePart then none else some none

/-- The body of a REVERSAL record (R74, R76). -/
def reversalBody (x : RingEntry) (sponsor : Option Nat) (s : State) : RecordBody :=
  let back := decide (x.period = (s.engine.card x.cardSlot).allowancePeriod)
  let ahead := s.cardAhead x.cardSlot
  let own := RecordBody.reversal x.cardSlot ahead none x.allowancePart x.cashPart x.receipt back
  .reversal x.cardSlot (own.cardEffect ahead) (s.sponsorAfterOf sponsor fun b => b + x.allowancePart)
    x.allowancePart x.cashPart x.receipt back

/-- The after-states of a record keep within the bounds of R7 (R75). -/
def RecordBody.withinBounds (b : RecordBody) : Bool :=
  b.cardAfter.all (fun c => c.cashBalance ≤ 2000000) && b.sponsorAfter.all (fun a => a.balance ≤ 100000000)

/-- The last checks of REVERSE and its acceptance (R75, R76), on the purse as it is refreshed. A refusal leaves the purse as it
was before the refresh (R70, log entry 21). -/
def acceptReverse (l : Lane) (x : RingEntry) (sponsor : Option Nat) (s : State) : State :=
  let fresh := refresh x.cardSlot s
  let body := reversalBody x sponsor fresh
  if !body.withinBounds then refuse l .ceiling s
  else if !s.storeOk then refuse l .storeFault s
  else engineQueues l body (.reversal l x.receipt) (markReversal x.receipt .queued fresh)

/-- The purse of a ring entry is still the card's, open and not about to close (R73, R84). -/
def Engine.entryPurseOpen (e : Engine) (x : RingEntry) : Bool :=
  let p := e.card x.cardSlot
  !x.closedMark && e.isCardSlot x.cardSlot && p.state ≠ .free && p.cardNumber = x.cardNumber && !p.closeQueued

/-- REVERSE on the ring entry it names (R71 to R74). -/
def reverseEntry (l : Lane) (x : RingEntry) (s : State) : State :=
  if x.reversal = .done then refuse l .alreadyReversed s
  else if x.reversal = .queued then refuse l .reversalPending s
  else if s.role l = .till ∧ x.lane ≠ l then refuse l .notPermitted s
  else if s.role l = .till ∧ x.period ≠ s.period.number then refuse l .tooLate s
  else if !s.engine.entryPurseOpen x then refuse l .purseClosed s
  else match reversalSponsor s.engine.sponsorCount x with
    | none => refuse l .purseClosed s
    | some sponsor => acceptReverse l x sponsor s

/-- REVERSE at the engine (R70, R71). -/
def engineReverse (l : Lane) (receipt : Nat) (s : State) : State :=
  if s.laneLost l then refuse l .laneRecovering s
  else if s.period.state = .closeWrite then refuse l .periodClosing s
  else match s.engine.ring.find? (fun x => x.receipt = receipt) with
    | none => refuse l .notFound s
    | some x => reverseEntry l x s

def execReverse (l : Lane) (receipt : Nat) (s : State) : Answer :=
  readyRequest (.reverse l receipt) l (engineReverse l receipt) s

/-! ## REVERSAL_DURABLE (R77) and REVERSAL_ABANDONED (R78) -/

/-- The engine takes the durable event of a REVERSAL record (R77). -/
def takeReversalDurable (r : Record) (ap cp : Nat) (back : Bool) (l : Lane) (receipt : Nat) (s : State) : State :=
  let s := markReversal receipt .done (countRecord r (applyRecord r.body s))
  fillReply l .ok
    (beBytes 4 r.sequence ++ beBytes 4 receipt ++ beBytes 3 cp ++
      beBytes 2 (if r.body.sponsor.isSome then ap else 0) ++ beBytes 2 (if back then ap else 0)) s

def execReversalDurable (sequence : Nat) (s : State) : Answer :=
  takeJournalEvent (fun
    | .durable r (.reversal l receipt) =>
      if r.sequence = sequence then
        match r.body with
        | .reversal _ _ _ ap cp _ back => some (takeReversalDurable r ap cp back l receipt)
        | _ => none
      else none
    | _ => none) s

/-- The engine takes the abandoned event of a REVERSAL record (R78). -/
def takeReversalAbandoned (r : Record) (l : Lane) (receipt : Nat) (s : State) : State :=
  refuse l .storeFault (markReversal receipt .notReversed (forgetRecord r.body s))

def execReversalAbandoned (sequence : Nat) (s : State) : Answer :=
  takeJournalEvent (fun
    | .abandoned r (.reversal l receipt) =>
      if r.sequence = sequence then some (takeReversalAbandoned r l receipt) else none
    | _ => none) s

end Sys2Proof.Machine
end

