-- ==== Sys2Proof/Machine/Configuration.lean ====
section
/-! DEFINITION. The configuration requests of the Configuration Unit (R96, R182 to R186). -/

namespace Sys2Proof.Machine

/-! ## SET_CEILING and SET_LOW_MARK (R96) -/

def configSetCeiling (l : Lane) (amount : Nat) (s : State) : State :=
  if 2000000 < amount then refuse l .badValue s
  else fillReply l .ok (beBytes 3 amount) (s.mapConfig fun c => { c with ceiling := amount })

def execSetCeiling (l : Lane) (amount : Nat) (s : State) : Answer :=
  lockedRequest (.setCeiling l amount) l (configSetCeiling l amount) s

def configSetLowMark (l : Lane) (amount : Nat) (s : State) : State :=
  if 100000000 < amount then refuse l .badValue s
  else fillReply l .ok (beBytes 4 amount) (s.mapConfig fun c => { c with lowMark := amount })

def execSetLowMark (l : Lane) (amount : Nat) (s : State) : Answer :=
  lockedRequest (.setLowMark l amount) l (configSetLowMark l amount) s

/-! ## LOCK_CONFIG (R183) -/

def execLockConfig (l : Lane) (s : State) : Answer :=
  readyRequest (.lockConfig l) l (fun s => fillReply l .ok [] (s.mapConfig fun c => { c with lock := true })) s

/-! ## SAVE_CONFIG (R184) -/

/-- The request waits on the waiting save, which it sets up if there is none; with the store in FAULT it ends at once. -/
def configSaveConfig (l : Lane) (s : State) : State :=
  if !s.storeOk then refuse l .storeFault s
  else s.mapJournal fun j => { j with save := some (j.save.getD [] ++ [l]) }

def execSaveConfig (l : Lane) (s : State) : Answer := readyRequest (.saveConfig l) l (configSaveConfig l) s

/-! ## READ_CONFIG (R186, R206) -/

/-- The bytes of a part after its part number, or none for a part number above 4. -/
def configPart (part : Nat) (s : State) : Option (List Byte) :=
  let c := s.workingConfig
  match part with
  | 0 => some (scalarBytes c ++ beBytes 1 (boolCode s.config.lock) ++ beBytes 1 (sourceCode s.config.source) ++
      beBytes 1 (partCode s.restore.part) ++ beBytes 1 (findingCode s.restore.finding) ++ routeBytes c.routes)
  | 1 => some (c.lanes.toList.flatMap laneBytes)
  | 2 => some (c.schedule.toList.flatMap scheduleBytes)
  | 3 => some ((c.ranges.toList.take 4).flatMap rangeBytes)
  | 4 => some ((c.ranges.toList.drop 4).flatMap rangeBytes)
  | _ => none

def configReadConfig (l : Lane) (part : Nat) (s : State) : State :=
  match configPart part s with
  | some bytes => fillReply l .ok (beBytes 1 part ++ bytes) s
  | none => refuse l .badValue s

def execReadConfig (l : Lane) (part : Nat) (s : State) : Answer :=
  request (.readConfig l part) (configReadConfig l part) s

end Sys2Proof.Machine
end

