-- ==== Sys2Proof/Machine/Holds.lean ====
section
/-! DEFINITION. Holds (02_holds.md): HOLD, RELEASE, EXTEND, expiry, and holds on a lost lane. -/

namespace Sys2Proof.Machine

/-! ## HOLD (R36 to R41) -/

/-- The range entry that maps the card of a purse. -/
def Engine.entryFor (e : Engine) (card : Nat) : RangeEntry :=
  match entryOf e.ranges card with
  | some k => e.ranges[k]
  | none => RangeEntry.default

/-- The allowance share of an amount: the least of the amount, the allowance available and, with a sponsor, the sponsor
available (R39). -/
def allowanceShareOf (e : Engine) (p : CardPurse) (sponsor : Option Nat) (amount : Nat) : Nat :=
  let a := min amount p.allowanceAvailable
  match sponsor with
  | some n => min a (e.sponsor n).available
  | none => a

/-- The record of a hold as it is placed (R41); end reason is left as the slot's last hold ended it. -/
def Hold.place (l : Lane) (cardSlot : Nat) (sponsor : Option Nat) (a c parts : Nat) (deadline : Tick) (period : Nat)
    (h : Hold) : Hold :=
  { generation := (h.generation + 1) % 128, state := .live, lane := l, cardSlot := cardSlot, sponsor := sponsor,
    allowanceShare := a, cashShare := c, partsRemaining := parts, capturedSoFar := 0, deadline := deadline,
    extensionsUsed := 0, period := period, endMark := .unmarked, deadlinePassed := false, endReason := h.endReason,
    lastReceipt := none }

/-- A HOLD that passes every check is placed in the slot at the head of the free list (R41), and answered. -/
def placeHold (l : Lane) (cardSlot : Nat) (sponsor : Option Nat) (a c parts slot : Nat) (rest : List Nat)
    (s : State) : State :=
  let deadline := ticksFrom s.now s.lanes[l].settings.holdLifetime
  let handle := handleOf (((s.engine.hold slot).generation + 1) % 128) slot
  let s := s.mapEngine fun e =>
    let e := { e with freeList := rest }
    let e := e.mapHold slot (Hold.place l cardSlot sponsor a c parts deadline s.period.number)
    let e := e.mapCard cardSlot fun p =>
      { p with cashHeld := p.cashHeld + c, allowanceHeld := p.allowanceHeld + a, holdList := p.holdList ++ [handle] }
    let e := e.mapSponsor? sponsor fun p => { p with held := p.held + a }
    e.mapLaneHolds l fun hs => hs ++ [handle]
  let s := s.mapDeadlines fun d =>
    { d with list := insertDeadline d.tick { deadline := deadline, handle := handle } d.list }
  fillReply l .ok (beBytes 2 handle ++ beBytes 2 a ++ beBytes 3 c ++ beBytes 4 deadline.toNat) (reportHolds s)

/-- The capacity, share and limit checks on a refreshed purse (R38 to R40), and the placement. -/
def holdOnPurse (l : Lane) (cardSlot amount parts : Nat) (s : State) : Answer :=
  let p := s.engine.card cardSlot
  let entry := s.engine.entryFor p.cardNumber
  let a := allowanceShareOf s.engine p entry.sponsor amount
  let c := amount - a
  let counted := p.spent + p.cashHeld + p.allowanceHeld
  if 4 ≤ p.holdList.length then .next (refuse l .purseHoldsFull s)
  else if s.lanes[l].settings.holdLimit ≤ s.engine.laneHolds[l].length then .next (refuse l .laneHoldsFull s)
  else if p.cashAvailable < c then .next (fillReply l .insufficient (beBytes 3 (a + p.cashAvailable)) s)
  else if entry.limit ≠ 0 ∧ entry.limit < counted + amount then
    .next (fillReply l .overLimit (beBytes 3 (entry.limit - counted)) s)
  else match s.engine.freeList with
    | slot :: rest => .next (placeHold l cardSlot entry.sponsor a c parts slot rest s)
    | [] => .fault .freeListEmpty

/-- HOLD at the engine (R36, R37). -/
def engineHold (l : Lane) (card amount parts : Nat) (s : State) : Answer :=
  if !s.ready then .next (refuse l .notReady s)
  else if s.laneLost l then .next (refuse l .laneRecovering s)
  else if !s.storeOk then .next (refuse l .storeFault s)
  else if s.period.state ≠ .opened then .next (refuse l .periodClosing s)
  else if !saleAmountOk amount then .next (refuse l .badAmount s)
  else if parts < 1 ∨ 15 < parts then .next (refuse l .badValue s)
  else match lookup s.engine card with
    | none => .next (refuse l .noCard s)
    | some slot =>
      if (s.engine.card slot).state = .blocked ∨ (s.engine.card slot).closeQueued then .next (refuse l .blocked s)
      else holdOnPurse l slot amount parts (refresh slot s)

def execHold (l : Lane) (card amount parts : Nat) (s : State) : Answer :=
  takeRequest (.hold l card amount parts) (engineHold l card amount parts) s

/-! ## RELEASE (R43, R44) -/

/-- The reason a RELEASE ends a hold for: RELEASED from its till, OFFICE_RELEASED from the office. -/
def releaseReason (r : Role) : EndReason := if r = .office then .officeReleased else .released

/-- A LIVE hold is released, and the lane told what was released (R43, R44). -/
def releaseHold (l : Lane) (handle : Nat) (s : State) : State :=
  let slot := handleSlot handle
  let h := s.engine.hold slot
  fillReply l .ok
    (beBytes 2 handle ++ beBytes 2 h.allowanceShare ++ beBytes 3 h.cashShare ++ beBytes 3 h.capturedSoFar)
    (endHold slot (releaseReason (s.role l)) s)

def engineRelease (l : Lane) (handle : Nat) (s : State) : State :=
  if s.laneLost l then refuse l .laneRecovering s
  else match s.engine.resolve handle with
    | .stale | .ended => holdGone l handle s
    | .settling => refuse l .holdBusy s
    | .live =>
      if s.role l ≠ .office ∧ (s.engine.hold (handleSlot handle)).lane ≠ l then refuse l .notOwner s
      else releaseHold l handle s

def execRelease (l : Lane) (handle : Nat) (s : State) : Answer :=
  readyRequest (.release l handle) l (engineRelease l handle) s

/-! ## EXTEND (R46, R47) -/

/-- A LIVE hold gets a fresh deadline from now (R47). -/
def extendHold (l : Lane) (handle : Nat) (s : State) : State :=
  let slot := handleSlot handle
  let s := refresh (s.engine.hold slot).cardSlot s
  let deadline := ticksFrom s.now s.lanes[l].settings.holdLifetime
  let used := (s.engine.hold slot).extensionsUsed + 1
  let s := s.mapEngine fun e => e.mapHold slot fun h => { h with deadline := deadline, extensionsUsed := used }
  let s := s.mapDeadlines fun d =>
    { d with list := insertDeadline d.tick { deadline := deadline, handle := handle } (removeDeadline handle d.list) }
  fillReply l .ok (beBytes 2 handle ++ beBytes 4 deadline.toNat ++ beBytes 1 (3 - used)) s

def engineExtend (l : Lane) (handle : Nat) (s : State) : State :=
  let h := s.engine.hold (handleSlot handle)
  if s.laneLost l then refuse l .laneRecovering s
  else match s.engine.resolve handle with
    | .stale | .ended => holdGone l handle s
    | r =>
      if h.lane ≠ l then refuse l .notOwner s
      else if r ≠ .live then refuse l .holdBusy s
      else if s.period.state ≠ .opened then refuse l .periodClosing s
      else if 3 ≤ h.extensionsUsed then refuse l .extendLimit s
      else extendHold l handle s

def execExtend (l : Lane) (handle : Nat) (s : State) : Answer :=
  readyRequest (.extend l handle) l (engineExtend l handle) s

/-! ## Expiry (R48, R49) -/

/-- The deadline of a SETTLING hold has fallen due (R49). -/
def markDeadlinePassed (handle : Nat) (s : State) : State :=
  let slot := handleSlot handle
  ((refresh (s.engine.hold slot).cardSlot s).mapEngine fun e =>
    e.mapHold slot fun h => { h with deadlinePassed := true }).mapDeadlines fun d =>
      { d with list := removeDeadline handle d.list }

/-- The engine takes an expiry event (R48, R49). -/
def expireHold (handle : Nat) (deadline : Tick) (s : State) : State :=
  let h := s.engine.hold (handleSlot handle)
  match s.engine.resolve handle with
  | .live => if h.deadline = deadline then endHold (handleSlot handle) .expired s else s
  | .settling => if h.deadline = deadline ∧ h.deadlinePassed = false then markDeadlinePassed handle s else s
  | .stale | .ended => s

/-- HOLD_EXPIRY_EVENT: the oldest expiry event raised and not yet taken. -/
def execHoldExpiryEvent (handle : Nat) (deadline : Tick) (s : State) : Answer :=
  event (fun s =>
    match s.engine.expiries with
    | x :: rest =>
      if x = (handle, deadline) then expireHold handle deadline (s.mapEngine fun e => { e with expiries := rest })
      else s
    | [] => s) s

/-! ## A lost lane's holds (R50, R51) -/

/-- One hold of the lane-lost walk. -/
def loseHold (handle : Nat) (s : State) : State :=
  let slot := handleSlot handle
  match s.engine.resolve handle with
  | .live => endHold slot .laneLost s
  | .settling => markHold slot .laneLost (refresh (s.engine.hold slot).cardSlot s)
  | .stale | .ended => s

/-- The walk of a lost lane's hold list, oldest first, and the LANE_LOST notice with the count of LIVE holds ended. -/
def loseLane (l : Lane) (s : State) : State :=
  let handles := s.engine.laneHolds[l]
  let count := (handles.filter fun h => s.engine.resolve h = .live).length
  let s := handles.foldl (fun s h => loseHold h s) s
  placeNotice l (.laneLost count s.now) s

/-- LANE_LOST_EVENT: a lane-lost event of this lane sent and not yet taken. -/
def execLaneLostEvent (l : Lane) (s : State) : Answer :=
  event (fun s =>
    if l ∈ s.engine.lostLanes then
      loseLane l (s.mapEngine fun e => { e with lostLanes := e.lostLanes.erase l })
    else s) s

end Sys2Proof.Machine
end

