-- ==== Sys2Proof/Machine/Journal.lean ====
section
/-! DEFINITION. The Journal Unit's requests and reads (06_journal_and_store.md): SYNC, READ_JOURNAL, RETRY_STORE, the
end of a journal read, the retry operation's steps, and the exhausted journal. -/

namespace Sys2Proof.Machine

/-! ## The port -/

/-- Give the port to an operation with no write under way. -/
def holdPort (op : PortOp) (s : State) : State := s.mapJournal fun j => { j with port := some { op := op, write := none } }

/-- An operation issues the first attempt of a write, whose status is due within 2 ticks (R123). -/
def startWrite (op : PortOp) (address : Nat) (bytes : List Byte) (s : State) : State :=
  s.mapJournal fun j =>
    { j with port := some { op := op, write := some { address := address, bytes := bytes, attempt := 1,
                                                      timer := .running (s.now + 2) } } }

def freePort (s : State) : State := s.mapJournal fun j => { j with port := none }

/-! ## SYNC (R143) -/

def journalSync (l : Lane) (s : State) : State :=
  let mark := s.journal.nextSeq - 1
  if mark ≤ s.journal.lastDurable then refuse l .ok s
  else s.mapJournal fun j => { j with syncs := j.syncs ++ [{ lane := l, mark := mark }] }

def execSync (l : Lane) (s : State) : Answer := readyRequest (.sync l) l (journalSync l) s

/-- The SYNCs whose mark has become durable are answered OK (R143). -/
def answerSyncs (s : State) : State :=
  let met := (s.journal.syncs.filter fun w => w.mark ≤ s.journal.lastDurable).map SyncWait.lane
  fillAll met .ok (s.mapJournal fun j => { j with syncs := j.syncs.filter fun w => !(w.mark ≤ j.lastDurable) })

/-! ## READ_JOURNAL (R144, R145) -/

/-- The sequence number asked for lies in the ring as it stands (R144). -/
def State.inRing (s : State) (sequence : Nat) : Bool :=
  sequence ≤ s.journal.lastDurable && s.journal.lastDurable - 8191 ≤ sequence && 1 ≤ sequence &&
    s.restore.ringBase ≤ sequence

def journalReadJournal (l : Lane) (sequence : Nat) (s : State) : State :=
  if s.inRing sequence then
    s.mapJournal fun j => { j with reads := j.reads ++ [{ lane := l, sequence := sequence, voided := false }] }
  else refuse l .outOfRange s

def execReadJournal (l : Lane) (sequence : Nat) (s : State) : Answer :=
  readyRequest (.readJournal l sequence) l (journalReadJournal l sequence) s

/-- The sponsor field of a CAPTURE or REVERSAL record in a READ_JOURNAL reply (R205). -/
def sponsorReplyField (sp : Option SponsorAfter) : Nat := sponsorField (sp.map SponsorAfter.sponsor)

/-- Bytes 10 to 41 of a READ_JOURNAL reply, from the fields in order (R205). -/
def recordTail (slot state card sponsor allowance cash balance remaining spent sponsorBal receipt back : Nat) :
    List Byte :=
  beBytes 2 slot ++ beBytes 1 state ++ beBytes 3 card ++ beBytes 1 sponsor ++ beBytes 4 allowance ++ beBytes 3 cash ++
    beBytes 3 balance ++ beBytes 2 remaining ++ beBytes 4 spent ++ beBytes 4 sponsorBal ++ beBytes 4 receipt ++
    beBytes 1 back

/-- The record in a READ_JOURNAL reply: 42 bytes, or 35 for PERIOD_CLOSE (R205); a field the kind does not carry is
0. The sponsor balance of a CAPTURE or REVERSAL with no sponsor is sent as its unit holds it, 7FFFFFFh, not as the 0 that R201
gives a field the reply does not use: the model's choice (log entry 39). -/
def recordReply (r : Record) : List Byte :=
  let head := fun (lane : Nat) =>
    beBytes 4 r.sequence ++ beBytes 1 (recordKind r.body) ++ beBytes 1 lane ++ beBytes 4 r.period
  match r.body with
  | .capture slot c sp ap cp =>
    head r.lane.val ++ recordTail slot (purseCode c.state) c.cardNumber (sponsorReplyField sp) ap cp c.cashBalance
      c.allowanceRemaining c.spent (sponsorBalance sp) 0 0
  | .reversal slot c sp ap cp q back =>
    head r.lane.val ++ recordTail slot (purseCode c.state) c.cardNumber (sponsorReplyField sp) ap cp c.cashBalance
      c.allowanceRemaining c.spent (sponsorBalance sp) q (boolCode back)
  | .topUp slot c amount | .withdraw slot c amount =>
    head r.lane.val ++ recordTail slot (purseCode c.state) c.cardNumber 0 0 amount c.cashBalance c.allowanceRemaining
      c.spent 0 0 0
  | .change _ slot c =>
    head r.lane.val ++ recordTail slot (purseCode c.state) c.cardNumber 0 0 0 c.cashBalance c.allowanceRemaining
      c.spent 0 0 0
  | .fund sp amount => head r.lane.val ++ recordTail 0 0 0 sp.sponsor amount 0 0 0 0 sp.balance 0 0
  | .periodClose origin clock f =>
    head (match origin with | .lane _ => r.lane.val | .schedule _ => 0xFF) ++
      beBytes 1 (match origin with | .lane _ => 0xFF | .schedule e => e) ++ beBytes 3 (clockField clock) ++
      beBytes 1 (boolCode f.partialMark) ++ beBytes 4 f.captureCount ++ beBytes 4 f.capturedCash ++
      beBytes 4 f.capturedAllowance ++ beBytes 4 f.reversedCash ++ beBytes 4 f.reversedAllowance

/-- The unit a journal read has read is judged (R145). -/
def judgeRead (l : Lane) (sequence readsDone : Nat) (voided : Bool) (unit : List Byte) (s : State) : State :=
  match readRecord (ringSlot sequence) unit with
  | some r =>
    if r.sequence = sequence then fillReply l .ok (recordReply r) (freePort s) else refuse l .outOfRange (freePort s)
  | none =>
    if readsDone < 2 then holdPort (.journalRead l sequence (readsDone + 1) voided) s
    else if s.journal.voidSlot = some (ringSlot sequence) ∨ voided then refuse l .outOfRange (freePort s)
    else refuse l .storeFault (freePort s)

/-- JOURNAL_READ_COMPLETE: the journal read that holds the port has read its unit. -/
def execJournalReadComplete (answer : StoreAnswer) (s : State) : Answer :=
  event (fun s =>
    match s.journal.port with
    | some { op := .journalRead l sequence readsDone voided, .. } =>
      judgeRead l sequence readsDone voided (readAnswer answer s.memory (ringAddress (ringSlot sequence)) 32) s
    | _ => s) s

/-! ## RETRY_STORE (R140, R141) -/

/-- RETRY_STORE at the Journal Unit: it starts the retry operation or joins it; on an exhausted journal the operation
fails at once. -/
def journalRetryStore (l : Lane) (s : State) : State :=
  if s.storeOk then refuse l .ok s
  else if s.journal.exhausted then refuse l .storeFault s
  else s.mapJournal fun j => { j with retry := some (j.retry.getD [] ++ [l]) }

def execRetryStore (l : Lane) (s : State) : Answer := readyRequest (.retryStore l) l (journalRetryStore l) s

/-- The retry operation ends: every RETRY_STORE waiting on it is answered, and the port is free. -/
def endRetry (r : Result) (s : State) : State :=
  fillAll (s.journal.retry.getD []) r (freePort (s.mapJournal fun j => { j with retry := none }))

/-- A step of the retry operation fails. -/
def retryFails (s : State) : State := endRetry .storeFault s

/-- Every step has succeeded: the store is OK and no slot is void (R141). -/
def retrySucceeds (s : State) : State :=
  endRetry .ok (raiseFlag .storeRestored (s.mapJournal fun j => { j with store := .ok, voidSlot := none }))

/-- RETRY_HEADER_READ: step 2 of the retry operation, and the first attempt of step 3. -/
def execRetryHeaderRead (answer : StoreAnswer) (s : State) : Answer :=
  event (fun s =>
    match s.journal.port with
    | some { op := .retryHeader, .. } =>
      let h := readAnswer answer s.memory 0 15
      if markAndCheckOk h then startWrite .retryCheck headerCheckAddress (h.drop 13) s else retryFails s
    | _ => s) s

/-- The reads that wait on a ring slot a retry has made void (R145). -/
def markVoided (k : Nat) (s : State) : State :=
  s.mapJournal fun j =>
    { j with reads := j.reads.map fun w => if ringSlot w.sequence = k then { w with voided := true } else w }

/-! ## The exhausted journal (R127, R194) -/

/-- JOURNAL_EXHAUSTION: the exhausted journal, its last record finished, puts the store in FAULT. -/
def execJournalExhaustion (s : State) : Answer :=
  event (fun s =>
    if s.journal.exhaustionDue then enterFault none (s.mapJournal fun j => { j with exhaustionDue := false }) else s) s

end Sys2Proof.Machine
end

