-- ==== Sys2Proof/Machine/Lanes.lean ====
section
/-! DEFINITION. Lanes (07_lanes.md): the receiver, the checks at arrival, the transmitter, the Lane Arbiter, the
silence timer, PING and SET_LANE. -/

namespace Sys2Proof.Machine

/-! ## Roles and lane states at arrival and grant (R155, R157, R160) -/

/-- The kinds a lane takes while LOST (R155). -/
def takenWhileLost : RequestKind → Bool
  | .ping | .pollNotice | .balance => true
  | .hold | .capture | .release | .extend | .reverse | .openPurse | .closePurse | .block | .unblock | .topUp
  | .withdraw | .fundSponsor | .readPurse | .setLane | .setRange | .setSponsorCount | .setCeiling | .setLowMark
  | .setSchedule | .setDrainLimit | .setRoute | .saveConfig | .lockConfig | .readConfig | .closePeriod | .setClock
  | .readTotals | .sync | .readJournal | .retryStore | .formatStore | .clearEvents | .readEvents => false

/-- The kinds a TILL lane may send (R157). -/
def tillMaySend : RequestKind → Bool
  | .ping | .pollNotice | .balance | .release | .hold | .capture | .extend | .reverse => true
  | .openPurse | .closePurse | .block | .unblock | .topUp | .withdraw | .fundSponsor | .readPurse | .setLane
  | .setRange | .setSponsorCount | .setCeiling | .setLowMark | .setSchedule | .setDrainLimit | .setRoute
  | .saveConfig | .lockConfig | .readConfig | .closePeriod | .setClock | .readTotals | .sync | .readJournal
  | .retryStore | .formatStore | .clearEvents | .readEvents => false

/-- The kinds an OFFICE lane may not send (R157). -/
def officeMayNotSend : RequestKind → Bool
  | .hold | .capture | .extend => true
  | .ping | .pollNotice | .balance | .release | .reverse | .openPurse | .closePurse | .block | .unblock | .topUp
  | .withdraw | .fundSponsor | .readPurse | .setLane | .setRange | .setSponsorCount | .setCeiling | .setLowMark
  | .setSchedule | .setDrainLimit | .setRoute | .saveConfig | .lockConfig | .readConfig | .closePeriod | .setClock
  | .readTotals | .sync | .readJournal | .retryStore | .formatStore | .clearEvents | .readEvents => false

/-- A role may send a kind (R157). -/
def roleMaySend (r : Role) (k : RequestKind) : Bool :=
  match r with
  | .off => false
  | .till => tillMaySend k
  | .office => !officeMayNotSend k

/-- A lane in this state refuses the kind with LANE_RECOVERING (R52, R155, R160). -/
def refusesWhileLost (state : LaneState) (k : RequestKind) : Bool := state = .lost && !takenWhileLost k

/-- The refusal of a kind that the role does not allow (R155, R157). On a LOST lane R52, R162 and the second row of R165
answer LANE_RECOVERING where R155, R157 and R190 answer NOT_PERMITTED, so which of the two it is there is a free value
(log entry 34). -/
def roleRefusal (state : LaneState) (k : RequestKind) : Result :=
  if refusesWhileLost state k && Config.lossRefusesFirst (kindCode k) then .laneRecovering else .notPermitted

/-- The arrival checks (R155): the refusal of the first that fails, or none. The checks of kind and body length come first on a
LOST lane too (log entry 40). -/
def arrivalRefusal (r : Role) (state : LaneState) (f : Frame) : Option Result :=
  match kindOfCode f.kind with
  | none => some .badRequest
  | some k =>
    if f.body.length ≠ bodyLength k then some .badLength
    else if !roleMaySend r k then some (roleRefusal state k)
    else if refusesWhileLost state k then some .laneRecovering
    else none

/-! ## Arrival of a valid frame (R154 to R156, R161) -/

/-- A valid frame moves the lane state and the silence timer, whatever becomes of it (R161). -/
def LaneUnit.heard (now : Tick) (u : LaneUnit) : LaneUnit :=
  match u.state with
  | .idle => { u with state := .active, silence := startSilence now u.settings }
  | .active => if u.silence.isOn then { u with silence := startSilence now u.settings } else u
  | .lost => u

/-- A reply that a Lane Unit forms itself, its body empty: the request is REPLYING. -/
def LaneUnit.refuseFrame (f : Frame) (r : Result) (u : LaneUnit) : LaneUnit :=
  { u with request := .replying f, tx := u.tx ++ [.reply],
           reply := some { kind := f.kind, tag := f.tag, result := r, body := [] } }

/-- A valid frame at the request slot and the busy-answer slot (R154 to R156). -/
def LaneUnit.accept (f : Frame) (u : LaneUnit) : LaneUnit :=
  match u.request with
  | .empty =>
    match arrivalRefusal u.settings.role u.state f with
    | some r => u.refuseFrame f r
    | none => { u with request := .waiting f }
  | .waiting _ | .withOwner _ | .replying _ =>
    match u.busy with
    | none =>
      { u with busy := some { kind := f.kind, tag := f.tag, result := .busy, body := [] }, tx := u.tx ++ [.busy] }
    | some _ => u

/-- A valid frame arrives on a lane. -/
def frameArrives (l : Lane) (f : Frame) (s : State) : State :=
  s.mapLane l fun u => (u.heard s.now).accept f

/-! ## The receiver (R151, R152, R199) -/

/-- A link error (R152): the frame begun is discarded, the mark set, the flag raised; the receiver goes on in `next`. -/
def linkErrorAt (l : Lane) (next : Receiver) (s : State) : State :=
  raiseFlag .linkErrors (s.mapLane l fun u => { u with linkError := true, receiver := next })

def setReceiver (l : Lane) (r : Receiver) (s : State) : State := s.mapLane l fun u => { u with receiver := r }

/-- The frame of the bytes its length counts: kind, tag, body (R199). -/
def frameOf : List Byte → Option Frame
  | kind :: tag :: body => some { kind := kind, tag := tag, body := body }
  | _ => none

/-- The length byte of a frame in reception. -/
def frameLength (got : List Byte) : Nat := readField got 0 1

/-- The last check byte is in: the check is compared (R151). `got` is the frame from its length byte on. -/
def frameComplete (l : Lane) (got : List Byte) (s : State) : State :=
  let counted := (got.drop 1).take (frameLength got)
  match frameOf counted with
  | some f =>
    if got.drop (1 + frameLength got) = checkBytes counted then frameArrives l f (setReceiver l .hunt s)
    else linkErrorAt l .hunt s
  | none => linkErrorAt l .hunt s

/-- A byte inside a frame (R151). -/
def byteInFrame (l : Lane) (got : List Byte) (b : Byte) (s : State) : State :=
  match got with
  | [] => if b.toNat < 2 ∨ 50 < b.toNat then linkErrorAt l .discarding s else setReceiver l (.receiving [b]) s
  | _ :: _ =>
    if got.length + 1 = frameLength got + 3 then frameComplete l (got ++ [b]) s
    else setReceiver l (.receiving (got ++ [b])) s

/-- A byte arrives on a receive line, with or without its stop bit (R151). -/
def receiveByte (l : Lane) (b : Byte) (stopBit : Bool) (s : State) : State :=
  match s.lanes[l].receiver with
  | .closed => s
  | .hunt =>
    if !stopBit then linkErrorAt l .discarding s
    else if b = startMark then setReceiver l (.receiving []) s else s
  | .receiving got => if !stopBit then linkErrorAt l .discarding s else byteInFrame l got b s
  | .discarding => if !stopBit then linkErrorAt l .discarding s else s

def execByteReceived (l : Lane) (b : Byte) (stopBit : Bool) (s : State) : Answer :=
  event (receiveByte l b stopBit) s

/-- The next byte is the last check byte of the frame in reception. -/
def LaneUnit.atLastByte (u : LaneUnit) : Bool :=
  match u.receiver with
  | .receiving (n :: got) => got.length + 2 = n.toNat + 3
  | .receiving [] | .closed | .hunt | .discarding => false

/-- FRAME_RECEIVED: the byte that completes the frame in reception (log entry 4). -/
def execFrameReceived (l : Lane) (lastByte : Byte) (s : State) : Answer :=
  event (fun s => if s.lanes[l].atLastByte then receiveByte l lastByte true s else s) s

/-- GAP_TIMER_EXPIRY: 2 ms have passed with no byte (R151). -/
def execGapTimerExpiry (l : Lane) (s : State) : Answer :=
  event (fun s =>
    match s.lanes[l].receiver with
    | .receiving _ => linkErrorAt l .hunt s
    | .discarding => setReceiver l .hunt s
    | .closed | .hunt => s) s

/-! ## The transmitter (R153, R154) -/

/-- The last byte of the frame being sent has gone: its slot empties, and with a reply the request slot. -/
def LaneUnit.sent (u : LaneUnit) : LaneUnit :=
  match u.tx with
  | .reply :: rest => { u with reply := none, request := .empty, tx := rest }
  | .busy :: rest => { u with busy := none, tx := rest }
  | [] => u

def execFrameSent (l : Lane) (s : State) : Answer := event (fun s => s.mapLane l LaneUnit.sent) s

/-! ## The Lane Arbiter (R159, R160) and PING (R166) -/

/-- The frame that waits in a request slot. -/
def RequestSlot.waitingFrame : RequestSlot → Option Frame
  | .waiting f => some f
  | .empty | .withOwner _ | .replying _ => none

/-- The lanes in the order the arbiter looks at them: from the lane after the pointer round to the pointer. -/
def grantOrder (pointer : Lane) : List Lane := (List.finRange 8).map fun i => pointer + 1 + i

/-- The lane and frame of the next grant, when the intake is free and a slot is WAITING (R159). -/
def State.nextGrant (s : State) : Option (Lane × Frame) :=
  match s.arbiter.intake with
  | some _ => none
  | none =>
    (grantOrder s.arbiter.pointer).findSome? fun l => (s.lanes[l].request.waitingFrame).map fun f => (l, f)

/-- The body of a PING reply (R166, R200). -/
def pingBody (l : Lane) (s : State) : List Byte :=
  beBytes 1 (partCode s.restore.part) ++ beBytes 1 (storeCode s.journal.store) ++ beBytes 4 s.period.number ++
    beBytes 1 (periodCode s.period.state) ++ beBytes 1 (laneStateCode s.lanes[l].state) ++
    beBytes 3 (clockField s.period.clock) ++ beBytes 4 s.now.toNat ++ beBytes 1 (boolCode s.lanes[l].linkError)

/-- A PING answered in the event of its grant: the reply slot is filled and the link-error mark cleared (R166). -/
def answerPing (l : Lane) (f : Frame) (s : State) : State :=
  let body := pingBody l s
  s.mapLane l fun u =>
    { u with request := .replying f, tx := u.tx ++ [.reply], linkError := false,
             reply := some { kind := f.kind, tag := f.tag, result := .ok, body := body } }

/-- The grant of a waiting request (R160). -/
def grantRequest (l : Lane) (f : Frame) (s : State) : State :=
  let s := s.mapArbiter fun a => { a with pointer := l }
  let kind := kindOfCode f.kind
  if s.laneLost l ∧ kind.all takenWhileLost = false then s.mapLane l (LaneUnit.refuseFrame f .laneRecovering)
  else if kind = some .ping then answerPing l f s
  else (s.mapLane l fun u => { u with request := .withOwner f }).mapArbiter fun a => { a with intake := some l }

/-- LANE_GRANT: the arbiter's next grant. -/
def execLaneGrant (s : State) : Answer :=
  event (fun s =>
    match s.nextGrant with
    | some (l, f) => grantRequest l f s
    | none => s) s

/-- PING: the arbiter's next grant, when it is this lane's PING; the Lane Unit answers it in that event. -/
def execPing (l : Lane) (s : State) : Answer :=
  event (fun s =>
    match s.nextGrant with
    | some (l', f) => if l' = l ∧ kindOfCode f.kind = some .ping then grantRequest l f s else s
    | none => s) s

/-! ## The silence timer (R162, R163) -/

/-- SILENCE_TIMER_EXPIRY: the tick count has reached the expiry tick of an ACTIVE lane's silence timer. -/
def execSilenceTimerExpiry (l : Lane) (s : State) : Answer :=
  event (fun s =>
    let u := s.lanes[l]
    if u.silence.isDue ∧ u.state = .active then
      let s := s.mapLane l fun u => { u with state := .lost, silence := .stopped, noticeAwaited := true }
      raiseFlag .laneLost (s.mapEngine fun e => { e with lostLanes := e.lostLanes ++ [l] })
    else s) s

/-! ## SET_LANE (R149, R150) -/

/-- A change to OFF at the Lane Unit: what is being sent goes out whole; a BUSY answer not yet started is dropped
(R150, R153). -/
def LaneUnit.goOff (u : LaneUnit) : LaneUnit :=
  let u := { u with state := .idle, silence := .stopped, receiver := .closed }
  if u.tx.head? = some .busy then u else { u with busy := none, tx := u.tx.filter fun x => x ≠ .busy }

/-- The named lane's unit with its new settings, and the effect of the change (R150). -/
def LaneUnit.withSettings (now : Tick) (c : LaneSettings) (u : LaneUnit) : LaneUnit :=
  let v := { u with settings := c }
  if c.role = u.settings.role then
    if c.silenceLimit ≠ u.settings.silenceLimit ∧ u.state = .active then { v with silence := startSilence now c } else v
  else match c.role with
    | .off => v.goOff
    | .till =>
      if u.settings.role = .off then { v with state := .idle, receiver := .discarding }
      else if u.state = .active then { v with silence := startSilence now c } else v
    | .office =>
      if u.settings.role = .off then { v with state := .idle, receiver := .discarding }
      else { v with silence := .stopped, state := if u.state = .lost then .active else u.state }

/-- A lane's notices after its role becomes OFF (R150). -/
def NoticeLane.emptied (q : NoticeLane) : NoticeLane := { q with queue := [], lost := false, attention := false }

/-- After the change, at least one lane is in role OFFICE (R149). -/
def State.officeRemains (s : State) (named : Lane) (r : Role) : Bool :=
  (List.finRange 8).any fun (l : Lane) => (if l = named then r else s.role l) = .office

/-- The change of role is clear of holds and requests (R149). -/
def State.roleChangeClear (s : State) (l named : Lane) : Bool :=
  s.engine.laneHolds[named] = [] && (l = named || s.lanes[named].request = .empty)

/-- An accepted SET_LANE (R150). -/
def writeLane (l named : Lane) (c : LaneSettings) (s : State) : State :=
  let s := s.mapLane named (LaneUnit.withSettings s.now c)
  let s := if c.role = .off then s.mapNoticeLane named NoticeLane.emptied else s
  fillReply l .ok (beBytes 1 named.val ++ laneBytes c) s

def engineSetLane (l : Lane) (named role holdLifetime silenceLimit holdLimit : Nat) (s : State) : State :=
  match laneOfCode named, laneSettingsOf role holdLifetime silenceLimit holdLimit with
  | some n, some c =>
    if !s.officeRemains n c.role then refuse l .lastOffice s
    else if c.role ≠ s.role n ∧ s.roleChangeClear l n = false then refuse l .inUse s
    else writeLane l n c s
  | _, _ => refuse l .badValue s

def execSetLane (l : Lane) (named role holdLifetime silenceLimit holdLimit : Nat) (s : State) : Answer :=
  lockedRequest (.setLane l named role holdLifetime silenceLimit holdLimit) l
    (engineSetLane l named role holdLifetime silenceLimit holdLimit) s

end Sys2Proof.Machine
end

