-- ==== Sys2Proof/Machine/Notices.lean ====
section
/-! DEFINITION. Notices and event flags (08_notices_and_event_flags.md): POLL_NOTICE, SET_ROUTE, CLEAR_EVENTS,
READ_EVENTS. -/

namespace Sys2Proof.Machine

/-! ## POLL_NOTICE (R172, R173) -/

/-- The bytes of a notice in a POLL_NOTICE reply: kind, handle, card number, count, event class, tick; a field the kind
does not use is 0 (R200, R201). -/
def noticeBytes : Option Notice → List Byte
  | none => beBytes 1 0 ++ beBytes 2 0 ++ beBytes 3 0 ++ beBytes 1 0 ++ beBytes 1 0 ++ beBytes 4 0
  | some (.holdExpired h c t) => beBytes 1 1 ++ beBytes 2 h ++ beBytes 3 c ++ beBytes 1 0 ++ beBytes 1 0 ++ beBytes 4 t.toNat
  | some (.holdDrained h c t) => beBytes 1 2 ++ beBytes 2 h ++ beBytes 3 c ++ beBytes 1 0 ++ beBytes 1 0 ++ beBytes 4 t.toNat
  | some (.holdEnded h c t) => beBytes 1 3 ++ beBytes 2 h ++ beBytes 3 c ++ beBytes 1 0 ++ beBytes 1 0 ++ beBytes 4 t.toNat
  | some (.laneLost n t) => beBytes 1 4 ++ beBytes 2 0 ++ beBytes 3 0 ++ beBytes 1 n ++ beBytes 1 0 ++ beBytes 4 t.toNat
  | some (.event c t) =>
    beBytes 1 5 ++ beBytes 2 0 ++ beBytes 3 0 ++ beBytes 1 0 ++ beBytes 1 (classIndex c).val ++ beBytes 4 t.toNat

/-- The body of a POLL_NOTICE reply, from the lane's queue and mark before the event. -/
def pollBody (q : NoticeLane) : List Byte :=
  noticeBytes q.queue.head? ++ beBytes 1 q.queue.tail.length ++ beBytes 1 (boolCode q.lost)

/-- A lane's queue, mark and attention output after POLL_NOTICE (R172). -/
def NoticeLane.polled (q : NoticeLane) : NoticeLane :=
  { queue := q.queue.tail, lost := false, attention := !q.queue.tail.isEmpty }

/-- The last LANE_LOST notice of the queue stands at its head (R173). -/
def NoticeLane.removesLastLoss (q : NoticeLane) : Bool :=
  match q.queue with
  | n :: rest => n.isLaneLost && !rest.any Notice.isLaneLost
  | [] => false

/-- The Lane Unit takes the report that a LANE_LOST notice was removed (R161, R164). -/
def LaneUnit.lossCollected (now : Tick) (u : LaneUnit) : LaneUnit :=
  if u.state = .lost ∧ u.noticeAwaited = false then { u with state := .active, silence := startSilence now u.settings }
  else u

def noticesPoll (l : Lane) (s : State) : State :=
  let q := s.notices.lanes[l]
  let s := s.mapNoticeLane l NoticeLane.polled
  fillReply l .ok (pollBody q) (if q.removesLastLoss then s.mapLane l (LaneUnit.lossCollected s.now) else s)

def execPollNotice (l : Lane) (s : State) : Answer := request (.pollNotice l) (noticesPoll l) s

/-! ## SET_ROUTE (R177) -/

def noticesSetRoute (l : Lane) (eventClass route : Nat) (s : State) : State :=
  if h : eventClass < 10 then
    match routeOfCode route with
    | some r =>
      fillReply l .ok (beBytes 1 eventClass ++ beBytes 1 (routeField r))
        (s.mapNotices fun n => { n with routes := n.routes.set eventClass r })
    | none => refuse l .badValue s
  else refuse l .badValue s

def execSetRoute (l : Lane) (eventClass route : Nat) (s : State) : Answer :=
  lockedRequest (.setRoute l eventClass route) l (noticesSetRoute l eventClass route) s

/-! ## CLEAR_EVENTS and READ_EVENTS (R178, R179) -/

def noticesClearEvents (l : Lane) (classes : Nat) (s : State) : State :=
  if 1024 ≤ classes then refuse l .badValue s
  else
    let s := s.mapNotices fun n => { n with flags := n.flags &&& ~~~(BitVec.ofNat 10 classes) }
    fillReply l .ok (beBytes 2 s.notices.flags.toNat) s

def execClearEvents (l : Lane) (classes : Nat) (s : State) : Answer :=
  readyRequest (.clearEvents l classes) l (noticesClearEvents l classes) s

def execReadEvents (l : Lane) (s : State) : Answer :=
  readyRequest (.readEvents l) l (fun s => fillReply l .ok (beBytes 2 s.notices.flags.toNat) s) s

end Sys2Proof.Machine
end

