-- ==== Sys2Proof/Machine/Office.lean ====
section
/-! DEFINITION. Office purse operations (04_office_purse_operations.md), and the durable and abandoned events of their
records. -/

namespace Sys2Proof.Machine

/-! ## The course of an office operation (R80, R81) -/

/-- Gate checks 1 and 2 of R80, then the request's own. -/
def officeRequest (c : Instr) (l : Lane) (own : State → State) (s : State) : Answer :=
  readyRequest c l (fun s => if s.period.state = .closeWrite then refuse l .periodClosing s else own s) s

/-- Check 4 of R80, then acceptance with the request's reservation and record (R81). -/
def acceptOffice (l : Lane) (body : State → RecordBody) (reserve : State → State) (s : State) : State :=
  if s.storeOk then engineQueues l (body s) (.request l) (reserve s) else refuse l .storeFault s

/-- Lookup, refresh and the close-queued check of the requests on a card (R80, R84). -/
def onOpenCard (l : Lane) (card : Nat) (own : Nat → State → State) (s : State) : State :=
  match lookup s.engine card with
  | none => refuse l .noCard s
  | some slot =>
    let s := refresh slot s
    if (s.engine.card slot).closeQueued then refuse l .pendingRecord s else own slot s

/-- Change the fields of the card purse at a slot that a request reserves. -/
def reserveOn (slot : Nat) (f : CardPurse → CardPurse) (s : State) : State := s.mapEngine fun e => e.mapCard slot f

/-- The body of a record that names one card purse, its after-state formed by its own effect on the purse as every
earlier queued record will leave it (R81). -/
def cardBody (slot : Nat) (make : CardAfter → RecordBody) (s : State) : RecordBody :=
  make ((make (s.cardAhead slot)).cardEffect (s.cardAhead slot))

/-! ## OPEN_PURSE (R82) -/

/-- The after-state of an OPEN record (R82). -/
def openAfter (card : Nat) (s : State) : CardAfter :=
  { state := .opened, cardNumber := card, cashBalance := 0, allowanceRemaining := grantOf s.engine.ranges card,
    allowancePeriod := s.period.number, spent := 0 }

def engineOpenPurse (l : Lane) (card : Nat) (s : State) : State :=
  match slotOf s.engine.ranges card with
  | none => refuse l .noCard s
  | some slot =>
    if (s.engine.card slot).state ≠ .free then refuse l .alreadyOpen s
    else if (s.engine.card slot).pendingRecords ≠ 0 then refuse l .pendingRecord s
    else acceptOffice l (fun s => .change .openPurse slot (openAfter card s))
      (reserveOn slot fun p => { p with cardNumber := card }) s

def execOpenPurse (l : Lane) (card : Nat) (s : State) : Answer :=
  officeRequest (.openPurse l card) l (engineOpenPurse l card) s

/-! ## CLOSE_PURSE (R85) -/

def engineClosePurse (l : Lane) (card : Nat) (s : State) : State :=
  onOpenCard l card (fun slot s =>
    let p := s.engine.card slot
    if p.holdList ≠ [] then fillReply l .holdsPresent (beBytes 1 p.holdList.length) s
    else if p.cashBalance ≠ 0 ∨ p.cashOutgoing ≠ 0 then refuse l .notEmpty s
    else if p.pendingRecords ≠ 0 then refuse l .pendingRecord s
    else acceptOffice l (cardBody slot fun c => .change .closePurse slot c)
      (reserveOn slot fun p => { p with closeQueued := true }) s) s

def execClosePurse (l : Lane) (card : Nat) (s : State) : Answer :=
  officeRequest (.closePurse l card) l (engineClosePurse l card) s

/-! ## BLOCK and UNBLOCK (R87) -/

/-- BLOCK or UNBLOCK, from the state the request needs. -/
def engineChangeState (l : Lane) (card : Nat) (needed : PurseState) (kind : StateKind) (s : State) : State :=
  onOpenCard l card (fun slot s =>
    if (s.engine.card slot).state ≠ needed then refuse l .noChange s
    else acceptOffice l (cardBody slot fun c => .change kind slot c) id s) s

def execBlock (l : Lane) (card : Nat) (s : State) : Answer :=
  officeRequest (.block l card) l (engineChangeState l card .opened .block) s

def execUnblock (l : Lane) (card : Nat) (s : State) : Answer :=
  officeRequest (.unblock l card) l (engineChangeState l card .blocked .unblock) s

/-! ## TOP_UP (R89) -/

/-- The room a TOP_UP refused CEILING is told of (R89). -/
def topUpRoom (slot : Nat) (s : State) : Nat :=
  let p := s.engine.card slot
  min (s.config.ceiling - (p.cashBalance + p.topUpPending)) (2000000 - (s.cardAhead slot).cashBalance)

def engineTopUp (l : Lane) (card amount : Nat) (s : State) : State :=
  if !cashAmountOk amount then refuse l .badAmount s
  else onOpenCard l card (fun slot s =>
    let p := s.engine.card slot
    if s.config.ceiling < p.cashBalance + p.topUpPending + amount ∨
        2000000 < (s.cardAhead slot).cashBalance + amount then
      fillReply l .ceiling (beBytes 3 (topUpRoom slot s)) s
    else acceptOffice l (cardBody slot fun c => .topUp slot c amount)
      (reserveOn slot fun p => { p with topUpPending := p.topUpPending + amount }) s) s

def execTopUp (l : Lane) (card amount : Nat) (s : State) : Answer :=
  officeRequest (.topUp l card amount) l (engineTopUp l card amount) s

/-! ## WITHDRAW (R91) -/

def engineWithdraw (l : Lane) (card amount : Nat) (s : State) : State :=
  if !cashAmountOk amount then refuse l .badAmount s
  else onOpenCard l card (fun slot s =>
    let p := s.engine.card slot
    if p.cashAvailable < amount then fillReply l .insufficient (beBytes 3 p.cashAvailable) s
    else acceptOffice l (cardBody slot fun c => .withdraw slot c amount)
      (reserveOn slot fun p => { p with cashOutgoing := p.cashOutgoing + amount }) s) s

def execWithdraw (l : Lane) (card amount : Nat) (s : State) : Answer :=
  officeRequest (.withdraw l card amount) l (engineWithdraw l card amount) s

/-! ## FUND_SPONSOR (R93) -/

def engineFundSponsor (l : Lane) (sponsor amount : Nat) (s : State) : State :=
  if s.engine.sponsorCount ≤ sponsor then refuse l .badValue s
  else if !fundAmountOk amount then refuse l .badAmount s
  else if 100000000 < s.sponsorAhead sponsor + amount then
    fillReply l .ceiling (beBytes 4 (100000000 - s.sponsorAhead sponsor)) s
  else acceptOffice l (fun s => .fund { sponsor := sponsor, balance := s.sponsorAhead sponsor + amount } amount) id s

def execFundSponsor (l : Lane) (sponsor amount : Nat) (s : State) : Answer :=
  officeRequest (.fundSponsor l sponsor amount) l (engineFundSponsor l sponsor amount) s

/-! ## OFFICE_RECORD_DURABLE and OFFICE_RECORD_ABANDONED (R81, R83, R86, R88, R90, R92, R94) -/

/-- The record is of a kind an office purse operation queues. -/
def RecordBody.isOffice : RecordBody → Bool
  | .topUp .. | .withdraw .. | .change .. | .fund .. => true
  | .capture .. | .reversal .. | .periodClose .. => false

/-- The reservation of a record falls away (R81). -/
def CardPurse.unreserve (b : RecordBody) (p : CardPurse) : CardPurse :=
  match b with
  | .topUp _ _ amount => { p with topUpPending := p.topUpPending - amount }
  | .withdraw _ _ amount => { p with cashOutgoing := p.cashOutgoing - amount }
  | .change .closePurse _ _ => { p with closeQueued := false }
  | .change .openPurse .. | .change .block .. | .change .unblock .. | .capture .. | .reversal .. | .fund ..
  | .periodClose .. => p

def unreserve (b : RecordBody) (s : State) : State := onNamed b (CardPurse.unreserve b) id s

/-- The closed mark of every ring entry of a slot whose purse closes (R86). -/
def markClosed (b : RecordBody) (s : State) : State :=
  match b with
  | .change .closePurse slot _ =>
    s.mapEngine fun e =>
      { e with ring := e.ring.map fun x => if x.cardSlot = slot then { x with closedMark := true } else x }
  | _ => s

/-- The body of the OK reply to an office operation, from the state before its effect, the refresh run, and after it
(R200). -/
def officeReply (r : Record) (before after : State) : List Byte :=
  beBytes 4 r.sequence ++
    match r.body with
    | .change .openPurse slot c => beBytes 2 slot ++ beBytes 2 c.allowanceRemaining
    | .change .closePurse slot _ => beBytes 2 slot ++ beBytes 2 (before.engine.card slot).allowanceRemaining
    | .change .block slot _ | .change .unblock slot _ => beBytes 1 (purseCode (after.engine.card slot).state)
    | .topUp slot _ _ | .withdraw slot _ _ => beBytes 3 (after.engine.card slot).cashBalance
    | .fund sp _ => beBytes 4 (after.engine.sponsor sp.sponsor).balance
    | .capture .. | .reversal .. | .periodClose .. => []

/-- The engine takes the durable event of an office operation's record. -/
def takeOfficeDurable (r : Record) (l : Lane) (s : State) : State :=
  let before := refreshNamed r.body s
  let after := markClosed r.body (countRecord r (unreserve r.body (applyRecord r.body before)))
  fillReply l .ok (officeReply r before after) after

def execOfficeRecordDurable (sequence : Nat) (s : State) : Answer :=
  takeJournalEvent (fun
    | .durable r (.request l) =>
      if r.sequence = sequence ∧ r.body.isOffice then some (takeOfficeDurable r l) else none
    | _ => none) s

/-- The engine takes the abandoned event of an office operation's record. -/
def takeOfficeAbandoned (r : Record) (l : Lane) (s : State) : State :=
  refuse l .storeFault (unreserve r.body (forgetRecord r.body s))

def execOfficeRecordAbandoned (sequence : Nat) (s : State) : Answer :=
  takeJournalEvent (fun
    | .abandoned r (.request l) =>
      if r.sequence = sequence ∧ r.body.isOffice then some (takeOfficeAbandoned r l) else none
    | _ => none) s

end Sys2Proof.Machine
end

