-- ==== Sys2Proof/Machine/Periods.lean ====
section
/-! DEFINITION. Time and periods (05_periods_and_period_close.md): the tick, the clock of day, the schedule, the close
of a period and its totals. -/

namespace Sys2Proof.Machine

/-! ## TICK (R29, R32, R101, R105, R123, R162) -/

/-- The expiry events raised when the tick count takes the value `now` (R32). -/
def expiriesAt (now : Tick) (l : List DeadlineEntry) : List (Nat × Tick) :=
  (l.filter fun x => x.deadline = now).map fun x => (x.handle, x.deadline)

/-- The tick count rises by 1, and expiry events are raised. -/
def countTick (s : State) : State :=
  let now := s.now + 1
  { s with deadlines := { s.deadlines with tick := now },
           engine := { s.engine with expiries := s.engine.expiries ++ expiriesAt now s.deadlines.list } }

/-- Every timer running to the tick count falls due. -/
def reachTimers (s : State) : State :=
  { s with
    lanes := s.lanes.map fun u => { u with silence := u.silence.reach s.now },
    period := { s.period with drainTimer := s.period.drainTimer.reach s.now },
    journal := { s.journal with
      port := s.journal.port.map fun p =>
        { p with write := p.write.map fun w => { w with timer := w.timer.reach s.now } } } }

/-- The tenth tick since the clock was set or last due makes an advance due (R101). -/
def PeriodControl.countClock (p : PeriodControl) : PeriodControl :=
  match p.clock with
  | none => p
  | some _ =>
    if 9 ≤ p.clockTicks then { p with clockTicks := 0, clockDue := p.clockDue + 1 }
    else { p with clockTicks := p.clockTicks + 1 }

def execTick (s : State) : Answer := event (fun s => (reachTimers (countTick s)).mapPeriod PeriodControl.countClock) s

/-! ## Close start (R108) -/

/-- A close starts in OPEN (R108). -/
def startClose (origin : Origin) (s : State) : State :=
  let s := s.mapPeriod fun p =>
    { p with origin := some origin, state := .freezing, drainTimer := .running (ticksFrom s.now p.drainLimit) }
  if s.period.holdCount = 0 then completeDrain s else s

/-- The lowest-numbered enabled schedule entry that holds a time (R104). -/
def scheduleMatch (schedule : Vector ScheduleEntry 6) (time : Nat) : Option (Fin 6) :=
  (List.finRange 6).find? fun (k : Fin 6) => schedule[k].enabled && schedule[k].time = time

/-- The clock of day one second on (R101). -/
def nextSecond (c : Nat) : Nat := if c = 86399 then 0 else c + 1

/-- The clock advances, and a schedule time it reaches in OPEN starts a close (R104). -/
def advanceClock (c : Nat) (s : State) : State :=
  let s := s.mapPeriod fun p => { p with clock := some (nextSecond c), clockDue := p.clockDue - 1 }
  match scheduleMatch s.period.schedule (nextSecond c) with
  | some k => if s.period.state = .opened then startClose (.schedule k.val) s else s
  | none => s

/-- CLOCK_ADVANCE: an advance due and not yet taken. -/
def execClockAdvance (s : State) : Answer :=
  event (fun s =>
    match s.period.clock with
    | some c => if s.period.clockDue = 0 then s else advanceClock c s
    | none => s) s

/-! ## CLOSE_PERIOD (R107) -/

/-- The expiry tick of a timer, if it is running (R107). -/
def Timer.expiry : Timer → Option Tick
  | .stopped => none
  | .running t | .due t => some t

/-- The body of an OK reply to CLOSE_PERIOD, from the states before and after the close start (R107, R201). -/
def closeBody (before after : State) : List Byte :=
  let timer := after.period.drainTimer
  beBytes 4 before.period.number ++ beBytes 1 (periodCode after.period.state) ++ beBytes 2 before.period.holdCount ++
    beBytes 1 (boolCode timer.isOn) ++ beBytes 4 ((timer.expiry.map BitVec.toNat).getD 0)

def controlClosePeriod (l : Lane) (s : State) : State :=
  if s.period.state ≠ .opened then fillReply l .alreadyClosing (beBytes 1 (periodCode s.period.state)) s
  else
    let s' := startClose (.lane l) s
    fillReply l .ok (closeBody s s') s'

def execClosePeriod (l : Lane) (s : State) : Answer := readyRequest (.closePeriod l) l (controlClosePeriod l) s

/-! ## The forced drain (R114, R115) -/

/-- DRAIN_TIMER_EXPIRY: the tick count has reached the drain timer's expiry tick (R114). -/
def execDrainTimerExpiry (s : State) : Answer :=
  event (fun s =>
    if s.period.drainTimer.isDue then
      (s.mapPeriod fun p => { p with drainTimer := .stopped }).mapEngine fun e => { e with drains := e.drains + 1 }
    else s) s

/-- The holds of the drain walk: lane 0 to lane 7, each from oldest to newest. -/
def Engine.drainOrder (e : Engine) : List Nat := e.laneHolds.toList.flatten

/-- The walk acts on this hold: it is LIVE, or SETTLING with no end mark. -/
def Engine.drainActs (e : Engine) (handle : Nat) : Bool :=
  match e.resolve handle with
  | .live => true
  | .settling => (e.hold (handleSlot handle)).endMark = .unmarked
  | .stale | .ended => false

/-- One hold of the drain walk (R115). -/
def drainHold (handle : Nat) (s : State) : State :=
  let slot := handleSlot handle
  match s.engine.resolve handle with
  | .live => endHoldQuietly slot .drained s
  | .settling => markHold slot .drained (refresh (s.engine.hold slot).cardSlot s)
  | .stale | .ended => s

/-- The drain walk, its flag, and its one report (R115). -/
def drainWalk (s : State) : State :=
  let handles := s.engine.drainOrder
  let acts := handles.any s.engine.drainActs
  let s := handles.foldl (fun s h => drainHold h s) s
  reportHolds (if acts then raiseFlag .holdsDrained s else s)

/-- The oldest drain event on its way is that of the close that runs (R114, R116). A close stops its drain timer and sends
its one event together, so an event in FREEZING with the timer still on, or with another behind it, is left from an earlier
close, whose drain completed before the event was taken (log entry 37). -/
def State.drainsThisClose (s : State) : Bool :=
  s.period.state = .freezing && s.period.drainTimer = .stopped && s.engine.drains = 1

/-- DRAIN_EVENT: a drain event sent and not yet taken. One whose drain has completed finds no hold to act on (R115, R116, log
entries 12 and 37): it sets nothing, and the hold count is reported. -/
def execDrainEvent (s : State) : Answer :=
  event (fun s =>
    if s.engine.drains = 0 then s
    else
      let own := s.drainsThisClose
      let s := s.mapEngine fun e => { e with drains := e.drains - 1 }
      if own then drainWalk s else reportHolds s) s

/-! ## Ending the close (R117, R118) -/

/-- The engine's part of a durable close (R117): the totals move to the closed-period totals. -/
def closeTotals (s : State) : State :=
  (s.mapEngine fun e =>
    { e with closed := { totals := e.totals, partialMark := e.partialMark, period := s.period.number },
             totals := Totals.zero, partialMark := false }).mapPeriod fun p => { p with closeEnd := some .durable }

/-- The engine takes the oldest journal event when it is that of a PERIOD_CLOSE record of this sequence number. -/
def takeCloseEvent (wanted : JournalEvent → Option Record) (sequence : Nat) (act : State → State) (s : State) :
    Answer :=
  event (fun s =>
    match s.engine.journalEvents with
    | x :: rest =>
      match wanted x with
      | some r => if r.sequence = sequence then act (s.mapEngine fun e => { e with journalEvents := rest }) else s
      | none => s
    | [] => s) s

def execPeriodCloseDurable (sequence : Nat) (s : State) : Answer :=
  takeCloseEvent (fun | .durable r .periodControl => some r | _ => none) sequence closeTotals s

def execPeriodCloseAbandoned (sequence : Nat) (s : State) : Answer :=
  takeCloseEvent (fun | .abandoned r .periodControl => some r | _ => none) sequence
    (fun s => s.mapPeriod fun p => { p with closeEnd := some .abandoned }) s

/-- Period Control takes a durable close (R117). -/
def advancePeriod (s : State) : State :=
  raiseFlag .periodClosed (s.mapPeriod fun p =>
    { p with number := nextPeriod p.number, state := .opened, origin := none, closeEnd := none })

def execPeriodAdvance (s : State) : Answer :=
  event (fun s => if s.period.closeEnd = some .durable then advancePeriod s else s) s

def execCloseFailed (s : State) : Answer :=
  event (fun s =>
    if s.period.closeEnd = some .abandoned then closeFails (s.mapPeriod fun p => { p with closeEnd := none }) else s) s

/-! ## SET_CLOCK, SET_SCHEDULE, SET_DRAIN_LIMIT (R102, R103, R106) -/

def controlSetClock (l : Lane) (seconds : Nat) (s : State) : State :=
  if 86399 < seconds then refuse l .badValue s
  else fillReply l .ok (beBytes 3 seconds)
    (s.mapPeriod fun p => { p with clock := some seconds, clockTicks := 0, clockDue := 0 })

def execSetClock (l : Lane) (seconds : Nat) (s : State) : Answer :=
  readyRequest (.setClock l seconds) l (controlSetClock l seconds) s

def controlSetSchedule (l : Lane) (entry time enable : Nat) (s : State) : State :=
  if h : entry < 6 then
    match scheduleEntryOf time enable with
    | some x =>
      fillReply l .ok (beBytes 1 entry ++ scheduleBytes x)
        (s.mapPeriod fun p => { p with schedule := p.schedule.set entry x })
    | none => refuse l .badValue s
  else refuse l .badValue s

def execSetSchedule (l : Lane) (entry time enable : Nat) (s : State) : Answer :=
  lockedRequest (.setSchedule l entry time enable) l (controlSetSchedule l entry time enable) s

def controlSetDrainLimit (l : Lane) (seconds : Nat) (s : State) : State :=
  if seconds < 10 ∨ 900 < seconds then refuse l .badValue s
  else fillReply l .ok (beBytes 2 seconds) (s.mapPeriod fun p => { p with drainLimit := seconds })

def execSetDrainLimit (l : Lane) (seconds : Nat) (s : State) : Answer :=
  lockedRequest (.setDrainLimit l seconds) l (controlSetDrainLimit l seconds) s

/-! ## READ_TOTALS (R121) -/

/-- Parts 0 and 2 of READ_TOTALS (R200). -/
def totalsBody (number : Nat) (state : PeriodState) (mark : Bool) (t : Totals) : List Byte :=
  beBytes 4 number ++ beBytes 1 (periodCode state) ++ beBytes 1 (boolCode mark) ++ beBytes 4 t.captureCount ++
    beBytes 4 t.capturedCash ++ beBytes 4 t.capturedAllowance ++ beBytes 4 t.reversedCash ++
    beBytes 4 t.reversedAllowance ++ beBytes 4 t.topUps ++ beBytes 4 t.withdrawals ++ beBytes 4 t.funding

/-- Parts 1 and 3 of READ_TOTALS (R200). -/
def laneTotalsBody (number : Nat) (state : PeriodState) (t : Totals) : List Byte :=
  beBytes 4 number ++ beBytes 1 (periodCode state) ++ t.lanes.toList.flatMap (beBytes 4)

def engineReadTotals (l : Lane) (part : Nat) (s : State) : State :=
  let e := s.engine
  let n := s.period.number
  let st := s.period.state
  match part with
  | 0 => fillReply l .ok (totalsBody n st e.partialMark e.totals) s
  | 1 => fillReply l .ok (laneTotalsBody n st e.totals) s
  | 2 => fillReply l .ok (totalsBody e.closed.period st e.closed.partialMark e.closed.totals) s
  | 3 => fillReply l .ok (laneTotalsBody e.closed.period st e.closed.totals) s
  | _ => refuse l .badValue s

def execReadTotals (l : Lane) (part : Nat) (s : State) : Answer :=
  readyRequest (.readTotals l part) l (engineReadTotals l part) s

end Sys2Proof.Machine
end

