-- ==== Sys2Proof/Machine/PurseTable.lean ====
section
/-! DEFINITION. The purse table and the range map (01_purse_table_and_card_ranges.md): BALANCE, READ_PURSE, SET_RANGE,
SET_SPONSOR_COUNT. -/

namespace Sys2Proof.Machine

/-! ## BALANCE (R21) -/

/-- The body of a BALANCE reply (R200). -/
def balanceBody (p : CardPurse) : List Byte :=
  beBytes 1 (purseCode p.state) ++ beBytes 3 p.cashBalance ++ beBytes 3 p.cashAvailable ++
    beBytes 2 p.allowanceAvailable ++ beBytes 4 p.spent

def engineBalance (l : Lane) (card : Nat) (s : State) : State :=
  match lookup s.engine card with
  | none => refuse l .noCard s
  | some slot =>
    let s := refresh slot s
    fillReply l .ok (balanceBody (s.engine.card slot)) s

def execBalance (l : Lane) (card : Nat) (s : State) : Answer :=
  readyRequest (.balance l card) l (engineBalance l card) s

/-! ## READ_PURSE (R95) -/

/-- The hold list of a purse in a READ_PURSE reply: the count, and four handles, 0 after the last (R200 note 3). -/
def handleBytes (handles : List Nat) : List Byte :=
  beBytes 1 handles.length ++ ((handles ++ [0, 0, 0, 0]).take 4).flatMap (beBytes 2)

/-- The body of a READ_PURSE reply for a card purse. -/
def cardPurseBody (p : CardPurse) : List Byte :=
  beBytes 1 1 ++ beBytes 1 (purseCode p.state) ++ beBytes 3 p.cardNumber ++ beBytes 3 p.cashBalance ++
    beBytes 3 p.cashHeld ++ beBytes 3 p.cashOutgoing ++ beBytes 3 p.topUpPending ++ beBytes 2 p.allowanceRemaining ++
    beBytes 2 p.allowanceHeld ++ beBytes 4 p.allowancePeriod ++ beBytes 4 p.spent ++ handleBytes p.holdList ++
    beBytes 1 p.pendingRecords ++ beBytes 1 (boolCode p.closeQueued)

/-- The body of a READ_PURSE reply for the sponsor purse of sponsor `n`. -/
def sponsorPurseBody (n : Nat) (p : SponsorPurse) : List Byte :=
  beBytes 1 2 ++ beBytes 1 n ++ beBytes 4 p.balance ++ beBytes 4 p.held ++ beBytes 1 p.pendingRecords

def engineReadPurse (l : Lane) (slot : Nat) (s : State) : State :=
  if 4095 < slot then refuse l .badValue s
  else if s.engine.isCardSlot slot then
    let s := refresh slot s
    fillReply l .ok (cardPurseBody (s.engine.card slot)) s
  else fillReply l .ok (sponsorPurseBody (4095 - slot) (s.engine.sponsor (4095 - slot))) s

def execReadPurse (l : Lane) (slot : Nat) (s : State) : Answer :=
  readyRequest (.readPurse l slot) l (engineReadPurse l slot) s

/-! ## SET_RANGE (R14 to R17) -/

/-- Entry number and entry of a SET_RANGE whose values are in range (R14). -/
def rangeRequest (entry enabled firstCard slotEnd grant sponsor limit count : Nat) : Option (Fin 8 × RangeEntry) :=
  match laneOfCode entry, rangeEntryOf (boolOfCode enabled) firstCard slotEnd grant (sponsorOfCode sponsor) limit with
  | some k, some e => if e.sponsor.all (fun n => n < count) then some (k, e) else none
  | _, _ => none

/-- The written entry maps cards as the old one did (R16). -/
def RangeEntry.mapsAs (x y : RangeEntry) : Bool :=
  x.enabled = y.enabled && x.firstCard = y.firstCard && x.slotEnd = y.slotEnd

/-- A card purse the scan of R16 examines. -/
def CardPurse.examined (p : CardPurse) : Bool := p.state ≠ .free || p.pendingRecords ≠ 0

/-- Every purse the scan of R16 examines maps to its own slot under `m`. -/
def Engine.pursesMap (e : Engine) (m : Vector RangeEntry 8) : Bool :=
  e.cards.all fun (slot, p) => !(e.isCardSlot slot && p.examined) || slotOf m p.cardNumber = some slot

/-- The checks of R15 and R16 on the map as it would stand, and the change. -/
def writeRange (l : Lane) (k : Fin 8) (x : RangeEntry) (s : State) : State :=
  let m := s.engine.ranges.set k x
  if !lastCardOk m k then refuse l .badValue s
  else if !slotEndsInOrder m then refuse l .badOrder s
  else if !clearOfSponsors m s.engine.sponsorCount then refuse l .overlap s
  else if !cardsApart m then refuse l .cardsOverlap s
  else if !(x.mapsAs s.engine.ranges[k] || s.engine.pursesMap m) then refuse l .inUse s
  else
    let (start, size) := if x.enabled then (spanStart m k, spanSize m k) else (0, 0)
    fillReply l .ok (beBytes 1 k.val ++ beBytes 2 start ++ beBytes 2 size) (s.mapEngine fun e => { e with ranges := m })

def engineSetRange (l : Lane) (entry enabled firstCard slotEnd grant sponsor limit : Nat) (s : State) : State :=
  match rangeRequest entry enabled firstCard slotEnd grant sponsor limit s.engine.sponsorCount with
  | none => refuse l .badValue s
  | some (k, x) => writeRange l k x s

def execSetRange (l : Lane) (entry enabled firstCard slotEnd grant sponsor limit : Nat) (s : State) : Answer :=
  lockedRequest (.setRange l entry enabled firstCard slotEnd grant sponsor limit) l
    (engineSetRange l entry enabled firstCard slotEnd grant sponsor limit) s

/-! ## SET_SPONSOR_COUNT (R18 to R20) -/

/-- Sponsor `n` is in use (R18). -/
def Engine.sponsorInUse (e : Engine) (n : Nat) : Bool :=
  let p := e.sponsor n
  0 < p.balance || 0 < p.held || 0 < p.pendingRecords || mapNamesSponsor e.ranges n ||
    e.holds.any fun (_, h) => h.state ≠ .free && h.sponsor = some n

/-- The sponsor count changes: the slots that change region hold FREE card purses or sponsor purses at balance 0 (R19, R20), each
FREE one with the card number it last held (R2). -/
def Engine.withSponsorCount (count : Nat) (e : Engine) : Engine :=
  let lo := min count e.sponsorCount
  let hi := max count e.sponsorCount
  { e.emptyCards (4096 - hi) (4096 - lo) with
    sponsorCount := count, sponsors := Table.clearRange lo hi e.sponsors }

def engineSetSponsorCount (l : Lane) (count : Nat) (s : State) : State :=
  if 64 < count then refuse l .badValue s
  else if !clearOfSponsors s.engine.ranges count then refuse l .overlap s
  else if (List.range s.engine.sponsorCount).any (fun n => count ≤ n && s.engine.sponsorInUse n) then
    refuse l .inUse s
  else fillReply l .ok (beBytes 1 count) (s.mapEngine (Engine.withSponsorCount count))

def execSetSponsorCount (l : Lane) (count : Nat) (s : State) : Answer :=
  lockedRequest (.setSponsorCount l count) l (engineSetSponsorCount l count) s

end Sys2Proof.Machine
end

