-- ==== Sys2Proof/Machine/Restore.lean ====
section
/-! DEFINITION. Resets, the restore and the format (09_configuration_start_up_and_restore.md). -/

namespace Sys2Proof.Machine

/-! ## Resets (R187, R207) -/

/-- What a write under way leaves in the store when a reset cuts it short. -/
def cutWrite (cut : WriteEffect) (s : State) : Memory :=
  match s.journal.port with
  | some { op, write := some w } => unfinishedEffect op cut w s.memory
  | _ => s.memory

/-- POWER_ON_RESET: every block at its values after a reset, the config lock clear (R182, R187). A RESET_N that is held low
stays so, and holds the part until PIN_RESET (R207, log entry 19). -/
def execPowerOnReset (cut : WriteEffect) (s : State) : Answer :=
  .next ((State.afterReset false (cutWrite cut s) s.pending).mapRestore fun r =>
    { r with inReset := s.restore.inReset })

/-- PIN_RESET: as a power-on reset, the config lock kept (R182, R187). -/
def execPinReset (cut : WriteEffect) (s : State) : Answer :=
  .next (State.afterReset s.config.lock (cutWrite cut s) s.pending)

/-- The transmit line rests high from the start of a reset, a frame being sent cut short (R167, R207). -/
def LaneUnit.silenced (u : LaneUnit) : LaneUnit := { u with tx := [] }

/-- RESET_N_LOW: a pin reset starts (R207): attention outputs low, transmit lines high, the write under way cut. -/
def execResetNLow (cut : WriteEffect) (s : State) : Answer :=
  .next
    { s with
      memory := cutWrite cut s, journal := { s.journal with port := none },
      lanes := s.lanes.map LaneUnit.silenced,
      notices := { s.notices with lanes := s.notices.lanes.map fun q => { q with attention := false } },
      restore := { s.restore with inReset := true } }

/-! ## First step: the header (R188) -/

/-- A Lane Unit takes its loaded role and settings and, unless OFF, opens its receive line (R167). -/
def LaneUnit.opened (c : LaneSettings) (u : LaneUnit) : LaneUnit :=
  { u with settings := c, receiver := if c.role = .off then .closed else .discarding }

/-- The loaded configuration takes effect in every block that holds a part of it (R188). -/
def loadConfig (c : WorkingConfig) (source : ConfigSource) (s : State) : State :=
  { s with
    lanes := Vector.ofFn fun (i : Fin 8) => s.lanes[i].opened c.lanes[i],
    engine := { s.engine with sponsorCount := c.sponsorCount, ranges := c.ranges },
    period := { s.period with schedule := c.schedule, drainLimit := c.drainLimit },
    notices := { s.notices with routes := c.routes },
    config := { s.config with ceiling := c.ceiling, lowMark := c.lowMark, source := source } }

/-- The restore stops short of READY with a finding (R189). -/
def restoreStops (part : PartState) (finding : Finding) (s : State) : State :=
  s.mapRestore fun r => { r with part := part, finding := finding, stage := .idle }

/-- The restore goes on to the ring scan with the header's ring base and period. -/
def toRingScan (ringBase formatPeriod : Nat) (defaulted : Bool) (s : State) : State :=
  s.mapRestore fun r =>
    { r with stage := .ringScan defaulted, ringBase := ringBase, formatPeriod := formatPeriod }

/-- The header as found decides (R188). -/
def loadHeader (found : HeaderFound) (s : State) : State :=
  match found with
  | .noMark => restoreStops .unformatted .noMark (loadConfig WorkingConfig.default .defaults s)
  | .bad => restoreStops .restoreFailed .badHeader (loadConfig WorkingConfig.default .defaults s)
  | .good base period none =>
    toRingScan base period true (raiseFlag .configDefaulted (loadConfig WorkingConfig.default .defaults s))
  | .good base period (some c) => toRingScan base period false (loadConfig c .header s)

def execRestoreHeaderLoaded (answer : StoreAnswer) (s : State) : Answer :=
  event (fun s =>
    if s.restore.part = .restoring ∧ s.restore.stage = .header then
      loadHeader (judgeHeader (readAnswer answer s.memory 0 430)) s
    else s) s

/-! ## Second step: the ring (R191) -/

/-- The record each ring slot holds, or none where the unit is not valid. -/
def ringRecords (answer : StoreAnswer) (m : Memory) : List (Option Record) :=
  (List.range 8192).map fun k => readRecord k (readAnswer answer m (ringAddress k) 32)

/-- N: the highest sequence number among the valid units, or 0 (R191). -/
def newestSequence (units : List (Option Record)) : Nat :=
  (units.filterMap id).foldl (fun n r => max n r.sequence) 0

/-- The slots in rising order of the expected sequence, from the slot following N, each with the sequence expected
(R191). -/
def expectedOrder (units : List (Option Record)) (n : Nat) : List (Option Record × Int) :=
  let k := (n + 1) % 8192
  (units.drop k ++ units.take k).zipIdx.map fun (u, i) => (u, (n : Int) - 8191 + i)

/-- A slot meets its requirement (R191): `first` is the slot following N. -/
def slotMeets (base : Nat) (first : Bool) (x : Option Record × Int) : Bool :=
  x.2 < (base : Int) || x.1.map (fun r => (r.sequence : Int)) = some x.2 || (first && x.1.isNone)

/-- The ring is consistent (R191). -/
def ringConsistent (base n : Nat) (slots : List (Option Record × Int)) : Bool :=
  !(0 < n && n < base) && (slots.take 1).all (slotMeets base true) && (slots.drop 1).all (slotMeets base false)

/-- The valid records of the slots examined, lowest sequence first. -/
def examinedRecords (base : Nat) (slots : List (Option Record × Int)) : List Record :=
  slots.filterMap fun x => if x.2 < (base : Int) then none else x.1

/-- The ring scan on the units read. -/
def scanRing (defaulted : Bool) (units : List (Option Record)) (s : State) : State :=
  let n := newestSequence units
  let slots := expectedOrder units n
  if ringConsistent s.restore.ringBase n slots then
    s.mapRestore fun r => { r with stage := .images defaulted n (examinedRecords r.ringBase slots) }
  else restoreStops .restoreFailed .ringInconsistent s

def execRestoreRingScan (answer : StoreAnswer) (s : State) : Answer :=
  event (fun s =>
    match s.restore.part, s.restore.stage with
    | .restoring, .ringScan defaulted => scanRing defaulted (ringRecords answer s.memory) s
    | _, _ => s) s

/-! ## Third step: the purses (R192) -/

def Image.sequence : Image → Nat
  | .card _ q => q
  | .sponsor _ q => q

/-- The image of slot `k` that a record carries: its card after-state, or its sponsor after-state (R192). -/
def Record.imageFor (r : Record) (k : Nat) : Option Image :=
  if r.body.cardSlot = some k then r.body.cardAfter.map fun c => .card c r.sequence
  else if r.body.sponsor = some (4095 - k) then r.body.sponsorAfter.map fun a => .sponsor a.balance r.sequence
  else none

/-- The newest record naming slot `k`, as the image it carries. -/
def newestFor (records : List Record) (k : Nat) : Option Image :=
  records.foldl (fun best r => (r.imageFor k).or best) none

/-- What a slot takes, and whether its image is rewritten (R192); none where the image is not valid and no record names
the slot. -/
def slotTakes (image record : Option Image) : Option (Image × Bool) :=
  match image, record with
  | some i, some r => if r.sequence ≤ i.sequence then some (i, false) else some (r, true)
  | none, some r => some (r, true)
  | some i, none => some (i, false)
  | none, none => none

/-- A purse slot of the restored table. -/
inductive Fitted where
  | card (p : CardPurse)
  | sponsor (balance : Nat)

/-- The purse state the restore gives slot `k` for a card purse taken with sequence number `q`: the state it carries, and
for the state code R203 does not list a free value (log entry 17). -/
def restoredState (k q : Nat) (state : PurseState) : PurseState :=
  if state = .unlisted then
    match Config.unlistedState k q with
    | 0 => .free
    | 1 => .opened
    | 2 => .blocked
  else state

/-- A purse taken fitted to the loaded configuration (R192), or none where it cannot sit there. The FREE purse a sponsor image of
balance 0 becomes below the sponsor region has card number 0 (log entry 8). -/
def fitPurse (e : Engine) (k : Nat) (taken : Image) : Option Fitted :=
  match taken with
  | .sponsor balance _ =>
    if e.isCardSlot k then (if balance = 0 then some (.card .free) else none) else some (.sponsor balance)
  | .card c q =>
    let state := restoredState k q c.state
    if e.isCardSlot k then
      if state = .free ∨ slotOf e.ranges c.cardNumber = some k then
        some (.card (CardPurse.free.withAfter { c with state := state }))
      else none
    else if state = .free then some (.sponsor 0)
    else none

/-- Put a fitted purse in the table. -/
def placePurse (k : Nat) (x : Fitted) (e : Engine) : Engine :=
  match x with
  | .card p => e.mapCard k fun _ => p
  | .sponsor balance => e.mapSponsor (4095 - k) fun _ => { SponsorPurse.zero with balance := balance }

/-- The purse table rebuilt slot by slot, with the images to rewrite in slot order, or the finding of the first slot
that fails (R192). -/
def rebuild (images : Nat → Option Image) (records : List Record) :
    List Nat → Engine → List (Nat × List Byte) → Except Finding (Engine × List (Nat × List Byte))
  | [], e, rewrites => .ok (e, rewrites.reverse)
  | k :: ks, e, rewrites =>
    match slotTakes (images k) (newestFor records k) with
    | none => .error .imageInvalid
    | some (taken, again) =>
      match fitPurse e k taken with
      | none => .error .purseMisplaced
      | some x =>
        rebuild images records ks (placePurse k x e) (if again then (k, imageUnit k taken) :: rewrites else rewrites)

/-! ## Fourth and fifth steps: period, totals, capture ring (R193, R194) -/

def Record.isPeriodClose (r : Record) : Bool :=
  match r.body with
  | .periodClose .. => true
  | _ => false

/-- The partial mark (R193). -/
def restoredPartial (base number : Nat) (records : List Record) : Bool :=
  match records.head? with
  | some oldest => decide (base < oldest.sequence) && decide (oldest.period = number) && !oldest.isPeriodClose
  | none => false

/-- The totals formed afresh from the records of a period (R193). -/
def restoredTotals (number : Nat) (records : List Record) : Totals :=
  (records.filter fun r => r.period = number).foldl Totals.add Totals.zero

/-- The ring entry of a CAPTURE record. -/
def Record.ringEntry (r : Record) : Option RingEntry :=
  match r.body with
  | .capture _ _ _ ap cp => some (captureEntry r r.period ap cp)
  | _ => none

/-- The mark one later record leaves on a ring entry: DONE of its reversal, the closed mark of its card's closing. -/
def RingEntry.meet (x : RingEntry) (r : Record) : RingEntry :=
  match r.body with
  | .reversal _ _ _ _ _ q _ => if x.receipt = q then { x with reversal := .done } else x
  | .change .closePurse slot _ =>
    if x.cardSlot = slot ∧ x.receipt < r.sequence then { x with closedMark := true } else x
  | _ => x

/-- The capture ring rebuilt (R194). -/
def restoredRing (records : List Record) : List RingEntry :=
  let entries := records.filterMap Record.ringEntry
  (entries.drop (entries.length - 256)).map fun x => records.foldl RingEntry.meet x

/-- The period number that holds after record N (R193). -/
def restoredPeriod (formatPeriod : Nat) (records : List Record) : Nat :=
  match records.getLast? with
  | some r => r.period
  | none => formatPeriod

/-- The last two steps of the restore: the part is READY. -/
def finishRestore (newest : Nat) (records : List Record) (s : State) : State :=
  let number := restoredPeriod s.restore.formatPeriod records
  let mark := restoredPartial s.restore.ringBase number records
  let s := s.mapPeriod fun p => { p with number := number, state := .opened }
  let s := s.mapEngine fun e =>
    { e with totals := restoredTotals number records, partialMark := mark, ring := restoredRing records }
  let s := if mark then raiseFlag .totalsPartial s else s
  let s := s.mapJournal fun j =>
    { j with lastDurable := newest, nextSeq := newest + 1, exhaustionDue := 4294967231 ≤ newest, port := none }
  s.mapRestore fun r => { r with part := .ready, finding := .none, stage := .idle }

/-- The next image rewrite, or the last steps when none is left (R192, R195). -/
def nextRewrite (newest : Nat) (records : List Record) (rewrites : List (Nat × List Byte)) (s : State) : State :=
  match rewrites with
  | (k, unit) :: rest =>
    startWrite .restoreImage (imageAddress k) unit
      (s.mapRestore fun r => { r with stage := .rewriting newest records rest })
  | [] => finishRestore newest records s

/-- The third step on the images read (R192). Every slot is judged and fitted before the first image is rewritten, so that where one
fails no image is (log entry 22). -/
def restoreImages (defaulted : Bool) (newest : Nat) (records : List Record) (images : Nat → Option Image)
    (s : State) : State :=
  match rebuild images records (List.range 4096) s.engine [] with
  | .ok (e, rewrites) => nextRewrite newest records rewrites { s with engine := e }
  | .error finding =>
    restoreStops .restoreFailed
      (if finding = .purseMisplaced ∧ defaulted then .pursesWithoutConfig else finding) s

def execRestoreImages (answer : StoreAnswer) (s : State) : Answer :=
  event (fun s =>
    match s.restore.part, s.restore.stage with
    | .restoring, .images defaulted newest records =>
      restoreImages defaulted newest records
        (fun k => readImage (readAnswer answer s.memory (imageAddress k) 32)) s
    | _, _ => s) s

/-- A rewrite has succeeded: the restore goes on. -/
def restoreContinues (s : State) : State :=
  match s.restore.stage with
  | .rewriting newest records rest => nextRewrite newest records rest s
  | _ => freePort s

/-- A rewrite has failed at its third attempt (R195). -/
def restoreWriteFails (s : State) : State := restoreStops .restoreFailed .storeWrite (freePort s)

/-! ## FORMAT_STORE (R196 to R198) -/

/-- FORMAT_STORE is accepted: FORMATTING, and the request waits (R189, R196). -/
def acceptFormat (l : Lane) (finding : Finding) (s : State) : State :=
  s.mapRestore fun r => { r with part := .formatting, finding := finding, stage := .idle, format := some l }

/-- In READY every READ_JOURNAL still waiting for the port is answered NOT_READY (R196). -/
def dropReads (s : State) : State :=
  fillAll (s.journal.reads.map ReadWait.lane) .notReady (s.mapJournal fun j => { j with reads := [] })

/-- FORMAT_STORE at the Restore Unit (R196). A journal is exhausted from its last record's durability on (R127), also while the store
is still OK: the format then waits until the exhaustion is taken (`grantPort`, log entry 14). -/
def restoreFormatStore (l : Lane) (s : State) : State :=
  match s.restore.part with
  | .restoring | .formatting => refuse l .notReady s
  | .unformatted | .restoreFailed => acceptFormat l s.restore.finding s
  | .ready =>
    if !s.journal.exhausted then refuse l .notPermitted s
    else if s.engine.openHolds ≠ 0 then refuse l .inUse s
    else if s.period.state ≠ .opened then refuse l .periodClosing s
    else acceptFormat l .none (dropReads s)

def execFormatStore (l : Lane) (s : State) : Answer := request (.formatStore l) (restoreFormatStore l) s

/-- The reply to the FORMAT_STORE that waits. -/
def answerFormat (r : Result) (body : List Byte) (s : State) : State :=
  let s' := freePort (s.mapRestore fun x => { x with format := none })
  match s.restore.format with
  | some l => fillReply l r body s'
  | none => s'

/-- A format write has failed at its third attempt (R197); the capture ring is empty in UNFORMATTED (R69). -/
def formatFails (s : State) : State :=
  answerFormat .storeFault []
    ((restoreStops .unformatted .storeWrite s).mapEngine fun e => { e with ring := [] })

/-- The final header write has succeeded: READY, in period 1, with an empty journal and every purse FREE (R120, R198), its card number
left as it was (R2). A durable or abandoned event handed on before and not yet taken is kept, though by R190 none arises in
FORMATTING: taken later, it acts on the formatted purse table (log entry 35). -/
def formatDone (s : State) : State :=
  answerFormat .ok (beBytes 4 1)
    { s with
      engine := { s.engine.emptyCards 0 4096 with
        sponsors := [], ring := [], totals := Totals.zero, partialMark := false,
        closed := { totals := Totals.zero, partialMark := false, period := 0 } },
      period := { s.period with number := 1, state := .opened, drainTimer := .stopped },
      journal := { s.journal with
        lastDurable := 0, nextSeq := 1, store := .ok, queue := [], stale := [], voidSlot := none,
        exhaustionDue := false },
      config := { s.config with source := .formatted },
      restore := { s.restore with part := .ready, finding := .none, ringBase := 1, formatPeriod := 1 } }

/-- The image a format writes into slot `k` (R197); its card number is 0 by the model's choice (log entry 8). -/
def formatImageUnit (k : Nat) : List Byte :=
  imageUnit k (.card { state := .free, cardNumber := 0, cashBalance := 0, allowanceRemaining := 0,
                       allowancePeriod := 0, spent := 0 } 0)

/-- The first write of a format: the header with the mark cleared (R197). -/
def startFormat (s : State) : State := startWrite .formatClear 0 (headerBytes clearedMark 1 1 s.workingConfig) s

/-- The void unit into ring slot `k`, then the images (R197). -/
def formatRing (k : Nat) (s : State) : State :=
  if k < 8192 then startWrite (.formatVoid k) (ringAddress k) voidUnit s
  else startWrite (.formatImage 0) (imageAddress 0) (formatImageUnit 0) s

/-- The FREE image into slot `k`, then the whole header (R197). -/
def formatImages (k : Nat) (s : State) : State :=
  if k < 4096 then startWrite (.formatImage k) (imageAddress k) (formatImageUnit k) s
  else startWrite .formatHeader 0 (headerBytes formatMark 1 1 s.workingConfig) s

end Sys2Proof.Machine
end

