-- ==== Sys2Proof/Machine/StorePort.lean ====
section
/-! DEFINITION. The store port (06_journal_and_store.md): what the arbiter grants, how a write's attempts end, and what
the operation that holds the port does next; the commands the port sends the store. -/

namespace Sys2Proof.Machine

/-! ## Images behind a record (R132, R133, R139) -/

/-- The slots whose images a record calls for: its card slot, then its sponsor's (R132). -/
def imageSlots (b : RecordBody) : List Nat :=
  b.cardSlot.toList ++ (b.sponsor.map fun n => 4095 - n).toList

/-- The image of slot `k` that goes behind record `r`, as its after-state gives it (R133). -/
def writeImage (r : Record) (k : Nat) (rest : List Nat) (s : State) : State :=
  startWrite (.imageWrites r k rest) (imageAddress k) (((r.imageFor k).map (imageUnit k)).getD []) s

/-- A durable record's work is done (R127, R132): its entry leaves the queue and the port falls free. -/
def endRecord (r : Record) (s : State) : State :=
  freePort (s.mapJournal fun j =>
    { j with queue := j.queue.filter fun q => q.record.sequence ≠ r.sequence,
             exhaustionDue := j.exhaustionDue || decide (4294967231 ≤ r.sequence) })

/-- The next image of a durable record, or its end. -/
def nextImage (r : Record) (slots : List Nat) (s : State) : State :=
  match slots with
  | k :: rest => writeImage r k rest s
  | [] => endRecord r s

/-- The image of a stale slot: the purse of its newest durable record, with the last durable sequence number (R139, log
entry 11). -/
def staleImageOf (k : Nat) (s : State) : Image :=
  if s.engine.isCardSlot k then
    .card (cardThrough s.untakenRecords k (s.engine.card k).after) s.journal.lastDurable
  else
    .sponsor (sponsorThrough s.untakenRecords (4095 - k) (s.engine.sponsor (4095 - k)).balance) s.journal.lastDurable

/-! ## STORE_PORT_GRANT (R130, R142) -/

/-- The lowest-numbered QUEUED entry becomes WRITING, and its record's write is issued (R130). -/
def grantRecord (q : QueueEntry) (s : State) : State :=
  startWrite (.recordWrite q.record) (ringAddress (ringSlot q.record.sequence)) (recordUnit q.record)
    (s.mapJournal fun j =>
      { j with queue := j.queue.map fun x =>
          if x.record.sequence = q.record.sequence then { x with writing := true } else x })

/-- The waiting save is granted: it writes the configuration as the blocks hold it now (R185). -/
def grantSave (lanes : List Lane) (s : State) : State :=
  let block := configBlock s.workingConfig
  startWrite (.saveBlock lanes (checkBytes block)) configAddress block (s.mapJournal fun j => { j with save := none })

/-- The oldest waiting journal read is granted the port. -/
def grantRead (w : ReadWait) (rest : List ReadWait) (s : State) : State :=
  holdPort (.journalRead w.lane w.sequence 0 w.voided) (s.mapJournal fun j => { j with reads := rest })

/-- The journal read that comes last in both columns of R142. -/
def grantWaitingRead (s : State) : State :=
  match s.journal.reads with
  | w :: rest => grantRead w rest s
  | [] => s

/-- The grant with the store OK (R142). An exhausted journal that has still to take its exhaustion is granted no write
(log entry 14). -/
def grantOk (s : State) : State :=
  if s.journal.exhaustionDue then grantWaitingRead s
  else match s.journal.stale with
    | k :: _ => startWrite (.staleImage k) (imageAddress k) (imageUnit k (staleImageOf k s)) s
    | [] =>
      match s.journal.queue with
      | q :: _ => grantRecord q s
      | [] =>
        match s.journal.save with
        | some lanes => grantSave lanes s
        | none => grantWaitingRead s

/-- The grant with the store in FAULT (R142). -/
def grantFault (s : State) : State :=
  match s.journal.retry with
  | some _ => holdPort .retryHeader s
  | none => grantWaitingRead s

/-- The grant of a port that has fallen free, by part state (R142, R197). A format waits for an exhaustion that has still to be taken
(log entry 14). -/
def grantPort (s : State) : State :=
  match s.restore.part with
  | .ready => if s.storeOk then grantOk s else grantFault s
  | .formatting => if s.journal.exhaustionDue then s else startFormat s
  | .restoring | .unformatted | .restoreFailed => s

/-- STORE_PORT_GRANT: the port is free and is granted to the first operation that waits. -/
def execStorePortGrant (s : State) : Answer :=
  event (fun s =>
    match s.journal.port with
    | none => grantPort s
    | some _ => s) s

/-! ## A write succeeds -/

/-- The owner that travels with a queued record. -/
def JournalUnit.ownerOf (j : JournalUnit) (r : Record) : Owner :=
  match j.queue.find? (fun q => q.record.sequence = r.sequence) with
  | some q => q.owner
  | none => .periodControl

/-- A record's write has succeeded: it is durable (R125, R130), the SYNCs it completes are answered, and its images
follow. -/
def recordDurable (r : Record) (s : State) : State :=
  let owner := s.journal.ownerOf r
  let s := s.mapJournal fun j => { j with lastDurable := r.sequence }
  let s := s.mapEngine fun e => { e with journalEvents := e.journalEvents ++ [.durable r owner] }
  nextImage r (imageSlots r.body) (answerSyncs s)

/-- The header check has been rewritten: the void unit follows, where a void slot is noted (R141). -/
def retryContinues (s : State) : State :=
  match s.journal.voidSlot with
  | some k => startWrite .retryVoid (ringAddress k) voidUnit s
  | none => retrySucceeds s

/-- The void unit is in its slot. -/
def retryVoided (s : State) : State :=
  retrySucceeds (match s.journal.voidSlot with
    | some k => markVoided k s
    | none => s)

/-- The two writes of a save have succeeded (R185). -/
def saveDone (lanes : List Lane) (s : State) : State :=
  freePort (fillAll lanes .ok (s.mapConfig fun c => { c with source := .header }))

/-- The operation that holds the port goes on after a write that succeeded. -/
def writeSucceeded (op : PortOp) (s : State) : State :=
  match op with
  | .recordWrite r => recordDurable r s
  | .imageWrites r _ rest => nextImage r rest s
  | .staleImage k => freePort (s.mapJournal fun j => { j with stale := j.stale.filter fun x => x ≠ k })
  | .saveBlock lanes check => startWrite (.saveCheck lanes) configCheckAddress check s
  | .saveCheck lanes => saveDone lanes s
  | .retryCheck => retryContinues s
  | .retryVoid => retryVoided s
  | .formatClear => formatRing 0 s
  | .formatVoid k => formatRing (k + 1) s
  | .formatImage k => formatImages (k + 1) s
  | .formatHeader => formatDone s
  | .restoreImage => restoreContinues s
  | .journalRead .. | .retryHeader => s

/-! ## A write fails -/

/-- The images a durable record will not have written go to the stale-image list (R135). -/
def addStale (slots : List Nat) (s : State) : State :=
  s.mapJournal fun j => { j with stale := slots.foldl (fun l k => insertSlot k l) j.stale }

/-- The operation that holds the port ends with a write that failed three times (R134, R135, R141, R195, R197). -/
def writeFailed (op : PortOp) (s : State) : State :=
  match op with
  | .recordWrite r => enterFault (some (ringSlot r.sequence)) (freePort s)
  | .imageWrites _ k rest => enterFault none (addStale (k :: rest) (freePort s))
  | .staleImage _ => enterFault none (freePort s)
  | .saveBlock lanes _ | .saveCheck lanes => fillAll lanes .storeFault (enterFault none (freePort s))
  | .retryCheck | .retryVoid => retryFails s
  | .formatClear | .formatVoid _ | .formatImage _ | .formatHeader => formatFails s
  | .restoreImage => restoreWriteFails s
  | .journalRead .. | .retryHeader => s

/-- An attempt has failed: the next attempt of the same write follows, up to three (R123). -/
def attemptFails (op : PortOp) (w : StoreWrite) (s : State) : State :=
  if w.attempt < 3 then
    s.mapJournal fun j =>
      { j with port := some { op := op, write := some { w with attempt := w.attempt + 1,
                                                               timer := .running (s.now + 2) } } }
  else writeFailed op s

/-- The tick count has passed the tick at which a write's status was due at the latest (R123). -/
def StoreWrite.late (now : Tick) (w : StoreWrite) : Bool :=
  match w.timer with
  | .due limit => limit ≠ now
  | .stopped | .running _ => false

/-- A status byte that reports a write in progress (R207). -/
def writeInProgress (status : Byte) : Bool := status.getLsbD 0

/-- The store reports the write `w` finished (R123): in time and read back as meant it has succeeded, else its attempt has
failed. -/
def writeReported (op : PortOp) (w : StoreWrite) (effect : WriteEffect) (readBack : StoreAnswer) (s : State) : State :=
  let m := writeEffect effect w s.memory
  if w.late s.now = false ∧ readAnswer readBack m w.address w.bytes.length = w.bytes then
    writeSucceeded op (s.withMemory m)
  else attemptFails op w (s.withMemory (unfinishedEffect op effect w s.memory))

/-- STORE_WRITE_COMPLETE: the status byte of the write under way. While it reports the write in progress the part goes on
waiting; else the write is read back and compared (R123, R207). -/
def execStoreWriteComplete (effect : WriteEffect) (answers : WriteAnswers) (s : State) : Answer :=
  event (fun s =>
    match s.journal.port with
    | some { op, write := some w } =>
      if writeInProgress answers.status then s else writeReported op w effect answers.readBack s
    | _ => s) s

/-- WRITE_STATUS_TIMEOUT: 2 ticks have passed since the write was issued and the store has not reported it finished
(R123). -/
def execWriteStatusTimeout (effect : WriteEffect) (s : State) : Answer :=
  event (fun s =>
    match s.journal.port with
    | some { op, write := some w } =>
      if w.timer.isDue then attemptFails op w (s.withMemory (unfinishedEffect op effect w s.memory)) else s
    | _ => s) s

/-! ## What the port drives (R207) -/

/-- The read command for the bytes from address `a` on: 03h and a 24-bit address. -/
def readCommand (a : Nat) : List Byte := 0x03 :: beBytes 3 a

/-- The commands of one attempt of a write: write enable, write, status read (sent until the store reports the write
finished), and the read-back (R123). -/
def StoreWrite.commands (w : StoreWrite) : List (List Byte) :=
  [[0x06], 0x02 :: (beBytes 3 w.address ++ w.bytes), [0x05], readCommand w.address]

def PortUse.commands (p : PortUse) : List (List Byte) :=
  match p.write with
  | some w => w.commands
  | none =>
    match p.op with
    | .journalRead _ sequence _ _ => [readCommand (ringAddress (ringSlot sequence))]
    | .retryHeader => [readCommand 0]
    | _ => []

/-- The bytes the part sends the store for the work it has under way, one list for each time it drives SCS_N low: the
operation that holds the port, or the reads of the restore step that comes next. -/
def State.storeCommands (s : State) : List (List Byte) :=
  if s.restore.inReset then []
  else match s.journal.port with
    | some p => p.commands
    | none =>
      match s.restore.stage with
      | .header => [readCommand 0]
      | .ringScan _ => (List.range 8192).map fun k => readCommand (ringAddress k)
      | .images .. => (List.range 4096).map fun k => readCommand (imageAddress k)
      | .idle | .rewriting .. => []

end Sys2Proof.Machine
end

