-- ==== Sys2Proof/Machine/Dispatch.lean ====
section
/-! DEFINITION. The meaning of each command: one arm for each constructor of Instr. -/

namespace Sys2Proof.Machine

/-- The effect of a command on everything but the queue of waiting commands. -/
def exec (i : Instr) (s : State) : Host.Outcome State Fault Refusal :=
  match i with
  | .powerOnReset cut => Sys2Proof.Machine.execPowerOnReset cut s
  | .pinReset cut => Sys2Proof.Machine.execPinReset cut s
  | .resetNLow cut => Sys2Proof.Machine.execResetNLow cut s
  | .restoreHeaderLoaded answer => Sys2Proof.Machine.execRestoreHeaderLoaded answer s
  | .restoreRingScan answer => Sys2Proof.Machine.execRestoreRingScan answer s
  | .restoreImages answer => Sys2Proof.Machine.execRestoreImages answer s
  | .journalExhaustion => Sys2Proof.Machine.execJournalExhaustion s
  | .tick => Sys2Proof.Machine.execTick s
  | .holdExpiryEvent handle deadline => Sys2Proof.Machine.execHoldExpiryEvent handle deadline s
  | .clockAdvance => Sys2Proof.Machine.execClockAdvance s
  | .drainTimerExpiry => Sys2Proof.Machine.execDrainTimerExpiry s
  | .drainEvent => Sys2Proof.Machine.execDrainEvent s
  | .silenceTimerExpiry lane => Sys2Proof.Machine.execSilenceTimerExpiry lane s
  | .laneLostEvent lane => Sys2Proof.Machine.execLaneLostEvent lane s
  | .gapTimerExpiry lane => Sys2Proof.Machine.execGapTimerExpiry lane s
  | .byteReceived lane byte stopBit => Sys2Proof.Machine.execByteReceived lane byte stopBit s
  | .frameReceived lane lastByte => Sys2Proof.Machine.execFrameReceived lane lastByte s
  | .frameSent lane => Sys2Proof.Machine.execFrameSent lane s
  | .laneGrant => Sys2Proof.Machine.execLaneGrant s
  | .ping lane => Sys2Proof.Machine.execPing lane s
  | .pollNotice lane => Sys2Proof.Machine.execPollNotice lane s
  | .balance lane card => Sys2Proof.Machine.execBalance lane card s
  | .hold lane card amount parts => Sys2Proof.Machine.execHold lane card amount parts s
  | .capture lane handle amount final => Sys2Proof.Machine.execCapture lane handle amount final s
  | .release lane handle => Sys2Proof.Machine.execRelease lane handle s
  | .extend lane handle => Sys2Proof.Machine.execExtend lane handle s
  | .reverse lane receipt => Sys2Proof.Machine.execReverse lane receipt s
  | .openPurse lane card => Sys2Proof.Machine.execOpenPurse lane card s
  | .closePurse lane card => Sys2Proof.Machine.execClosePurse lane card s
  | .block lane card => Sys2Proof.Machine.execBlock lane card s
  | .unblock lane card => Sys2Proof.Machine.execUnblock lane card s
  | .topUp lane card amount => Sys2Proof.Machine.execTopUp lane card amount s
  | .withdraw lane card amount => Sys2Proof.Machine.execWithdraw lane card amount s
  | .fundSponsor lane sponsor amount => Sys2Proof.Machine.execFundSponsor lane sponsor amount s
  | .readPurse lane slot => Sys2Proof.Machine.execReadPurse lane slot s
  | .readTotals lane part => Sys2Proof.Machine.execReadTotals lane part s
  | .setRange lane entry enabled firstCard slotEnd grant sponsor limit => Sys2Proof.Machine.execSetRange lane entry enabled firstCard slotEnd grant sponsor limit s
  | .setSponsorCount lane count => Sys2Proof.Machine.execSetSponsorCount lane count s
  | .setLane lane named role holdLifetime silenceLimit holdLimit => Sys2Proof.Machine.execSetLane lane named role holdLifetime silenceLimit holdLimit s
  | .setCeiling lane amount => Sys2Proof.Machine.execSetCeiling lane amount s
  | .setLowMark lane amount => Sys2Proof.Machine.execSetLowMark lane amount s
  | .saveConfig lane => Sys2Proof.Machine.execSaveConfig lane s
  | .lockConfig lane => Sys2Proof.Machine.execLockConfig lane s
  | .readConfig lane part => Sys2Proof.Machine.execReadConfig lane part s
  | .closePeriod lane => Sys2Proof.Machine.execClosePeriod lane s
  | .setClock lane seconds => Sys2Proof.Machine.execSetClock lane seconds s
  | .setSchedule lane entry time enable => Sys2Proof.Machine.execSetSchedule lane entry time enable s
  | .setDrainLimit lane seconds => Sys2Proof.Machine.execSetDrainLimit lane seconds s
  | .sync lane => Sys2Proof.Machine.execSync lane s
  | .readJournal lane sequence => Sys2Proof.Machine.execReadJournal lane sequence s
  | .retryStore lane => Sys2Proof.Machine.execRetryStore lane s
  | .formatStore lane => Sys2Proof.Machine.execFormatStore lane s
  | .setRoute lane eventClass route => Sys2Proof.Machine.execSetRoute lane eventClass route s
  | .clearEvents lane classes => Sys2Proof.Machine.execClearEvents lane classes s
  | .readEvents lane => Sys2Proof.Machine.execReadEvents lane s
  | .storePortGrant => Sys2Proof.Machine.execStorePortGrant s
  | .writeStatusTimeout effect => Sys2Proof.Machine.execWriteStatusTimeout effect s
  | .storeWriteComplete effect answers => Sys2Proof.Machine.execStoreWriteComplete effect answers s
  | .retryHeaderRead answer => Sys2Proof.Machine.execRetryHeaderRead answer s
  | .journalReadComplete answer => Sys2Proof.Machine.execJournalReadComplete answer s
  | .captureDurable sequence => Sys2Proof.Machine.execCaptureDurable sequence s
  | .captureAbandoned sequence => Sys2Proof.Machine.execCaptureAbandoned sequence s
  | .reversalDurable sequence => Sys2Proof.Machine.execReversalDurable sequence s
  | .reversalAbandoned sequence => Sys2Proof.Machine.execReversalAbandoned sequence s
  | .officeRecordDurable sequence => Sys2Proof.Machine.execOfficeRecordDurable sequence s
  | .officeRecordAbandoned sequence => Sys2Proof.Machine.execOfficeRecordAbandoned sequence s
  | .periodCloseDurable sequence => Sys2Proof.Machine.execPeriodCloseDurable sequence s
  | .periodAdvance => Sys2Proof.Machine.execPeriodAdvance s
  | .periodCloseAbandoned sequence => Sys2Proof.Machine.execPeriodCloseAbandoned sequence s
  | .closeFailed => Sys2Proof.Machine.execCloseFailed s

end Sys2Proof.Machine
end

