-- ==== Sys2Proof/Safety.lean ====
section
/-! DEFINITION. What a sound state of the GH-4812 is: the laws the manual states of what the part holds between events. -/

namespace Sys2Proof.Machine

/-- The store's bytes are in canonical form. -/
abbrev State.memoryCanonical (s : State) : Prop := Memory.wf s.memory = true

/-- The purse, sponsor and hold tables are in canonical form. -/
abbrev State.tablesCanonical (s : State) : Prop :=
  Table.wf .free s.engine.cards = true ∧ Table.wf .zero s.engine.sponsors = true ∧
    Table.wf .free s.engine.holds = true

/-- The law of R171: a notice queue holds at most 8 notices, and outside a pin reset the attention output is asserted
exactly while it holds one. -/
def State.noticeLaw (s : State) : Prop :=
  ∀ l : Lane, s.notices.lanes[l].queue.length ≤ 8 ∧
    (s.restore.inReset = false → s.notices.lanes[l].attention = !s.notices.lanes[l].queue.isEmpty)

/-- The capture ring never holds more than 256 entries (R67). -/
abbrev State.ringBounded (s : State) : Prop := s.engine.ring.length ≤ 256

/-- The deadline list is in order, fewest ticks remaining first (R30). -/
def State.deadlineOrder (s : State) : Prop :=
  s.deadlines.list.Pairwise fun x y => ticksRemaining s.now x.deadline ≤ ticksRemaining s.now y.deadline

/-- Period Control's hold count is the count of LIVE and SETTLING holds, and no hold exists in CLOSE_WRITE (R110). -/
abbrev State.drainLaw (s : State) : Prop :=
  s.period.holdCount = s.engine.openHolds ∧ (s.period.state = .closeWrite → s.engine.openHolds = 0)

/-- The slots of a Lane Unit agree (R153, R154, R156): the reply slot is full exactly while the request is REPLYING, and
the transmitter has each full slot, and no other, once in its order. -/
def LaneUnit.slotsAgree (u : LaneUnit) : Bool :=
  (match u.request with
    | .replying _ => u.reply.isSome
    | .empty | .waiting _ | .withOwner _ => u.reply.isNone) &&
    decide (u.tx.count .reply = if u.reply.isSome then 1 else 0) &&
    decide (u.tx.count .busy = if u.busy.isSome then 1 else 0)

/-- Outside a pin reset, the slots of every Lane Unit agree. -/
def State.slotLaw (s : State) : Prop := s.restore.inReset = false → ∀ l : Lane, s.lanes[l].slotsAgree = true

/-! ## Records in flight -/

def JournalEvent.record : JournalEvent → Record
  | .durable r _ | .abandoned r _ => r

def JournalEvent.owner : JournalEvent → Owner
  | .durable _ o | .abandoned _ o => o

/-- The records whose durable or abandoned event the engine has not taken, each with its owner: those handed to the engine,
then those in the queue that are not yet durable (R5, R128). -/
def State.inFlight (s : State) : List (Record × Owner) :=
  s.engine.journalEvents.map (fun x => (x.record, x.owner)) ++ s.journal.waiting.map fun q => (q.record, q.owner)

/-- The lane that waits on a record. -/
def Owner.lane : Owner → Option Lane
  | .request l | .capture l .. | .reversal l _ => some l
  | .periodControl => none

/-- The handle of the hold a CAPTURE record settles. -/
def Owner.handle : Owner → Option Nat
  | .capture _ handle _ => some handle
  | .request _ | .reversal .. | .periodControl => none

/-- An owner waits on a record of its own kind (R129). -/
def Owner.suits (o : Owner) (b : RecordBody) : Prop :=
  match o with
  | .capture .. => ∃ slot c sp ap cp, b = .capture slot c sp ap cp
  | .reversal _ receipt => ∃ slot c sp ap cp back, b = .reversal slot c sp ap cp receipt back
  | .request _ => b.isOffice = true
  | .periodControl => ∃ origin clock figures, b = .periodClose origin clock figures

/-- What an in-flight record reserves on card slot `slot`, `f` telling the amount (R2). -/
def State.reserved (s : State) (f : RecordBody → Nat) (slot : Nat) : Nat :=
  ((s.inFlight.filter fun x => x.1.body.cardSlot = some slot).map fun x => f x.1.body).sum

def RecordBody.withdrawn : RecordBody → Nat
  | .withdraw _ _ amount => amount
  | .topUp .. | .capture .. | .reversal .. | .change .. | .fund .. | .periodClose .. => 0

def RecordBody.toppedUp : RecordBody → Nat
  | .topUp _ _ amount => amount
  | .withdraw .. | .capture .. | .reversal .. | .change .. | .fund .. | .periodClose .. => 0

/-! ## The laws of the journal -/

/-- The journal queue (R125, R126, R128, R130): the records not yet durable carry the numbers after the last durable one
without a gap; the queue holds them and, while the images the durable record before them calls for are written, that record; the
WRITING entry is the one the port works on; at most 63 entries come from requests and at most one is a PERIOD_CLOSE record. -/
def JournalUnit.queueLaw (j : JournalUnit) : Prop :=
  j.nextSeq = j.lastDurable + 1 + j.waiting.length ∧
  j.waiting.map (fun q => q.record.sequence) = List.range' (j.lastDurable + 1) j.waiting.length ∧
  (match j.port.map PortUse.op with
    | some (.recordWrite r) => j.queue = j.waiting ∧ ∃ q rest, j.queue = q :: rest ∧ q.record = r ∧ q.writing = true ∧
        ∀ x ∈ rest, x.writing = false
    | some (.imageWrites r k rest) => r.sequence = j.lastDurable ∧ (k :: rest) <:+ imageSlots r.body ∧
        ∃ q, j.queue = q :: j.waiting ∧ q.record = r ∧ q.writing = true ∧ ∀ x ∈ j.waiting, x.writing = false
    | _ => j.queue = j.waiting ∧ ∀ x ∈ j.queue, x.writing = false) ∧
  (∀ q ∈ j.queue, q.owner.suits q.record.body) ∧
  (j.queue.filter fun q => q.owner ≠ .periodControl).length ≤ 63 ∧
  (j.queue.filter fun q => q.owner = .periodControl).length ≤ 1

/-- What may hold the store port (R127, R136, R141, R142, R195, R197), and what waits for it: writes of the journal and of a
save with the store OK, the retry in FAULT on a journal not exhausted, the format in FORMATTING, and in RESTORING the rewrites of the
third step alone. -/
def State.portLaw (s : State) : Prop :=
  (match s.journal.port.map PortUse.op with
    | none => True
    | some (.recordWrite _) | some (.imageWrites ..) | some (.staleImage _) | some (.saveBlock ..) | some (.saveCheck _) =>
      s.restore.part = .ready ∧ s.journal.store = .ok ∧ s.journal.exhaustionDue = false
    | some .retryHeader | some .retryCheck | some .retryVoid => s.journal.retry ≠ none
    | some .formatClear | some (.formatVoid _) | some (.formatImage _) | some .formatHeader =>
      s.restore.part = .formatting
    | some .restoreImage =>
      s.restore.part = .restoring ∧ ∃ n records rest, s.restore.stage = .rewriting n records rest
    | some (.journalRead ..) => s.restore.part = .ready ∨ s.restore.part = .formatting) ∧
  (s.journal.store = .fault → s.journal.queue = []) ∧
  (s.journal.retry ≠ none →
    s.restore.part = .ready ∧ s.journal.store = .fault ∧ s.journal.lastDurable < 4294967231) ∧
  (s.journal.save ≠ none → s.restore.part = .ready ∧ s.journal.store = .ok) ∧
  (s.journal.exhaustionDue = true →
    s.restore.part = .ready ∧ s.journal.store = .ok ∧ 4294967231 ≤ s.journal.lastDurable) ∧
  (∀ w ∈ s.journal.syncs, s.journal.lastDurable < w.mark ∧ w.mark < s.journal.nextSeq)

/-- Before READY and while a format runs (R53, R147, R190, R196): no hold is open, no close runs, no record waits, and the clock
stands still or the store is in FAULT; until the restore has rebuilt it the purse table is empty. -/
def State.partLaw (s : State) : Prop :=
  (s.restore.part ≠ .ready →
    s.engine.openHolds = 0 ∧ s.period.state = .opened ∧ s.journal.queue = [] ∧ s.engine.journalEvents = [] ∧
      (s.journal.store = .fault ∨ s.period.clock = none)) ∧
  (s.restore.part = .restoring → s.journal.store = .ok ∧
    ((∃ n records rest, s.restore.stage = .rewriting n records rest) ∨
      s.engine.cards = [] ∧ s.engine.sponsors = []))

/-- A close (R105, R110, R117, R118): in FREEZING a hold is open; in CLOSE_WRITE, and then alone, one PERIOD_CLOSE record is in
flight or its end is on the way to Period Control. -/
def State.closeLaw (s : State) : Prop :=
  (s.period.state = .freezing → s.engine.openHolds ≠ 0) ∧
  (s.inFlight.filter fun x => x.2 = .periodControl).length + (if s.period.closeEnd = none then 0 else 1) =
    (if s.period.state = .closeWrite then 1 else 0)

/-- The lanes whose request stands with its owner, by what they wait for. -/
def PortOp.lanes : PortOp → List Lane
  | .saveBlock lanes _ | .saveCheck lanes => lanes
  | .journalRead l .. => [l]
  | .recordWrite _ | .imageWrites .. | .staleImage _ | .retryHeader | .retryCheck | .retryVoid | .formatClear
  | .formatVoid _ | .formatImage _ | .formatHeader | .restoreImage => []

def State.waitingLanes (s : State) : List Lane :=
  s.arbiter.intake.toList ++ s.inFlight.filterMap (fun x => x.2.lane) ++ s.journal.reads.map ReadWait.lane ++
    s.journal.syncs.map SyncWait.lane ++ s.journal.retry.getD [] ++ s.journal.save.getD [] ++
    ((s.journal.port.map fun p => p.op.lanes).getD []) ++ s.restore.format.toList

/-- A request waits for one thing at a time, and stands WITH_OWNER until it is answered (R128, R131, R154). -/
def State.ownerLaw (s : State) : Prop :=
  s.waitingLanes.Nodup ∧ ∀ l ∈ s.waitingLanes, ∃ f, s.lanes[l].request = .withOwner f

/-- The laws of the journal and of what waits on it. -/
def State.journalLaw (s : State) : Prop :=
  s.journal.queueLaw ∧ s.portLaw ∧ s.partLaw ∧ s.closeLaw ∧ s.ownerLaw ∧
    ∀ x ∈ s.engine.journalEvents, x.owner.suits x.record.body

/-! ## The laws of holds and purses -/

/-- The handle names a LIVE or SETTLING hold (R25). -/
def Engine.isOpen (e : Engine) (handle : Nat) : Prop := e.resolve handle = .live ∨ e.resolve handle = .settling

/-- The hold table and its lists (R24, R26, R28, R30): the free list holds every FREE slot once; a handle of an open hold stands
once in the list of its lane, once in the list of its purse, and, unless its deadline has passed, once in the deadline list with
its deadline; no list holds another handle; a lane has at most 64 holds and a purse at most 4; marks stand on SETTLING holds
alone, and a FREE hold has no shares. -/
def State.holdLaw (s : State) : Prop :=
  s.engine.freeList.Nodup ∧ (∀ k, k ∈ s.engine.freeList ↔ k < 512 ∧ (s.engine.hold k).state = .free) ∧
  (∀ k, 512 ≤ k → (s.engine.hold k).state = .free) ∧
  (∀ l : Lane, s.lanes[l].settings.holdLimit ≤ 64 ∧ s.engine.laneHolds[l].length ≤ 64 ∧ s.engine.laneHolds[l].Nodup ∧
    ∀ h, h ∈ s.engine.laneHolds[l] ↔ s.engine.isOpen h ∧ (s.engine.hold (handleSlot h)).lane = l) ∧
  (∀ slot, (s.engine.card slot).holdList.length ≤ 4 ∧ (s.engine.card slot).holdList.Nodup ∧
    ∀ h, h ∈ (s.engine.card slot).holdList ↔ s.engine.isOpen h ∧ (s.engine.hold (handleSlot h)).cardSlot = slot) ∧
  (s.deadlines.list.map DeadlineEntry.handle).Nodup ∧
  (∀ y, y ∈ s.deadlines.list ↔ s.engine.isOpen y.handle ∧ (s.engine.hold (handleSlot y.handle)).deadline = y.deadline ∧
    (s.engine.hold (handleSlot y.handle)).deadlinePassed = false) ∧
  (∀ k, (s.engine.hold k).state ≠ .settling →
    (s.engine.hold k).endMark = .unmarked ∧ (s.engine.hold k).deadlinePassed = false) ∧
  (∀ k, (s.engine.hold k).state = .free → (s.engine.hold k).allowanceShare = 0 ∧ (s.engine.hold k).cashShare = 0)

/-- A hold is SETTLING exactly while one CAPTURE record of it is in flight, of the hold's own purse and sponsor and of no more
than its shares (R24, R56, R60). -/
def State.settlingLaw (s : State) : Prop :=
  (s.inFlight.filterMap fun x => x.2.handle).Nodup ∧
  (∀ h, h ∈ (s.inFlight.filterMap fun x => x.2.handle) ↔ s.engine.resolve h = .settling) ∧
  ∀ x ∈ s.inFlight, ∀ h ∈ x.2.handle, ∀ slot c sp ap cp, x.1.body = .capture slot c sp ap cp →
    (s.engine.hold (handleSlot h)).cardSlot = slot ∧
      (s.engine.hold (handleSlot h)).sponsor = sp.map SponsorAfter.sponsor ∧
      ap ≤ (s.engine.hold (handleSlot h)).allowanceShare ∧ cp ≤ (s.engine.hold (handleSlot h)).cashShare

/-- The sum of one share over the holds of some handles. -/
def Engine.shares (e : Engine) (share : Hold → Nat) (handles : List Nat) : Nat :=
  (handles.map fun h => share (e.hold (handleSlot h))).sum

/-- What open holds keep of sponsor `n`. -/
def Engine.sponsorShares (e : Engine) (n : Nat) : Nat :=
  (((List.range 512).filter fun k => (e.hold k).state ≠ .free ∧ (e.hold k).sponsor = some n).map fun k =>
    (e.hold k).allowanceShare).sum

/-- The balances (R2, R7): held amounts are the sums of the shares of the open holds, outgoing and pending amounts those of the
records in flight, and no balance is below what is held and going out of it. A purse with an open hold is OPEN or BLOCKED, in the
current period. -/
def State.balanceLaw (s : State) : Prop :=
  (∀ slot p, p = s.engine.card slot →
    p.cashHeld = s.engine.shares Hold.cashShare p.holdList ∧
    p.allowanceHeld = s.engine.shares Hold.allowanceShare p.holdList ∧
    p.cashOutgoing = s.reserved RecordBody.withdrawn slot ∧ p.topUpPending = s.reserved RecordBody.toppedUp slot ∧
    p.cashHeld + p.cashOutgoing ≤ p.cashBalance ∧ p.allowanceHeld ≤ p.allowanceRemaining ∧
    (p.holdList ≠ [] → p.state ≠ .free ∧ p.allowancePeriod = s.period.number)) ∧
  (∀ n, (s.engine.sponsor n).held = s.engine.sponsorShares n ∧ (s.engine.sponsor n).held ≤ (s.engine.sponsor n).balance)

/-- The range map is in order, clear of the sponsor region, with the cards of its entries apart, and its enabled entries name
sponsors of the region (R14, R15). -/
def Engine.mapOk (e : Engine) : Prop :=
  slotEndsInOrder e.ranges = true ∧ clearOfSponsors e.ranges e.sponsorCount = true ∧ cardsApart e.ranges = true ∧
    ∀ k : Fin 8, e.ranges[k].enabled = true → ∀ n ∈ e.ranges[k].sponsor, n < e.sponsorCount

/-- Cards in their slots (R5, R12, R84): pending records are the records in flight that name the purse; an OPEN or BLOCKED card
purse, and a FREE one with a record pending, sits where the map puts its card, so that no two hold one card; a slot of the sponsor
region holds no card purse, but for a card number left there (R2); an OPEN record in flight is the only record of its FREE slot and
carries its card, a CLOSE_PURSE record the only one of its purse, and every other record in flight names a purse that is not FREE and
has no close queued. -/
def State.placeLaw (s : State) : Prop :=
  s.engine.mapOk ∧
  (∀ slot p, p = s.engine.card slot →
    p.pendingRecords = (s.inFlight.filter fun x => x.1.body.cardSlot = some slot).length ∧
    (s.engine.isCardSlot slot = false → p = p.emptied) ∧
    (p.state ≠ .free ∨ p.pendingRecords ≠ 0 → slotOf s.engine.ranges p.cardNumber = some slot) ∧
    (p.closeQueued = true →
      p.pendingRecords = 1 ∧ ∃ x ∈ s.inFlight, ∃ c, x.1.body = .change .closePurse slot c)) ∧
  (∀ n, (s.engine.sponsor n).pendingRecords = (s.inFlight.filter fun x => x.1.body.sponsor = some n).length) ∧
  (∀ k, (s.engine.hold k).state ≠ .free → ∀ n ∈ (s.engine.hold k).sponsor, n < s.engine.sponsorCount) ∧
  (∀ x ∈ s.inFlight, ∀ n ∈ x.1.body.sponsor, n < s.engine.sponsorCount) ∧
  ∀ x ∈ s.inFlight, ∀ slot p, x.1.body.cardSlot = some slot → p = s.engine.card slot →
    match x.1.body with
    | .change .openPurse _ c => p.state = .free ∧ p.pendingRecords = 1 ∧ p.closeQueued = false ∧
        c.cardNumber = p.cardNumber ∧ c.state = .opened
    | .change .closePurse .. => p.state ≠ .free ∧ p.closeQueued = true ∧ p.holdList = []
    | _ => p.state ≠ .free ∧ p.closeQueued = false

/-- No balance passes its top as the records in flight take effect one by one (R7, R75, R89, R93): cash 2,000,000, a sponsor
100,000,000. -/
def State.capLaw (s : State) : Prop :=
  ∀ n : Nat, (∀ slot, (cardThrough (s.earlierRecords.take n) slot (s.engine.card slot).after).cashBalance ≤ 2000000) ∧
    ∀ sponsor, sponsorThrough (s.earlierRecords.take n) sponsor (s.engine.sponsor sponsor).balance ≤ 100000000

/-- Every law of the journal, the holds and the purses; while a pin reset holds the part they rest. -/
def State.lawful (s : State) : Prop :=
  s.tablesCanonical ∧ s.drainLaw ∧ s.slotLaw ∧
    (s.restore.inReset = false → s.journalLaw ∧ s.holdLaw ∧ s.settlingLaw ∧ s.balanceLaw ∧ s.placeLaw)

/-- The step that comes is none of two that the manual takes not to arise: a FORMAT_STORE taken in READY on an exhausted journal with
a journal event still on its way (R190, log entry 35) or before the exhaustion has put the store in FAULT (R196, log entry 14), and a
header that enables an entry for a sponsor outside its own sponsor count, which no SET_RANGE and no SET_SPONSOR_COUNT leaves behind
(R14, R18) and the model loads (log entry 38). -/
def State.ordinary (s : State) : Prop :=
  (∀ l rest, s.pending = .formatStore l :: rest → s.restore.part = .ready → s.journal.exhausted = true →
    s.engine.journalEvents = [] ∧ s.journal.store = .fault) ∧
  ∀ answer rest base period c, s.pending = .restoreHeaderLoaded answer :: rest →
    judgeHeader (readAnswer answer s.memory 0 430) = .good base period (some c) →
    ∀ k : Fin 8, c.ranges[k].enabled = true → ∀ n ∈ c.ranges[k].sponsor, n < c.sponsorCount

/-! ## Commands and their answers -/

/-- The request `c` stands in the intake, and no pin reset holds the part: its owner takes it. -/
abbrev State.Asks (c : Instr) (s : State) : Prop := s.restore.inReset = false ∧ s.granted = some c

/-- The same, with the part READY. -/
abbrev State.AsksReady (c : Instr) (s : State) : Prop := s.Asks c ∧ s.restore.part = .ready

/-- The state once its owner has taken the request in the intake (R159). -/
def State.taken (s : State) : State := { s with arbiter := { s.arbiter with intake := none } }

/-- The oldest journal event the engine has not taken is `x`, and no pin reset holds the part. -/
abbrev State.Hands (x : JournalEvent) (s : State) : Prop :=
  s.restore.inReset = false ∧ s.engine.journalEvents.head? = some x

/-- The write `w` of operation `op` is under way, and no pin reset holds the part. -/
abbrev State.Writes (op : PortOp) (w : StoreWrite) (s : State) : Prop :=
  s.restore.inReset = false ∧ s.journal.port = some { op := op, write := some w }

/-- The write `w` is reported finished by a status byte whose bit 0 is clear, within its limit, and reads back as meant: its attempt
succeeds (R123, R207). -/
def State.Succeeds (s : State) (w : StoreWrite) (status : Byte) (effect : WriteEffect) (answer : StoreAnswer) : Prop :=
  status.getLsbD 0 = false ∧ (∀ e, w.timer = .due e → e = s.now) ∧
    readAnswer answer (writeEffect effect w s.memory) w.address w.bytes.length = w.bytes

/-- The attempt of the write `w` fails by the command `c`, which leaves `effect` of it (R123): its limit has come with no report, or
it is reported finished too late, or it does not read back as meant. -/
def State.FailsBy (s : State) (w : StoreWrite) (effect : WriteEffect) (c : Instr) : Prop :=
  (c = .writeStatusTimeout effect ∧ ∃ e, w.timer = .due e) ∨
    ∃ status answer, c = .storeWriteComplete effect ⟨status, answer⟩ ∧ status.getLsbD 0 = false ∧
      ((∃ e, w.timer = .due e ∧ e ≠ s.now) ∨
        readAnswer answer (writeEffect effect w s.memory) w.address w.bytes.length ≠ w.bytes)

/-- `s` with the write of `bytes` at `address` issued for operation `op`: its first attempt, with a limit of 2 ticks (R123). -/
def State.Issues (op : PortOp) (address : Nat) (bytes : List Byte) (s : State) : State :=
  { s with journal := { s.journal with port := some ⟨op, some ⟨address, bytes, 1, .running (s.now + 2)⟩⟩ } }

/-- A write under way covers address `a`. -/
def State.writeCovers (s : State) (a : Nat) : Prop :=
  ∃ op w, s.journal.port = some { op := op, write := some w } ∧ w.address ≤ a ∧ a < w.address + w.bytes.length

/-- The commands that end or start a reset. -/
def isReset : Instr → Prop
  | .powerOnReset _ | .pinReset _ | .resetNLow _ => True
  | _ => False

/-- The commands that may change the cash balance of card slot `slot`: the durable events of records (R60, R77, R83, R86, R90,
R92), a sponsor count that takes or gives back this slot (R19, R20), the restore, the completion of a format's last write, and the
resets. -/
def State.movesCash (s : State) (c : Instr) (slot : Nat) : Prop :=
  match c with
  | .captureDurable _ | .reversalDurable _ | .officeRecordDurable _ | .restoreImages _ | .powerOnReset _
  | .pinReset _ => True
  | .setSponsorCount _ n => slot + min n s.engine.sponsorCount < 4096 ∧ 4096 ≤ slot + max n s.engine.sponsorCount
  | .storeWriteComplete .. => s.journal.port.map PortUse.op = some .formatHeader
  | _ => False

/-- The requests an owner takes in every part state (R158, R190). -/
def takenBeforeReady : RequestKind → Prop
  | .ping | .pollNotice | .readConfig | .formatStore => True
  | _ => False

/-- The SET_ requests the config lock refuses (R182). -/
def lockedKind : RequestKind → Prop
  | .setLane | .setRange | .setSponsorCount | .setCeiling | .setLowMark | .setSchedule | .setDrainLimit | .setRoute =>
    True
  | _ => False

/-! ## What the ending of holds leaves (R33 to R35, R110 to R112) -/

/-- Notice `x` placed for lane `l` in the queues of `n` (R169): discarded for a lane in role OFF. -/
def State.tells (s : State) (l : Lane) (x : Notice) (n : NoticeUnit) : NoticeUnit :=
  if s.role l = .off then n else { n with lanes := n.lanes.set l (n.lanes[l].place x) }

/-- A report of `count` open holds to Period Control in `s` leaves this period, journal and notices (R35, R110 to R112): the
count is noted, and a report of 0 in FREEZING stops the drain timer and queues the PERIOD_CLOSE record or, with the store in
FAULT, fails the close. -/
def State.Reports (s : State) (count : Nat) (period : PeriodControl) (journal : JournalUnit) (notices : NoticeUnit) :
    Prop :=
  (s.period.state ≠ .freezing ∨ count ≠ 0 →
    period = { s.period with holdCount := count } ∧ journal = s.journal ∧ notices = s.notices) ∧
  (s.period.state = .freezing → count = 0 → s.journal.store = .ok →
    period = { s.period with holdCount := 0, state := .closeWrite, drainTimer := .stopped } ∧ notices = s.notices ∧
    ∀ origin lane, s.period.origin = some origin → (origin = .lane lane ∨ lane = 0 ∧ ∃ k, origin = .schedule k) →
      journal = { s.journal with
        nextSeq := s.journal.nextSeq + 1,
        queue := (s.journal.queue ++
          [{ record :=
              { sequence := s.journal.nextSeq, lane := lane,
                period := if s.period.number = 4294967295 then 1 else s.period.number + 1,
                body := .periodClose origin s.period.clock s.closeFigures },
             owner := .periodControl, writing := false }]) }) ∧
  (s.period.state = .freezing → count = 0 → s.journal.store = .fault →
    period = { s.period with holdCount := 0, state := .opened, origin := none, drainTimer := .stopped } ∧
      journal = s.journal ∧ notices = (raiseFlag .closeFailed s).notices)

/-- A walk over the holds of `handles`, in their order, leads from `s` to `t` (R50, R51, R115): every LIVE hold ends for
`reason`, its slot at the tail of the free list in the order of the walk, its shares back from its purses, its handle out of every
list; every SETTLING one gets the end mark `mark` if it has none; a card purse that is touched is refreshed first (R9); no other
hold changes. -/
def State.Walks (s : State) (handles : List Nat) (reason : EndReason) (mark : EndMark) (t : State) : Prop :=
  ∀ (ended touched : List Nat) (h : Nat → Hold), (∀ x, h x = s.engine.hold (x % 512)) →
    ended = handles.filter (fun x => s.engine.resolve x = .live) →
    touched = handles.filter (fun x => s.engine.resolve x = .live ∨ s.engine.resolve x = .settling) →
    t.engine.freeList = s.engine.freeList ++ ended.map (fun x => x % 512) ∧
    (∀ l : Lane, t.engine.laneHolds[l] = s.engine.laneHolds[l].diff (ended.filter fun x => (h x).lane = l)) ∧
    t.deadlines = { s.deadlines with list := s.deadlines.list.filter fun y => y.handle ∉ ended } ∧
    (∀ x ∈ ended, t.engine.hold (x % 512) =
      { h x with state := .free, endReason := reason, allowanceShare := 0, cashShare := 0, endMark := .unmarked,
                 deadlinePassed := false }) ∧
    (∀ x ∈ touched, x ∉ ended → t.engine.hold (x % 512) =
      { h x with endMark := if (h x).endMark = .unmarked then mark else (h x).endMark }) ∧
    (∀ k, (∀ x ∈ touched, x % 512 ≠ k) → t.engine.hold k = s.engine.hold k) ∧
    (∀ slot p here, here = ended.filter (fun x => (h x).cardSlot = slot) →
      ((∃ x ∈ touched, (h x).cardSlot = slot) → p = (refresh slot s).engine.card slot) →
      ((∀ x ∈ touched, (h x).cardSlot ≠ slot) → p = s.engine.card slot) →
      t.engine.card slot =
        { p with
          cashHeld := p.cashHeld - (here.map fun x => (h x).cashShare).sum,
          allowanceHeld := p.allowanceHeld - (here.map fun x => (h x).allowanceShare).sum,
          holdList := p.holdList.diff here }) ∧
    (∀ n here, here = ended.filter (fun x => (h x).sponsor = some n) →
      t.engine.sponsor n = { s.engine.sponsor n with
        held := (s.engine.sponsor n).held - (here.map fun x => (h x).allowanceShare).sum })

/-- The hold outcome of a CAPTURE reply for an ended hold, and for a LIVE one (R200 note 1). -/
def endedOutcome (reason : EndReason) : List Byte :=
  beBytes 1 1 ++ beBytes 1 (endReasonCode reason) ++ beBytes 2 0 ++ beBytes 3 0 ++ beBytes 1 0 ++ beBytes 4 0
def liveOutcome (h : Hold) : List Byte :=
  beBytes 1 0 ++ beBytes 1 0 ++ beBytes 2 h.allowanceShare ++ beBytes 3 h.cashShare ++ beBytes 1 h.partsRemaining ++
    beBytes 4 h.deadline.toNat

/-- The settlement of hold `k` ends in `u` without an ending of its own (R59): the deadline-passed mark ends it EXPIRED, else
the end mark for its reason, else it is LIVE again and nothing else changes; `outcome` is what the lane is told. -/
def Settles (k : Nat) (u v : State) (outcome : List Byte) : Prop :=
  ∀ h, h = u.engine.hold k →
    (h.deadlinePassed = true → v = endHold k .expired u ∧ outcome = endedOutcome .expired) ∧
    (h.deadlinePassed = false → h.endMark = .laneLost → v = endHold k .laneLost u ∧ outcome = endedOutcome .laneLost) ∧
    (h.deadlinePassed = false → h.endMark = .drained → v = endHold k .drained u ∧ outcome = endedOutcome .drained) ∧
    (h.deadlinePassed = false → h.endMark = .unmarked →
      v = { u with engine := { u.engine with holds := v.engine.holds } } ∧
        v.engine.hold k = { h with state := .live } ∧ (∀ j, j ≠ k → v.engine.hold j = u.engine.hold j) ∧
        outcome = liveOutcome h)

/-! ## Units that hold what they spell (R205) -/

/-- A card after-state whose fields fit their widths, in a record of period `period`. -/
def CardAfter.fits (period : Nat) (c : CardAfter) : Prop :=
  c.cardNumber < 2 ^ 24 ∧ c.cashBalance < 2 ^ 21 ∧ c.allowanceRemaining < 2 ^ 14 ∧ c.allowancePeriod = period ∧
    c.spent < 2 ^ 32

/-- A named sponsor's fields fit, and its balance is not the mark of none. -/
def SponsorAfter.fits (a : SponsorAfter) : Prop := a.sponsor < 64 ∧ a.balance < 2 ^ 27 - 1

/-- A card after-state of a kind whose state bit says OPEN or BLOCKED. -/
def CardAfter.openFits (period : Nat) (c : CardAfter) : Prop :=
  c.fits period ∧ (c.state = .opened ∨ c.state = .blocked)

/-- The fields of a record fit the widths of R205, a REVERSAL's receipt lies within reach or is 0 for beyond reach, and a
PERIOD_CLOSE record's lane is its origin's, 0 for a schedule. -/
def Record.fits (r : Record) : Prop :=
  r.sequence < 2 ^ 32 ∧ r.period < 2 ^ 32 ∧
    match r.body with
    | .capture slot c sp ap cp =>
      slot < 4096 ∧ c.openFits r.period ∧ (∀ a ∈ sp, a.fits) ∧ ap < 2 ^ 14 ∧ cp < 2 ^ 17
    | .reversal slot c sp ap cp q _ =>
      slot < 4096 ∧ c.openFits r.period ∧ (∀ a ∈ sp, a.fits) ∧ ap < 2 ^ 14 ∧ cp < 2 ^ 17 ∧
        (q = 0 ∨ 0 < q ∧ q < r.sequence ∧ r.sequence ≤ q + 8191)
    | .topUp slot c amount | .withdraw slot c amount => slot < 4096 ∧ c.openFits r.period ∧ amount < 2 ^ 21
    | .change _ slot c => slot < 4096 ∧ c.fits r.period
    | .fund sp amount => sp.sponsor < 64 ∧ sp.balance < 2 ^ 27 ∧ amount < 2 ^ 27
    | .periodClose origin clock f =>
      (match origin with | .lane l => r.lane = l | .schedule e => e < 8 ∧ r.lane = 0) ∧
        (∀ c ∈ clock, c < 2 ^ 17 - 1) ∧ f.captureCount < 2 ^ 32 ∧ f.capturedCash < 2 ^ 32 ∧
        f.capturedAllowance < 2 ^ 32 ∧ f.reversedCash < 2 ^ 32 ∧ f.reversedAllowance < 2 ^ 32

/-- The fields of an image fit the widths of R205. -/
def Image.fits : Image → Prop
  | .card c q => c.fits c.allowancePeriod ∧ c.allowancePeriod < 2 ^ 32 ∧ q < 2 ^ 32
  | .sponsor balance q => balance < 2 ^ 27 ∧ q < 2 ^ 32

/-! ## The restore's judgements (R191 to R194, R206) -/

/-- Every value of a configuration lies in the range its setting allows, and its map passes the three checks of R15 (R206). That
the two bounds of R14 that depend on other values are no part of it is the model's choice (log entry 38). -/
def WorkingConfig.inRange (c : WorkingConfig) : Prop :=
  c.sponsorCount ≤ 64 ∧ c.ceiling ≤ 2000000 ∧ c.lowMark ≤ 100000000 ∧ 10 ≤ c.drainLimit ∧ c.drainLimit ≤ 900 ∧
  (∀ l : Fin 8, 5 ≤ c.lanes[l].holdLifetime ∧ c.lanes[l].holdLifetime ≤ 600 ∧
    (c.lanes[l].silenceLimit = 0 ∨ 2 ≤ c.lanes[l].silenceLimit ∧ c.lanes[l].silenceLimit ≤ 120) ∧
    1 ≤ c.lanes[l].holdLimit ∧ c.lanes[l].holdLimit ≤ 64) ∧
  (∀ k : Fin 6, c.schedule[k].time ≤ 86399) ∧
  (∀ k : Fin 8, 1 ≤ c.ranges[k].firstCard ∧ c.ranges[k].firstCard ≤ 16777215 ∧ c.ranges[k].slotEnd ≤ 4096 ∧
    c.ranges[k].grant ≤ 10000 ∧ c.ranges[k].limit ≤ 100000 ∧ ∀ n ∈ c.ranges[k].sponsor, n < 64) ∧
  slotEndsInOrder c.ranges = true ∧ clearOfSponsors c.ranges c.sponsorCount = true ∧ cardsApart c.ranges = true

/-- Record `r` names slot `k`, and `i` is its after-state for it (R192): as card slot `k`, or as sponsor 4095 - `k`. -/
def Record.Carries (r : Record) (k : Nat) (i : Image) : Prop :=
  (∃ c, r.body.cardSlot = some k ∧ r.body.cardAfter = some c ∧ i = .card c r.sequence) ∨
    ∃ a, r.body.cardSlot ≠ some k ∧ r.body.sponsorAfter = some a ∧ a.sponsor + k = 4095 ∧
      i = .sponsor a.balance r.sequence

/-- What slot `k` takes, of the images read and the records found (R192): `some (i, true)` where `i` is a record's after-state and
the image is rewritten, `some (i, false)` where it is the image, none where the image is not valid and no record names the slot. -/
def SlotTakes (image : Nat → Option Image) (records : List Record) (taken : Nat → Option (Image × Bool)) : Prop :=
  ∀ k, k < 4096 →
    (∀ j, (∃ r ∈ records, r.Carries k j ∧ ∀ r' ∈ records, ∀ j', r'.Carries k j' → r'.sequence ≤ r.sequence) →
      (∀ i, image k = some i → j.sequence ≤ i.sequence → taken k = some (i, false)) ∧
      (∀ i, image k = some i → i.sequence < j.sequence → taken k = some (j, true)) ∧
      (image k = none → taken k = some (j, true))) ∧
    ((∀ r ∈ records, ∀ j, ¬ r.Carries k j) →
      (∀ i, image k = some i → taken k = some (i, false)) ∧ (image k = none → taken k = none))

/-- The purse taken for slot `k` cannot sit there under the loaded configuration `e` holds (R192). -/
def Engine.Misplaces (e : Engine) (k : Nat) (i : Image) : Prop :=
  (∃ balance q, i = .sponsor balance q ∧ k + e.sponsorCount < 4096 ∧ 0 < balance) ∨
    ∃ c q, i = .card c q ∧ restoredState k q c.state ≠ .free ∧
      (4096 ≤ k + e.sponsorCount ∨ slotOf e.ranges c.cardNumber ≠ some k)

/-- Slot `k` of the restored table `e` is the purse taken for it, with no hold, no record and nothing held (R192, R22, R99). -/
def Engine.Seats (e : Engine) (k : Nat) (i : Image) : Prop :=
  (∀ balance q, i = .sponsor balance q → 4096 ≤ k + e.sponsorCount → e.sponsor (4095 - k) = ⟨balance, 0, 0⟩) ∧
  (∀ balance q, i = .sponsor balance q → k + e.sponsorCount < 4096 → e.card k = CardPurse.free) ∧
  (∀ c q, i = .card c q → 4096 ≤ k + e.sponsorCount → e.sponsor (4095 - k) = ⟨0, 0, 0⟩) ∧
  (∀ c q, i = .card c q → k + e.sponsorCount < 4096 → e.card k =
    { CardPurse.free with
      state := restoredState k q c.state, cardNumber := c.cardNumber, cashBalance := c.cashBalance,
      allowanceRemaining := c.allowanceRemaining, allowancePeriod := c.allowancePeriod, spent := c.spent })

/-- The ring entry `x` of CAPTURE record `r`, as the records found leave it (R194). -/
def Record.RingsAs (records : List Record) (r : Record) (x : RingEntry) : Prop :=
  ∃ slot c sp ap cp, r.body = .capture slot c sp ap cp ∧
    x = { receipt := r.sequence, lane := r.lane, cardSlot := slot, cardNumber := c.cardNumber,
          sponsor := sp.map SponsorAfter.sponsor, allowancePart := ap, cashPart := cp, period := r.period,
          reversal := x.reversal, closedMark := x.closedMark } ∧
    ((∃ r' ∈ records, ∃ slot' c' sp' ap' cp' back, r'.body = .reversal slot' c' sp' ap' cp' r.sequence back) →
      x.reversal = .done) ∧
    ((∀ r' ∈ records, ∀ slot' c' sp' ap' cp' back, r'.body ≠ .reversal slot' c' sp' ap' cp' r.sequence back) →
      x.reversal = .notReversed) ∧
    (x.closedMark = true ↔ ∃ r' ∈ records, ∃ c', r'.body = .change .closePurse slot c' ∧ r.sequence < r'.sequence)

/-- A record of a kind. -/
def Record.isCapture (r : Record) : Bool := recordKind r.body = 1

/-- The restore ends in `t` with the records found, `n` the newest sequence number (R193, R194): READY, in the period of the newest
record, with its totals, the partial mark, the capture ring and the sequence numbers. -/
def Restored (n : Nat) (records : List Record) (s t : State) : Prop :=
  t = { s with
    restore := { s.restore with part := .ready, finding := .none, stage := .idle },
    engine := { s.engine with
      ring := t.engine.ring, partialMark := t.engine.partialMark,
      totals := (records.filter fun r => r.period = t.period.number).foldl Totals.add Totals.zero },
    journal := { s.journal with
      lastDurable := n, nextSeq := n + 1, exhaustionDue := decide (4294967231 ≤ n), port := none },
    period := { s.period with
      number := (records.getLast?.map Record.period).getD s.restore.formatPeriod, state := .opened },
    notices := if t.engine.partialMark then (raiseFlag .totalsPartial s).notices else s.notices } ∧
  (t.engine.partialMark = true ↔ ∃ oldest, records.head? = some oldest ∧ s.restore.ringBase < oldest.sequence ∧
    oldest.period = t.period.number ∧ recordKind oldest.body ≠ 10) ∧
  ∃ older captures, records.filter Record.isCapture = older ++ captures ∧ captures.length ≤ 256 ∧
    (older ≠ [] → captures.length = 256) ∧ List.Forall₂ (Record.RingsAs records) captures t.engine.ring

/-! ## Soundness -/

/-- A sound state: all these laws together. -/
def State.Sound (s : State) : Prop :=
  s.memoryCanonical ∧ s.tablesCanonical ∧ s.noticeLaw ∧ s.ringBounded ∧ s.drainLaw ∧ s.slotLaw ∧ s.deadlineOrder ∧
    s.lawful ∧ s.capLaw

end Sys2Proof.Machine
end

