-- ==== Sys2Proof/Certificates/Slice0/Obligations.lean ====
section
/-! DEFINITION. The statements for the provers. Where a statement says `exec c s = .next (fillReply l r body t)`, `fillReply`
is the owner's reply, of which `ownerFillsReply` says everything; `raiseFlag` and `NoticeLane.place` are what `noticesPlaced`
says, `refresh` and `grantOf` what `refreshBringsPurseIntoPeriod` says, `endHold` what `holdEnds` says, `startSilence` what
`validFrameArrives` says, `entryFor` what `holdPlaced` says, and `cardAhead`, `sponsorAhead`, `closeFigures` and what they count
through what `captureAccepted` says. An equation `t = { s with … := t.… }` names
all that may differ from `s`. -/

open Sys2Proof Sys2Proof.Machine

/-! ## The whole machine -/

/-- A step takes the command at the front of the queue (log entry 25: the model's own order). -/
def Obligations.stepTakesFrontCommand : Prop :=
  ∀ (c : Instr) (rest : List Instr) (s : State),
    step { s with pending := c :: rest } = exec c { s with pending := rest }

/-- The state after reset is sound. -/
def Obligations.resetIsSound : Prop := State.reset.Sound

/-- Every step keeps the store's bytes and the purse, sponsor and hold tables in canonical form, and the capture ring within
256 entries (R67, R194). Every step keeps the deadline list in order of ticks remaining (R29, R30), a tick that comes while an entry
due now is still listed set aside (log entry 30: the model's choice); an entry joins an ordered list behind every entry with no more
ticks remaining and ahead of the rest (R31). -/
def Obligations.stepKeepsDataForms : Prop :=
  (∀ s t : State, s.memoryCanonical → s.tablesCanonical → s.ringBounded → step s = .next t →
    t.memoryCanonical ∧ t.tablesCanonical ∧ t.ringBounded) ∧
  (∀ s t : State, s.deadlineOrder → (s.pending.head? = some .tick → ∀ y ∈ s.deadlines.list, y.deadline ≠ s.now) →
    step s = .next t → t.deadlineOrder) ∧
  (∀ s : State, ∀ x : DeadlineEntry, s.deadlineOrder → ∃ front back, s.deadlines.list = front ++ back ∧
    insertDeadline s.now x s.deadlines.list = front ++ x :: back ∧
    (∀ y ∈ front, (y.deadline - s.now).toNat ≤ (x.deadline - s.now).toNat) ∧
    (∀ y ∈ back, (x.deadline - s.now).toNat < (y.deadline - s.now).toNat))

/-- Every step keeps the law of R171. -/
def Obligations.stepKeepsNoticeLaw : Prop :=
  ∀ s t : State, s.noticeLaw → step s = .next t → t.noticeLaw

/-- Every step keeps the hold count, and keeps CLOSE_WRITE free of holds (R35, R110). Every step but those that `State.ordinary`
sets aside (log entries 14, 35 and 38: the model's choices) keeps the laws of `State.lawful` together: the journal queue, its
numbers and bound, and what waits on it (R125 to R128); the free list, the hold lists and the deadline list (R26, R28, R30);
one CAPTURE record for each SETTLING hold (R24); the balances (R7); and cards in their own slots (R5, R12). But for the restore,
which takes what the store holds, it keeps every balance below its top (R7). In a lawful state every command answers a next
state. -/
def Obligations.stepKeepsDrainLaw : Prop :=
  (∀ s t : State, s.drainLaw → step s = .next t → t.drainLaw) ∧
  (∀ s t : State, s.lawful → s.ordinary → step s = .next t → t.lawful) ∧
  (∀ s t : State, s.lawful → s.ordinary → s.capLaw → (∀ answer, s.pending.head? ≠ some (.restoreImages answer)) →
    step s = .next t → t.capLaw) ∧
  (∀ (s : State) (c : Instr), s.lawful → ∃ t, exec c s = .next t)

/-- Every step keeps the slots of every Lane Unit in agreement (R153, R154, R156). -/
def Obligations.stepKeepsSlotLaw : Prop :=
  ∀ s t : State, s.slotLaw → step s = .next t → t.slotLaw

/-- No byte of the store changes outside the bytes of a write under way. -/
def Obligations.onlyWritesTouchStore : Prop :=
  ∀ (c : Instr) (s t : State) (a : Nat), exec c s = .next t → ¬ s.writeCovers a →
    readByte t.memory a = readByte s.memory a

/-- Only a power-on reset clears the config lock (R182). While the part is READY the period number changes only at
PERIOD_ADVANCE (R100); the premise on the port rules out states that no run reaches, a READY part whose port a format or a
restore still holds. -/
def Obligations.lockAndPeriodKept : Prop :=
  ∀ (c : Instr) (s t : State), exec c s = .next t →
    ((∀ cut, c ≠ .powerOnReset cut) → s.config.lock = true → t.config.lock = true) ∧
    (s.restore.part = .ready → (∀ p ∈ s.journal.port, p.op ≠ .formatHeader ∧ p.op ≠ .restoreImage) →
      c ≠ .periodAdvance → ¬ isReset c → t.period.number = s.period.number)

/-- Apart from resets, the restore, the end of a format, and the slots that a sponsor count takes or gives back, a card's cash
balance changes only at the durable events of records. -/
def Obligations.cashMovesAtDurability : Prop :=
  ∀ (c : Instr) (s t : State) (slot : Nat), s.tablesCanonical → ¬ s.movesCash c slot → exec c s = .next t →
    (t.engine.card slot).cashBalance = (s.engine.card slot).cashBalance

/-! ## Formats -/

/-- Every well-formed request reads back from its frame body as itself. -/
def Obligations.requestRoundTrip : Prop :=
  ∀ (i : Instr) (l : Lane) (k : RequestKind) (body : List Byte), i.wf → encodeRequest i = some (l, k, body) →
    decodeRequest l (kindCode k) body = some i

/-- Every record reads back from its ring unit as itself, and every image from its unit (R205). -/
def Obligations.unitsRoundTrip : Prop :=
  (∀ r : Record, r.fits → readRecord (ringSlot r.sequence) (recordUnit r) = some r) ∧
  (∀ (k : Nat) (i : Image), i.fits → readImage (imageUnit k i) = some i)

/-- Request frames and record and image units written out from the tables of R199 to R205 are what the model gives; the void
unit is never valid; a write is sent to the store as the commands of R207; a read gives the bytes the store holds, or all bits set
from a store that answers no command (R188). -/
def Obligations.formatsAsWritten : Prop :=
  decodeRequest 3 0x10 [0x01, 0x86, 0xCA, 0x00, 0x02, 0x8A, 0x02] = some (.hold 3 100042 650 2) ∧
  decodeRequest 0 0x31 [0x01, 0x01, 0x03, 0x0D, 0x40, 0x05, 0xDC, 0x01, 0xF4, 0xFF, 0x00, 0x00, 0x00] =
    some (.setRange 0 1 1 200000 1500 500 0xFF 0) ∧
  decodeRequest 2 0x11 [0x12, 0x05, 0x00, 0x01, 0xA4, 0x00] = some (.capture 2 4613 420 0) ∧
  decodeRequest 0 0x77 [] = none ∧ decodeRequest 0 0x10 [0x01] = none ∧
  (recordUnit ⟨8197, 5, 7, .fund ⟨3, 1500⟩ 500⟩).take 30 =
    [0x00, 0x00, 0x33, 0x40, 0x00, 0x00, 0x01, 0xC3, 0x00, 0x00, 0x3E, 0x80, 0x00, 0x17, 0x70] ++ List.replicate 15 0 ∧
  (imageUnit 4095 (.sponsor 1500 8197)).take 30 =
    [0x02, 0xFF, 0xF0, 0x00, 0x00, 0x2E, 0xE0, 0x00, 0x01, 0x00, 0x28] ++ List.replicate 19 0 ∧
  (∀ k, readRecord k voidUnit = none) ∧ readImage voidUnit = none ∧
  (⟨0x0457E0, [0xC3, 0x5A], 2, .stopped⟩ : StoreWrite).commands =
    [[0x06], [0x02, 0x04, 0x57, 0xE0, 0xC3, 0x5A], [0x05], [0x03, 0x04, 0x57, 0xE0]] ∧
  (∀ (m : Memory) (a n : Nat), Memory.wf m = true →
    readAnswer .asStored m a n = (List.range n).map fun i => readByte m (a + i)) ∧
  (∀ (m : Memory) (a n : Nat), readAnswer .silent m a n = List.replicate n 0xFF)

/-! ## Replies, intake and what a request meets before its own checks -/

/-- The request in the intake is the request frame of one lane, of its kind and its body, which is WITH_OWNER. An owner fills that
lane's reply slot: the request is REPLYING, the reply carries the frame's kind and tag, and nothing else changes (R153, R154). -/
def Obligations.ownerFillsReply : Prop :=
  (∀ (c : Instr) (s : State), s.Asks c → ∃ l k body f, encodeRequest c = some (l, k, body) ∧
    s.lanes[l].request = .withOwner f ∧ f.kind = kindCode k ∧ f.body = body ∧ s.arbiter.intake = some l) ∧
  (∀ (l : Lane) (r : Result) (body : List Byte) (s : State) (f : Frame), s.lanes[l].request = .withOwner f →
    fillReply l r body s = { s with
      lanes := s.lanes.set l { s.lanes[l] with
        request := .replying f, tx := s.lanes[l].tx ++ [.reply],
        reply := some { kind := f.kind, tag := f.tag, result := r, body := body } } })

/-- A frame meets the checks of R155 at its arrival: a kind byte that is none of the request kinds of R200 is BAD_REQUEST, a body
that has not the length of its kind BAD_LENGTH, whatever the lane; then its lane's role (R157) and its loss; what passes them has no
refusal. A kind that the role of a LOST lane does not allow is refused LANE_RECOVERING or NOT_PERMITTED, as the free value
`Config.lossRefusesFirst` says of its kind byte: R52, R162 and the second row of R165 name the one, R155, R157 and R190 the other
(log entry 34). That the kind and the length come first on a LOST lane too is the model's reading (log entry 40). Then, at its
owner, NOT_READY until the part is READY (R190), and LOCKED while the config lock is set (R182); a refused request changes
nothing. -/
def Obligations.requestsRefusedFirst : Prop :=
  (∀ kinds : List (RequestKind × Byte × Nat), kinds =
      [(.ping, 0x01, 0), (.pollNotice, 0x02, 0), (.balance, 0x03, 3), (.hold, 0x10, 7), (.capture, 0x11, 6),
       (.release, 0x12, 2), (.extend, 0x13, 2), (.reverse, 0x14, 4), (.openPurse, 0x20, 3), (.closePurse, 0x21, 3),
       (.block, 0x22, 3), (.unblock, 0x23, 3), (.topUp, 0x24, 6), (.withdraw, 0x25, 6), (.fundSponsor, 0x26, 5),
       (.readPurse, 0x27, 2), (.setLane, 0x30, 6), (.setRange, 0x31, 13), (.setSponsorCount, 0x32, 1),
       (.setCeiling, 0x33, 3), (.setLowMark, 0x34, 4), (.setSchedule, 0x35, 5), (.setDrainLimit, 0x36, 2),
       (.setRoute, 0x37, 2), (.saveConfig, 0x38, 0), (.lockConfig, 0x39, 0), (.readConfig, 0x3A, 1),
       (.closePeriod, 0x40, 0), (.setClock, 0x41, 3), (.readTotals, 0x42, 1), (.sync, 0x50, 0), (.readJournal, 0x51, 4),
       (.retryStore, 0x52, 0), (.formatStore, 0x53, 0), (.clearEvents, 0x60, 2), (.readEvents, 0x61, 0)] →
    (∀ k code length, (k, code, length) ∈ kinds →
      kindCode k = code ∧ kindOfCode code = some k ∧ bodyLength k = length) ∧
    ∀ (role : Role) (state : LaneState) (f : Frame),
      ((∀ x ∈ kinds, x.2.1 ≠ f.kind) → arrivalRefusal role state f = some .badRequest) ∧
      (∀ k length, (k, f.kind, length) ∈ kinds → f.body.length ≠ length →
        arrivalRefusal role state f = some .badLength)) ∧
  (∀ (state : LaneState) (f : Frame) (k : RequestKind) (office : List RequestKind),
    office = [.openPurse, .closePurse, .block, .unblock, .topUp, .withdraw, .fundSponsor, .readPurse, .setLane, .setRange,
        .setSponsorCount, .setCeiling, .setLowMark, .setSchedule, .setDrainLimit, .setRoute, .saveConfig, .lockConfig,
        .readConfig, .closePeriod, .setClock, .readTotals, .sync, .readJournal, .retryStore, .formatStore,
        .clearEvents, .readEvents] →
    kindOfCode f.kind = some k → f.body.length = bodyLength k →
    (k ∈ [.hold, .capture, .extend] → state ≠ .lost →
      arrivalRefusal .office state f = some .notPermitted ∧ arrivalRefusal .till state f = none) ∧
    (k ∈ office → state ≠ .lost →
      arrivalRefusal .till state f = some .notPermitted ∧ arrivalRefusal .office state f = none) ∧
    (k ∈ office → arrivalRefusal .till .lost f =
      some (if Config.lossRefusesFirst f.kind then .laneRecovering else .notPermitted)) ∧
    (k ∈ [.hold, .capture, .extend] → arrivalRefusal .office .lost f =
      some (if Config.lossRefusesFirst f.kind then .laneRecovering else .notPermitted)) ∧
    (k ∈ [.ping, .pollNotice, .balance] → arrivalRefusal .till state f = none ∧ arrivalRefusal .office state f = none) ∧
    (k ∈ [.release, .reverse] → state ≠ .lost →
      arrivalRefusal .till state f = none ∧ arrivalRefusal .office state f = none) ∧
    (k ∈ [.hold, .capture, .extend, .release, .reverse] → arrivalRefusal .till .lost f = some .laneRecovering)) ∧
  (∀ (c : Instr) (s : State) (l : Lane) (k : RequestKind) (body : List Byte), s.Asks c →
    encodeRequest c = some (l, k, body) → ¬ takenBeforeReady k → s.restore.part ≠ .ready →
    exec c s = .next (fillReply l .notReady [] s.taken)) ∧
  (∀ (c : Instr) (s : State) (l : Lane) (k : RequestKind) (body : List Byte), s.AsksReady c →
    encodeRequest c = some (l, k, body) → lockedKind k → s.config.lock = true →
    exec c s = .next (fillReply l .locked [] s.taken))

/-! ## Lanes -/

/-- What arrives on a receive line moves the receiver as R151 gives: a start mark begins a frame, a bad length byte, a missing
stop bit or a bad check is a link error, and 2 ms of silence end a frame or the discarding. The last byte sent empties its slot
and, for a reply, the request slot (R153, R154). Two points are the model's choice: FRAME_RECEIVED is the byte that completes a frame
(log entry 4), and the 2 ms run in RECEIVING from the start mark on (log entry 32). -/
def Obligations.linesMoveLaneUnit : Prop :=
  ∀ (l : Lane) (b : Byte) (s : State) (u : LaneUnit) (error : Receiver → State), s.restore.inReset = false →
    s.lanes[l] = u →
    (∀ next, error next =
      raiseFlag .linkErrors { s with lanes := s.lanes.set l { u with linkError := true, receiver := next } }) →
    (u.receiver = .hunt → b = 0xA5 →
      exec (.byteReceived l b true) s = .next { s with lanes := s.lanes.set l { u with receiver := .receiving [] } }) ∧
    (u.receiver = .hunt → b ≠ 0xA5 → exec (.byteReceived l b true) s = .next s) ∧
    (u.receiver = .receiving [] → 2 ≤ b.toNat → b.toNat ≤ 50 →
      exec (.byteReceived l b true) s = .next { s with lanes := s.lanes.set l { u with receiver := .receiving [b] } }) ∧
    (u.receiver = .receiving [] → (b.toNat < 2 ∨ 50 < b.toNat) →
      exec (.byteReceived l b true) s = .next (error .discarding)) ∧
    (∀ (n : Byte) (got : List Byte), u.receiver = .receiving (n :: got) → got.length < n.toNat + 1 →
      exec (.byteReceived l b true) s =
        .next { s with lanes := s.lanes.set l { u with receiver := .receiving (n :: got ++ [b]) } }) ∧
    (∀ (n kind tag c1 : Byte) (body : List Byte), u.receiver = .receiving (n :: kind :: tag :: body ++ [c1]) →
      n.toNat = body.length + 2 → checkBytes (kind :: tag :: body) ≠ [c1, b] →
      exec (.frameReceived l b) s = .next (error .hunt) ∧ exec (.byteReceived l b true) s = .next (error .hunt)) ∧
    (u.receiver ≠ .closed → exec (.byteReceived l b false) s = .next (error .discarding)) ∧
    (u.receiver = .discarding → exec (.byteReceived l b true) s = .next s) ∧
    (u.receiver = .closed → exec (.byteReceived l b true) s = .next s ∧ exec (.byteReceived l b false) s = .next s) ∧
    (∀ got, u.receiver = .receiving got → exec (.gapTimerExpiry l) s = .next (error .hunt)) ∧
    (u.receiver = .discarding →
      exec (.gapTimerExpiry l) s = .next { s with lanes := s.lanes.set l { u with receiver := .hunt } }) ∧
    (∀ rest, u.tx = .reply :: rest → exec (.frameSent l) s =
      .next { s with lanes := s.lanes.set l { u with reply := none, request := .empty, tx := rest } }) ∧
    (∀ rest, u.tx = .busy :: rest → exec (.frameSent l) s =
      .next { s with lanes := s.lanes.set l { u with busy := none, tx := rest } })

/-- A frame completes with a good check (R151, R154 to R156, R161; that FRAME_RECEIVED is the byte that completes it is the
model's choice, log entry 4): on an EMPTY request slot it is WAITING, or refused at
arrival; on an occupied one it is answered BUSY once, and else dropped. The lane state and the silence timer move with
it; no other lane and no other block changes. A silence timer starts in role TILL with a limit other than 0, and expires
10 ticks for each second of the limit from now (R162). -/
def Obligations.validFrameArrives : Prop :=
  (∀ (now : Tick) (c : LaneSettings), startSilence now c =
    if c.role = .till ∧ c.silenceLimit ≠ 0 then .running (now + BitVec.ofNat 32 (10 * c.silenceLimit)) else .stopped) ∧
  ∀ (l : Lane) (n kind tag c1 c2 : Byte) (body : List Byte) (s : State) (u : LaneUnit), s.restore.inReset = false →
    s.lanes[l] = u → u.receiver = .receiving (n :: kind :: tag :: body ++ [c1]) → n.toNat = body.length + 2 →
    checkBytes (kind :: tag :: body) = [c1, c2] →
    ∃ v : LaneUnit, exec (.frameReceived l c2) s = .next { s with lanes := s.lanes.set l v } ∧
      exec (.byteReceived l c2 true) s = exec (.frameReceived l c2) s ∧
      v.receiver = .hunt ∧ v.settings = u.settings ∧ v.linkError = u.linkError ∧ v.noticeAwaited = u.noticeAwaited ∧
      (u.state = .idle → v.state = .active ∧ v.silence = startSilence s.now u.settings) ∧
      (u.state = .active → v.state = .active ∧
        v.silence = if u.silence.isOn then startSilence s.now u.settings else u.silence) ∧
      (u.state = .lost → v.state = .lost ∧ v.silence = u.silence) ∧
      (u.request = .empty →
        (arrivalRefusal u.settings.role v.state ⟨kind, tag, body⟩ = none →
          v.request = .waiting ⟨kind, tag, body⟩ ∧ v.reply = u.reply ∧ v.busy = u.busy ∧ v.tx = u.tx) ∧
        (∀ r, arrivalRefusal u.settings.role v.state ⟨kind, tag, body⟩ = some r →
          v.request = .replying ⟨kind, tag, body⟩ ∧ v.reply = some ⟨kind, tag, r, []⟩ ∧ v.busy = u.busy ∧
            v.tx = u.tx ++ [.reply])) ∧
      (u.request ≠ .empty → v.request = u.request ∧ v.reply = u.reply ∧
        (u.busy = none → v.busy = some ⟨kind, tag, .busy, []⟩ ∧ v.tx = u.tx ++ [.busy]) ∧
        (u.busy ≠ none → v.busy = u.busy ∧ v.tx = u.tx))

/-- The arbiter grants the first WAITING slot in rising order from the lane after its pointer (R159). -/
def Obligations.grantOrderFair : Prop :=
  ∀ (s : State) (l : Lane) (f : Frame), s.nextGrant = some (l, f) ↔
    s.arbiter.intake = none ∧ s.lanes[l].request = .waiting f ∧
      ∀ k : Lane, (k - (s.arbiter.pointer + 1)).val < (l - (s.arbiter.pointer + 1)).val →
        s.lanes[k].request.waitingFrame = none

/-- A grant (R160): the pointer names the lane; a LOST lane's request is refused LANE_RECOVERING unless it is a PING,
POLL_NOTICE or BALANCE, and the intake stays free; a PING is answered in the event of its grant, in every lane state and part
state, and clears the lane's link-error mark (R166); any other request is WITH_OWNER and the intake in use. That the command PING is
its own grant is the model's choice (log entry 4). -/
def Obligations.grantHandsOn : Prop :=
  ∀ (s : State) (l : Lane) (f : Frame) (u : LaneUnit), s.restore.inReset = false → s.nextGrant = some (l, f) →
    s.lanes[l] = u →
    (u.state = .lost → kindOfCode f.kind ∉ [some .ping, some .pollNotice, some .balance] → kindOfCode f.kind ≠ none →
      exec .laneGrant s =
        .next { s with arbiter := { pointer := l, intake := none },
                       lanes := s.lanes.set l { u with request := .replying f, tx := u.tx ++ [.reply],
                                                       reply := some ⟨f.kind, f.tag, .laneRecovering, []⟩ } }) ∧
    (u.state ≠ .lost ∨ kindOfCode f.kind ∈ [some .pollNotice, some .balance] → kindOfCode f.kind ≠ some .ping →
      exec .laneGrant s =
        .next { s with arbiter := { pointer := l, intake := some l },
                       lanes := s.lanes.set l { u with request := .withOwner f } }) ∧
    (kindOfCode f.kind = some .ping → exec .laneGrant s = exec (.ping l) s ∧
      exec (.ping l) s =
        .next { s with
          arbiter := { pointer := l, intake := none },
          lanes := s.lanes.set l { u with
            request := .replying f, tx := u.tx ++ [.reply], linkError := false,
            reply := some ⟨f.kind, f.tag, .ok,
              beBytes 1 (partCode s.restore.part) ++ beBytes 1 (storeCode s.journal.store) ++
                beBytes 4 s.period.number ++ beBytes 1 (periodCode s.period.state) ++
                beBytes 1 (laneStateCode u.state) ++ beBytes 3 (clockField s.period.clock) ++
                beBytes 4 s.deadlines.tick.toNat ++ beBytes 1 (boolCode u.linkError)⟩ } })

/-- The silence timer of an ACTIVE lane expires (R163): the lane is LOST, its timer stopped, its notice awaited, the lane-lost
event on its way to the engine, and the flag set. -/
def Obligations.silenceLosesLane : Prop :=
  ∀ (l : Lane) (s : State) (e : Tick), s.restore.inReset = false → s.lanes[l].state = .active →
    s.lanes[l].silence = .due e →
    exec (.silenceTimerExpiry l) s =
      .next (raiseFlag .laneLost
        { s with
          lanes := s.lanes.set l { s.lanes[l] with state := .lost, silence := .stopped, noticeAwaited := true },
          engine := { s.engine with lostLanes := s.engine.lostLanes ++ [l] } })

/-- SET_LANE (R149, R150): refused, with nothing changed, for a value out of range (BAD_VALUE), where no OFFICE lane would remain
(LAST_OFFICE), and where the role of a lane with holds or with a request of its own would change (IN_USE), in that order. Else the
settings are written and the reply carries the values now held; a change to OFF empties the lane's notices, closes its receiver,
leaves a reply to be sent whole, and drops a BUSY answer, but for one that is being sent (log entry 28: the model's choice); a
change from OFF opens the receiver, a change to OFFICE stops the silence timer and ends LOST, and a change to TILL starts the timer
of an ACTIVE lane. -/
def Obligations.setLaneWrites : Prop :=
  (∀ (l : Lane) (named role life silence limit : Nat) (s : State),
    s.AsksReady (.setLane l named role life silence limit) → s.config.lock = false →
    (8 ≤ named ∨ 3 ≤ role ∨ life < 5 ∨ 600 < life ∨ silence = 1 ∨ 120 < silence ∨ limit = 0 ∨ 64 < limit) →
    exec (.setLane l named role life silence limit) s = .next (fillReply l .badValue [] s.taken)) ∧
  ∀ (l n : Lane) (role : Role) (life silence limit : Nat) (s : State) (u : LaneUnit) (c : LaneSettings)
      (office clear : Prop),
    s.AsksReady (.setLane l n.val (roleCode role) life silence limit) → s.config.lock = false →
    5 ≤ life → life ≤ 600 → (silence = 0 ∨ 2 ≤ silence ∧ silence ≤ 120) → 1 ≤ limit → limit ≤ 64 →
    (office ↔ ∃ k : Lane, (if k = n then role else s.role k) = .office) →
    (clear ↔ (role ≠ s.role n → s.engine.laneHolds[n] = [] ∧ (l = n ∨ s.lanes[n].request = .empty))) →
    s.lanes[n] = u → c = ⟨role, life, silence, limit⟩ →
    (¬ office → exec (.setLane l n.val (roleCode role) life silence limit) s =
      .next (fillReply l .lastOffice [] s.taken)) ∧
    (office → ¬ clear → exec (.setLane l n.val (roleCode role) life silence limit) s =
      .next (fillReply l .inUse [] s.taken)) ∧
    (office → clear →
      ∃ v : LaneUnit, exec (.setLane l n.val (roleCode role) life silence limit) s = .next (fillReply l .ok
          (beBytes 1 n.val ++
            (beBytes 1 (roleCode role) ++ beBytes 2 life ++ beBytes 1 silence ++ beBytes 1 limit))
          { s.taken with
            lanes := s.lanes.set n v,
            notices := { s.notices with
              lanes := if role = .off then s.notices.lanes.set n ⟨[], false, false⟩ else s.notices.lanes } }) ∧
        v.settings = c ∧ v.request = u.request ∧ v.reply = u.reply ∧ v.linkError = u.linkError ∧
        v.noticeAwaited = u.noticeAwaited ∧
        (role = u.settings.role → v = { u with
          settings := c,
          silence :=
            if silence ≠ u.settings.silenceLimit ∧ u.state = .active then startSilence s.now c else u.silence }) ∧
        (role = .off → u.settings.role ≠ .off → v.state = .idle ∧ v.silence = .stopped ∧ v.receiver = .closed ∧
          (u.tx.head? = some .busy → v.busy = u.busy ∧ v.tx = u.tx) ∧
          (u.tx.head? ≠ some .busy → v.busy = none ∧ v.tx = u.tx.filter fun x => x ≠ .busy)) ∧
        (role ≠ .off → u.settings.role = .off →
          v = { u with settings := c, state := .idle, receiver := .discarding }) ∧
        (role = .till → u.settings.role = .office → v = { u with
          settings := c, silence := if u.state = .active then startSilence s.now c else u.silence }) ∧
        (role = .office → u.settings.role = .till → v = { u with
          settings := c, silence := .stopped, state := if u.state = .lost then .active else u.state }))

/-! ## Notices and event flags -/

/-- POLL_NOTICE (R172): the head notice is removed and returned with the count left and the mark, the mark is cleared, and
the attention output follows the queue; the removal of the last LANE_LOST notice brings a LOST lane back to ACTIVE
(R164, R173). A notice is returned as 12 bytes: kind, handle, card number, count, event class and tick, 0 for a field its kind does
not use and all 0 where the queue is empty (R200, R203). -/
def Obligations.pollNoticeReturnsHead : Prop :=
  (∀ (l : Lane) (s : State) (u : LaneUnit) (q : NoticeLane) (back : Prop), s.Asks (.pollNotice l) → s.lanes[l] = u →
    s.notices.lanes[l] = q →
    (back ↔ (∃ count tick, q.queue.head? = some (.laneLost count tick)) ∧ q.queue.tail.any Notice.isLaneLost = false ∧
      u.state = .lost ∧ u.noticeAwaited = false) →
    ∃ v : LaneUnit, exec (.pollNotice l) s = .next (fillReply l .ok
        (noticeBytes q.queue.head? ++ beBytes 1 q.queue.tail.length ++ beBytes 1 (boolCode q.lost))
        { s.taken with
          lanes := s.lanes.set l v,
          notices := { s.notices with lanes := s.notices.lanes.set l ⟨q.queue.tail, false, !q.queue.tail.isEmpty⟩ } }) ∧
      (back → v = { u with state := .active, silence := startSilence s.now u.settings }) ∧ (¬ back → v = u)) ∧
  noticeBytes none = List.replicate 12 0 ∧
  (∀ h c t, noticeBytes (some (.holdExpired h c t)) = 0x01 :: (beBytes 2 h ++ beBytes 3 c ++ [0, 0] ++ beBytes 4 t.toNat)) ∧
  (∀ h c t, noticeBytes (some (.holdDrained h c t)) = 0x02 :: (beBytes 2 h ++ beBytes 3 c ++ [0, 0] ++ beBytes 4 t.toNat)) ∧
  (∀ h c t, noticeBytes (some (.holdEnded h c t)) = 0x03 :: (beBytes 2 h ++ beBytes 3 c ++ [0, 0] ++ beBytes 4 t.toNat)) ∧
  (∀ n t, noticeBytes (some (.laneLost n t)) = [0x04, 0, 0, 0, 0, 0] ++ beBytes 1 n ++ [0] ++ beBytes 4 t.toNat) ∧
  (∀ c t, noticeBytes (some (.event c t)) =
    [0x05, 0, 0, 0, 0, 0, 0] ++ beBytes 1 (classIndex c).val ++ beBytes 4 t.toNat)

/-- A flag raised is set whatever its route; only a change from clear to set places an EVENT notice, on the route's lane as it
stands (R175, R176). On a full queue (R169, R170) a hold or EVENT notice is dropped and the mark set; a LANE_LOST notice takes
the place of the newest notice that is none, or of the oldest. -/
def Obligations.noticesPlaced : Prop :=
  (∀ (c : EventClass) (s : State),
    (s.notices.flag c = true → raiseFlag c s = s) ∧
    (raiseFlag c s).notices.flag c = true ∧
    (∀ d, d ≠ c → (raiseFlag c s).notices.flag d = s.notices.flag d) ∧
    raiseFlag c s = { s with notices := { s.notices with
      flags := (raiseFlag c s).notices.flags, lanes := (raiseFlag c s).notices.lanes } } ∧
    (s.notices.flag c = false → s.notices.routes[classIndex c] = none →
      (raiseFlag c s).notices.lanes = s.notices.lanes) ∧
    (∀ l : Lane, s.notices.flag c = false → s.notices.routes[classIndex c] = some l →
      (raiseFlag c s).notices.lanes =
        if s.role l = .off then s.notices.lanes
        else s.notices.lanes.set l (s.notices.lanes[l].place (.event c s.now)))) ∧
  (∀ (n : Notice) (q : NoticeLane),
    (q.queue.length < 8 → q.place n = { q with queue := q.queue ++ [n], attention := true }) ∧
    (q.queue.length = 8 → n.isLaneLost = false → q.place n = { q with lost := true }) ∧
    (q.queue.length = 8 → n.isLaneLost = true →
      (q.queue.all Notice.isLaneLost = true → q.place n = { q with queue := q.queue.tail ++ [n], lost := true }) ∧
      (∀ front x back, q.queue = front ++ x :: back → x.isLaneLost = false → back.all Notice.isLaneLost = true →
        q.place n = { q with queue := front ++ back ++ [n], lost := true })))

/-! ## Configuration -/

/-- SET_CEILING, SET_LOW_MARK, SET_DRAIN_LIMIT, SET_CLOCK, SET_SCHEDULE and SET_ROUTE write their value (R96, R102, R103,
R106, R177), each refusing a value out of range; CLEAR_EVENTS clears the flags it names, and READ_EVENTS reads them (R178, R179). -/
def Obligations.settingsWritten : Prop :=
  ∀ (l : Lane) (s : State),
    (∀ a, s.AsksReady (.setCeiling l a) → s.config.lock = false →
      exec (.setCeiling l a) s = .next (if a ≤ 2000000 then
        fillReply l .ok (beBytes 3 a) { s.taken with config := { s.config with ceiling := a } }
        else fillReply l .badValue [] s.taken)) ∧
    (∀ a, s.AsksReady (.setLowMark l a) → s.config.lock = false →
      exec (.setLowMark l a) s = .next (if a ≤ 100000000 then
        fillReply l .ok (beBytes 4 a) { s.taken with config := { s.config with lowMark := a } }
        else fillReply l .badValue [] s.taken)) ∧
    (∀ a, s.AsksReady (.setDrainLimit l a) → s.config.lock = false →
      exec (.setDrainLimit l a) s = .next (if 10 ≤ a ∧ a ≤ 900 then
        fillReply l .ok (beBytes 2 a) { s.taken with period := { s.period with drainLimit := a } }
        else fillReply l .badValue [] s.taken)) ∧
    (∀ c, s.AsksReady (.setClock l c) →
      exec (.setClock l c) s = .next (if c ≤ 86399 then
        fillReply l .ok (beBytes 3 c)
          { s.taken with period := { s.period with clock := some c, clockTicks := 0, clockDue := 0 } }
        else fillReply l .badValue [] s.taken)) ∧
    (∀ (k : Fin 6) (on : Bool) (time : Nat), s.AsksReady (.setSchedule l k.val time (boolCode on)) →
      s.config.lock = false →
      exec (.setSchedule l k.val time (boolCode on)) s = .next (if time ≤ 86399 then
        fillReply l .ok (beBytes 1 k.val ++ (beBytes 3 time ++ beBytes 1 (boolCode on)))
          { s.taken with period := { s.period with schedule := s.period.schedule.set k.val ⟨time, on⟩ } }
        else fillReply l .badValue [] s.taken)) ∧
    (∀ entry time enable, s.AsksReady (.setSchedule l entry time enable) → s.config.lock = false →
      (6 ≤ entry ∨ 2 ≤ enable) →
      exec (.setSchedule l entry time enable) s = .next (fillReply l .badValue [] s.taken)) ∧
    (∀ (c : Fin 10) (r : Option Lane), s.AsksReady (.setRoute l c.val (routeField r)) → s.config.lock = false →
      exec (.setRoute l c.val (routeField r)) s = .next (fillReply l .ok (beBytes 1 c.val ++ beBytes 1 (routeField r))
        { s.taken with notices := { s.notices with routes := s.notices.routes.set c.val r } })) ∧
    (∀ c r, s.AsksReady (.setRoute l c r) → s.config.lock = false → (10 ≤ c ∨ 8 ≤ r ∧ r ≠ 0xFF) →
      exec (.setRoute l c r) s = .next (fillReply l .badValue [] s.taken)) ∧
    (∀ classes < 1024, s.AsksReady (.clearEvents l classes) →
      ∃ flags : BitVec 10, exec (.clearEvents l classes) s =
          .next (fillReply l .ok (beBytes 2 flags.toNat) { s.taken with notices := { s.notices with flags := flags } }) ∧
        ∀ c : Fin 10, flags.getLsbD c.val = (s.notices.flags.getLsbD c.val && !classes.testBit c.val)) ∧
    (∀ classes, 1024 ≤ classes → s.AsksReady (.clearEvents l classes) →
      exec (.clearEvents l classes) s = .next (fillReply l .badValue [] s.taken)) ∧
    (s.AsksReady (.readEvents l) →
      exec (.readEvents l) s = .next (fillReply l .ok (beBytes 2 s.notices.flags.toNat) s.taken))

/-- SAVE_CONFIG waits on the waiting save, LOCK_CONFIG sets the lock, READ_CONFIG answers in every part state (R183, R184,
R186), its five parts written out; the configuration block of the store is laid out from the same parts (R206). -/
def Obligations.configurationRequests : Prop :=
  (∀ (l : Lane) (s : State),
    (s.AsksReady (.saveConfig l) → s.journal.store = .ok →
      exec (.saveConfig l) s =
        .next { s.taken with journal := { s.journal with save := some (s.journal.save.getD [] ++ [l]) } }) ∧
    (s.AsksReady (.saveConfig l) → s.journal.store = .fault →
      exec (.saveConfig l) s = .next (fillReply l .storeFault [] s.taken)) ∧
    (s.AsksReady (.lockConfig l) →
      exec (.lockConfig l) s =
        .next (fillReply l .ok [] { s.taken with config := { s.config with lock := true } })) ∧
    (∀ part, 4 < part → s.Asks (.readConfig l part) →
      exec (.readConfig l part) s = .next (fillReply l .badValue [] s.taken))) ∧
  ∀ (c : WorkingConfig) (scalars lanes schedule low high routes : List Byte) (range : Fin 8 → List Byte),
    scalars = beBytes 1 c.sponsorCount ++ beBytes 3 c.ceiling ++ beBytes 4 c.lowMark ++ beBytes 2 c.drainLimit →
    lanes = ((List.finRange 8).flatMap fun i => beBytes 1 (roleCode c.lanes[i].role) ++
      beBytes 2 c.lanes[i].holdLifetime ++ beBytes 1 c.lanes[i].silenceLimit ++ beBytes 1 c.lanes[i].holdLimit) →
    schedule = ((List.finRange 6).flatMap fun i =>
      beBytes 3 c.schedule[i].time ++ beBytes 1 (boolCode c.schedule[i].enabled)) →
    (∀ k : Fin 8, range k = beBytes 3 c.ranges[k].firstCard ++ beBytes 2 c.ranges[k].slotEnd ++
      beBytes 2 c.ranges[k].grant ++
      beBytes 1 ((if c.ranges[k].enabled then 0x80 else 0) + c.ranges[k].sponsor.getD 0x7F) ++
      beBytes 3 c.ranges[k].limit) →
    low = range 0 ++ range 1 ++ range 2 ++ range 3 → high = range 4 ++ range 5 ++ range 6 ++ range 7 →
    routes = ((List.finRange 10).flatMap fun i => beBytes 1 (routeField c.routes[i])) →
    configBlock c = scalars ++ lanes ++ schedule ++ (low ++ high) ++ routes ∧
    ∀ (l : Lane) (s : State) (part : Nat) (bytes : List Byte), s.Asks (.readConfig l part) →
      c = ⟨s.engine.sponsorCount, s.config.ceiling, s.config.lowMark, s.period.drainLimit,
        s.lanes.map LaneUnit.settings, s.period.schedule, s.engine.ranges, s.notices.routes⟩ →
      (part = 0 ∧ bytes = scalars ++ beBytes 1 (boolCode s.config.lock) ++ beBytes 1 (sourceCode s.config.source) ++
          beBytes 1 (partCode s.restore.part) ++ beBytes 1 (findingCode s.restore.finding) ++ routes ∨
        part = 1 ∧ bytes = lanes ∨ part = 2 ∧ bytes = schedule ∨ part = 3 ∧ bytes = low ∨ part = 4 ∧ bytes = high) →
      exec (.readConfig l part) s = .next (fillReply l .ok (beBytes 1 part ++ bytes) s.taken)

/-! ## Purses and the range map -/

/-- The lazy refresh (R8): an OPEN or BLOCKED purse of another period takes the grant of the entry its card maps to and
nothing spent; a FREE purse and a purse of the current period are left as they are. No other purse changes. The grant of a card
in the run of an enabled entry is that entry's, of any other card 0. -/
def Obligations.refreshBringsPurseIntoPeriod : Prop :=
  ∀ (slot : Nat) (s : State), s.tablesCanonical →
    ((s.engine.card slot).state ≠ .free → (s.engine.card slot).allowancePeriod ≠ s.period.number →
      (refresh slot s).engine.card slot =
        { s.engine.card slot with
          allowanceRemaining := grantOf s.engine.ranges (s.engine.card slot).cardNumber, allowanceHeld := 0,
          spent := 0, allowancePeriod := s.period.number }) ∧
    ((s.engine.card slot).state = .free ∨ (s.engine.card slot).allowancePeriod = s.period.number →
      refresh slot s = s) ∧
    (refresh slot s = { s with engine := { s.engine with cards := (refresh slot s).engine.cards } }) ∧
    (∀ k, k ≠ slot → (refresh slot s).engine.card k = s.engine.card k) ∧
    ∀ (m : Vector RangeEntry 8) (card : Nat) (runs : Fin 8 → Prop), cardsApart m = true →
      (∀ k, runs k ↔ m[k].enabled = true ∧ m[k].firstCard ≤ card ∧
        card < m[k].firstCard + (m[k].slotEnd - spanStart m k)) →
      (∀ k, runs k → grantOf m card = m[k].grant) ∧ ((∀ k, ¬ runs k) → grantOf m card = 0)

/-- The map (R11): a card in the run of an enabled entry has the slot at its own place in that entry's span, under a map whose
enabled entries share no card (R15), and no other card has a slot; a span starts at the slot end of the nearest enabled entry below,
or at 0. The checks of R14 and R15 on a map are as those rules word them, and the lookup of R13 finds a purse that is OPEN or BLOCKED
and holds the card number. -/
def Obligations.mapPlacesCards : Prop :=
  ∀ (m : Vector RangeEntry 8) (card : Nat),
    (∀ slot, slotOf m card = some slot → ∃ k : Fin 8, m[k].enabled = true ∧ m[k].firstCard ≤ card ∧
      slot = spanStart m k + (card - m[k].firstCard) ∧ slot < m[k].slotEnd) ∧
    (∀ i j : Fin 8, cardsApart m = true → mapsTo m card i = true → mapsTo m card j = true → i = j) ∧
    (∀ k : Fin 8, cardsApart m = true → m[k].enabled = true → m[k].firstCard ≤ card →
      card < m[k].firstCard + (m[k].slotEnd - spanStart m k) →
      slotOf m card = some (spanStart m k + (card - m[k].firstCard))) ∧
    (∀ k : Nat, (∀ j : Fin 8, j.val < k → m[j].enabled = false) → spanStart m k = 0) ∧
    (∀ (k : Nat) (j : Fin 8), j.val < k → m[j].enabled = true →
      (∀ i : Fin 8, j < i → i.val < k → m[i].enabled = false) → spanStart m k = m[j].slotEnd) ∧
    (∀ k : Fin 8, lastCardOk m k = true ↔ (m[k].enabled = true → spanStart m k < m[k].slotEnd →
      m[k].firstCard + (m[k].slotEnd - spanStart m k) - 1 ≤ 16777215)) ∧
    (slotEndsInOrder m = true ↔ ∀ i j : Fin 8, i < j → m[i].enabled = true → m[j].enabled = true →
      m[i].slotEnd ≤ m[j].slotEnd) ∧
    (∀ n, clearOfSponsors m n = true ↔ ∀ k : Fin 8, m[k].enabled = true → m[k].slotEnd ≤ 4096 - n) ∧
    (cardsApart m = true ↔ ∀ i j : Fin 8, i ≠ j → m[i].enabled = true → m[j].enabled = true →
      spanStart m i < m[i].slotEnd → spanStart m j < m[j].slotEnd →
      m[i].firstCard + (m[i].slotEnd - spanStart m i) ≤ m[j].firstCard ∨
        m[j].firstCard + (m[j].slotEnd - spanStart m j) ≤ m[i].firstCard) ∧
    (∀ (e : Engine) (slot : Nat), lookup e card = some slot ↔ slotOf e.ranges card = some slot ∧
      slot + e.sponsorCount < 4096 ∧ (e.card slot).state ≠ .free ∧ (e.card slot).cardNumber = card)

/-- BALANCE and READ_PURSE answer the purse as it stands after its refresh (R21, R95), the hold list of a card purse as its count and
four handles, 0 after the last (R200); READ_TOTALS answers the parts, each from the totals it names (R121, R200). Nothing else
changes. -/
def Obligations.readsAnswer : Prop :=
  ∀ (l : Lane) (s : State),
    (∀ card slot p, s.AsksReady (.balance l card) → lookup s.engine card = some slot →
      p = (refresh slot s).engine.card slot →
      exec (.balance l card) s = .next (fillReply l .ok
        (beBytes 1 (purseCode p.state) ++ beBytes 3 p.cashBalance ++
          beBytes 3 (p.cashBalance - p.cashHeld - p.cashOutgoing) ++
          beBytes 2 (p.allowanceRemaining - p.allowanceHeld) ++ beBytes 4 p.spent) (refresh slot s.taken))) ∧
    (∀ card, s.AsksReady (.balance l card) → lookup s.engine card = none →
      exec (.balance l card) s = .next (fillReply l .noCard [] s.taken)) ∧
    (∀ slot p, s.AsksReady (.readPurse l slot) → slot + s.engine.sponsorCount < 4096 →
      p = (refresh slot s).engine.card slot →
      exec (.readPurse l slot) s = .next (fillReply l .ok
        (beBytes 1 1 ++ beBytes 1 (purseCode p.state) ++ beBytes 3 p.cardNumber ++ beBytes 3 p.cashBalance ++
          beBytes 3 p.cashHeld ++ beBytes 3 p.cashOutgoing ++ beBytes 3 p.topUpPending ++
          beBytes 2 p.allowanceRemaining ++ beBytes 2 p.allowanceHeld ++ beBytes 4 p.allowancePeriod ++
          beBytes 4 p.spent ++ (beBytes 1 p.holdList.length ++ (beBytes 2 (p.holdList.getD 0 0) ++
            beBytes 2 (p.holdList.getD 1 0) ++ beBytes 2 (p.holdList.getD 2 0) ++ beBytes 2 (p.holdList.getD 3 0))) ++
          beBytes 1 p.pendingRecords ++ beBytes 1 (boolCode p.closeQueued)) (refresh slot s.taken))) ∧
    (∀ n, s.AsksReady (.readPurse l (4095 - n)) → n < s.engine.sponsorCount → n < 4096 →
      exec (.readPurse l (4095 - n)) s = .next (fillReply l .ok
        (beBytes 1 2 ++ beBytes 1 n ++ beBytes 4 (s.engine.sponsor n).balance ++ beBytes 4 (s.engine.sponsor n).held ++
          beBytes 1 (s.engine.sponsor n).pendingRecords) s.taken)) ∧
    (∀ slot, s.AsksReady (.readPurse l slot) → 4095 < slot →
      exec (.readPurse l slot) s = .next (fillReply l .badValue [] s.taken)) ∧
    (∀ part n mark t, s.AsksReady (.readTotals l part) →
      (part = 0 ∧ n = s.period.number ∧ mark = s.engine.partialMark ∧ t = s.engine.totals ∨
        part = 2 ∧ n = s.engine.closed.period ∧ mark = s.engine.closed.partialMark ∧ t = s.engine.closed.totals) →
      exec (.readTotals l part) s = .next (fillReply l .ok
        (beBytes 4 n ++ beBytes 1 (periodCode s.period.state) ++ beBytes 1 (boolCode mark) ++
          beBytes 4 t.captureCount ++ beBytes 4 t.capturedCash ++ beBytes 4 t.capturedAllowance ++
          beBytes 4 t.reversedCash ++ beBytes 4 t.reversedAllowance ++ beBytes 4 t.topUps ++
          beBytes 4 t.withdrawals ++ beBytes 4 t.funding) s.taken)) ∧
    (∀ part n t, s.AsksReady (.readTotals l part) →
      (part = 1 ∧ n = s.period.number ∧ t = s.engine.totals ∨
        part = 3 ∧ n = s.engine.closed.period ∧ t = s.engine.closed.totals) →
      exec (.readTotals l part) s = .next (fillReply l .ok
        (beBytes 4 n ++ beBytes 1 (periodCode s.period.state) ++ t.lanes.toList.flatMap (beBytes 4)) s.taken)) ∧
    (∀ part, 3 < part → s.AsksReady (.readTotals l part) →
      exec (.readTotals l part) s = .next (fillReply l .badValue [] s.taken))

/-- SET_RANGE (R14 to R17): refused, with nothing changed, for a value out of range or a sponsor not below the sponsor count
(BAD_VALUE), then for slot ends out of order (BAD_ORDER), a slot end in the sponsor region (OVERLAP), entries that share a card
(CARDS_OVERLAP), and a card purse in use that would no longer sit where its card maps (IN_USE), in that order; else it writes the
entry whole and changes nothing else. -/
def Obligations.setRangeWrites : Prop :=
  (∀ (l : Lane) (entry enabled first slotEnd grant sponsor limit : Nat) (s : State),
    s.AsksReady (.setRange l entry enabled first slotEnd grant sponsor limit) → s.config.lock = false →
    (8 ≤ entry ∨ 2 ≤ enabled ∨ first = 0 ∨ 16777215 < first ∨ 4096 < slotEnd ∨ 10000 < grant ∨ 100000 < limit ∨
      sponsor ≠ 0xFF ∧ (64 ≤ sponsor ∨ s.engine.sponsorCount ≤ sponsor)) →
    exec (.setRange l entry enabled first slotEnd grant sponsor limit) s =
      .next (fillReply l .badValue [] s.taken)) ∧
  ∀ (l : Lane) (k : Fin 8) (x old : RangeEntry) (s : State) (m : Vector RangeEntry 8) (refused : Result → Prop)
      (clear : Prop),
    s.AsksReady (.setRange l k.val (boolCode x.enabled) x.firstCard x.slotEnd x.grant (sponsorField x.sponsor) x.limit) →
    s.config.lock = false → m = s.engine.ranges.set k.val x → old = s.engine.ranges[k] →
    1 ≤ x.firstCard → x.firstCard ≤ 16777215 → x.slotEnd ≤ 4096 → x.grant ≤ 10000 → x.limit ≤ 100000 →
    (∀ n ∈ x.sponsor, n < s.engine.sponsorCount ∧ n < 64) →
    (∀ r, refused r ↔
      exec (.setRange l k.val (boolCode x.enabled) x.firstCard x.slotEnd x.grant (sponsorField x.sponsor) x.limit) s =
        .next (fillReply l r [] s.taken)) →
    (clear ↔ x.enabled = old.enabled ∧ x.firstCard = old.firstCard ∧ x.slotEnd = old.slotEnd ∨
      ∀ slot p, (slot, p) ∈ s.engine.cards → slot + s.engine.sponsorCount < 4096 →
        (p.state ≠ .free ∨ p.pendingRecords ≠ 0) → slotOf m p.cardNumber = some slot) →
    (lastCardOk m k = false → refused .badValue) ∧
    (lastCardOk m k = true → slotEndsInOrder m = false → refused .badOrder) ∧
    (lastCardOk m k = true → slotEndsInOrder m = true →
      (clearOfSponsors m s.engine.sponsorCount = false → refused .overlap) ∧
      (clearOfSponsors m s.engine.sponsorCount = true →
        (cardsApart m = false → refused .cardsOverlap) ∧
        (cardsApart m = true → ¬ clear → refused .inUse) ∧
        (cardsApart m = true → clear →
          exec (.setRange l k.val (boolCode x.enabled) x.firstCard x.slotEnd x.grant (sponsorField x.sponsor) x.limit)
              s =
            .next (fillReply l .ok
              (beBytes 1 k.val ++ beBytes 2 (if x.enabled then spanStart m k else 0) ++
                beBytes 2 (if x.enabled then spanSize m k else 0))
              { s.taken with engine := { s.engine with ranges := m } }))))

/-- SET_SPONSOR_COUNT (R18 to R20): refused, with nothing changed, above 64 (BAD_VALUE), where an enabled entry would reach into the
sponsor region (OVERLAP), and where a sponsor it drops is in use (IN_USE). Else the slots that join or leave the sponsor region hold
sponsor purses at balance 0 or FREE card purses, with all amounts at 0 and the card number the slot last held (R2), and no other slot
changes. -/
def Obligations.setSponsorCountWrites : Prop :=
  ∀ (l : Lane) (n : Nat) (s : State) (uses : Nat → Prop), s.AsksReady (.setSponsorCount l n) → s.config.lock = false →
    (∀ k, uses k ↔ 0 < (s.engine.sponsor k).balance ∨ 0 < (s.engine.sponsor k).held ∨
      0 < (s.engine.sponsor k).pendingRecords ∨
      (∃ i : Fin 8, s.engine.ranges[i].enabled = true ∧ s.engine.ranges[i].sponsor = some k) ∨
      ∃ j h, (j, h) ∈ s.engine.holds ∧ h.state ≠ .free ∧ h.sponsor = some k) →
    (64 < n → exec (.setSponsorCount l n) s = .next (fillReply l .badValue [] s.taken)) ∧
    (n ≤ 64 → clearOfSponsors s.engine.ranges n = false →
      exec (.setSponsorCount l n) s = .next (fillReply l .overlap [] s.taken)) ∧
    (n ≤ 64 → clearOfSponsors s.engine.ranges n = true → (∃ k, n ≤ k ∧ k < s.engine.sponsorCount ∧ uses k) →
      exec (.setSponsorCount l n) s = .next (fillReply l .inUse [] s.taken)) ∧
    (n ≤ 64 → s.engine.sponsorCount ≤ 64 → clearOfSponsors s.engine.ranges n = true →
      (∀ k, n ≤ k → k < s.engine.sponsorCount → ¬ uses k) →
      ∃ e : Engine,
        exec (.setSponsorCount l n) s = .next (fillReply l .ok (beBytes 1 n) { s.taken with engine := e }) ∧
        e = { s.engine with sponsorCount := n, cards := e.cards, sponsors := e.sponsors } ∧
        (∀ k, s.engine.sponsorCount ≤ k → k < n → e.sponsor k = SponsorPurse.zero) ∧
        (s.tablesCanonical → ∀ k, n ≤ k → k < s.engine.sponsorCount → e.card (4095 - k) =
          { CardPurse.free with cardNumber := (s.engine.card (4095 - k)).cardNumber }) ∧
        (∀ k, k < min n s.engine.sponsorCount ∨ max n s.engine.sponsorCount ≤ k → e.sponsor k = s.engine.sponsor k) ∧
        (∀ slot, slot + max n s.engine.sponsorCount < 4096 ∨ 4096 ≤ slot + min n s.engine.sponsorCount →
          e.card slot = s.engine.card slot))

/-! ## Holds -/

/-- HOLD that passes every check (R36 to R41): the slot at the head of the free list takes the hold with its shares,
allowance first, the purse and the sponsor hold them, the deadline is now and the lane's hold lifetime, and the lane is told. The
entry of a card is the enabled one in whose run it lies (R11). -/
def Obligations.holdPlaced : Prop :=
  (∀ (e : Engine) (card : Nat) (k : Fin 8), cardsApart e.ranges = true → e.ranges[k].enabled = true →
    e.ranges[k].firstCard ≤ card → card < e.ranges[k].firstCard + (e.ranges[k].slotEnd - spanStart e.ranges k) →
    e.entryFor card = e.ranges[k]) ∧
  ∀ (l : Lane) (card amount parts slot k : Nat) (rest : List Nat) (s : State) (p : CardPurse) (x : RangeEntry)
      (a h : Nat) (d : Tick),
    s.AsksReady (.hold l card amount parts) → s.tablesCanonical → s.lanes[l].state ≠ .lost → s.journal.store = .ok →
    s.period.state = .opened → 1 ≤ amount → amount ≤ 100000 → 1 ≤ parts → parts ≤ 15 →
    lookup s.engine card = some slot → (s.engine.card slot).state ≠ .blocked →
    (s.engine.card slot).closeQueued = false → p = (refresh slot s).engine.card slot →
    x = s.engine.entryFor p.cardNumber → p.holdList.length < 4 →
    s.engine.laneHolds[l].length < s.lanes[l].settings.holdLimit →
    a = min (min amount (p.allowanceRemaining - p.allowanceHeld))
      ((x.sponsor.map fun n => (s.engine.sponsor n).balance - (s.engine.sponsor n).held).getD amount) →
    amount - a ≤ p.cashBalance - p.cashHeld - p.cashOutgoing →
    (x.limit = 0 ∨ p.spent + p.cashHeld + p.allowanceHeld + amount ≤ x.limit) → s.engine.freeList = k :: rest →
    h = ((s.engine.hold k).generation + 1) % 128 * 512 + k → d = s.now + BitVec.ofNat 32 (10 * s.lanes[l].settings.holdLifetime) →
    ∃ e : Engine, exec (.hold l card amount parts) s = .next (fillReply l .ok
        (beBytes 2 h ++ beBytes 2 a ++ beBytes 3 (amount - a) ++ beBytes 4 d.toNat)
        { s.taken with
          engine := e, period := { s.period with holdCount := 512 - rest.length },
          deadlines := { s.deadlines with list := insertDeadline s.now ⟨d, h⟩ s.deadlines.list } }) ∧
      e = { s.engine with
        cards := e.cards, sponsors := e.sponsors, holds := e.holds, freeList := rest,
        laneHolds := s.engine.laneHolds.set l (s.engine.laneHolds[l] ++ [h]) } ∧
      e.hold k =
        { generation := ((s.engine.hold k).generation + 1) % 128, state := .live, lane := l, cardSlot := slot,
          sponsor := x.sponsor, allowanceShare := a, cashShare := amount - a, partsRemaining := parts,
          capturedSoFar := 0, deadline := d, extensionsUsed := 0, period := s.period.number, endMark := .unmarked,
          deadlinePassed := false, endReason := (s.engine.hold k).endReason, lastReceipt := none } ∧
      (∀ j, j ≠ k → e.hold j = s.engine.hold j) ∧
      e.card slot =
        { p with cashHeld := p.cashHeld + (amount - a), allowanceHeld := p.allowanceHeld + a,
                 holdList := p.holdList ++ [h] } ∧
      (∀ j, j ≠ slot → e.card j = s.engine.card j) ∧
      (∀ n, x.sponsor = some n →
        e.sponsor n = { s.engine.sponsor n with held := (s.engine.sponsor n).held + a }) ∧
      (∀ n, x.sponsor ≠ some n → e.sponsor n = s.engine.sponsor n)

/-- The refusals of HOLD (R36 to R40) and of CAPTURE (R54, R55), in their order, the first that holds giving the reply. A HOLD refused
before its purse is found changes nothing; one refused for a capacity, its shares or its limit leaves the purse refreshed (R37).
INSUFFICIENT carries the total available, OVER_LIMIT the room left. A refused CAPTURE changes nothing; HOLD_GONE carries the slot's
end reason and last receipt, OVER_HOLD the two shares. -/
def Obligations.holdAndCaptureRefusals : Prop :=
  (∀ (l : Lane) (card amount parts : Nat) (s : State) (refused : Result → List Byte → State → Prop),
    s.AsksReady (.hold l card amount parts) →
    (∀ r body u, refused r body u ↔ exec (.hold l card amount parts) s = .next (fillReply l r body u)) →
    (s.lanes[l].state = .lost → refused .laneRecovering [] s.taken) ∧
    (s.lanes[l].state ≠ .lost → s.journal.store = .fault → refused .storeFault [] s.taken) ∧
    (s.lanes[l].state ≠ .lost → s.journal.store = .ok → s.period.state ≠ .opened →
      refused .periodClosing [] s.taken) ∧
    (s.lanes[l].state ≠ .lost → s.journal.store = .ok → s.period.state = .opened →
      (amount = 0 ∨ 100000 < amount → refused .badAmount [] s.taken) ∧
      (1 ≤ amount → amount ≤ 100000 →
        (parts = 0 ∨ 15 < parts → refused .badValue [] s.taken) ∧
        (1 ≤ parts → parts ≤ 15 →
          (lookup s.engine card = none → refused .noCard [] s.taken) ∧
          (∀ slot, lookup s.engine card = some slot →
            ((s.engine.card slot).state = .blocked ∨ (s.engine.card slot).closeQueued = true →
              refused .blocked [] s.taken) ∧
            (∀ p x a cash counted, (s.engine.card slot).state ≠ .blocked → (s.engine.card slot).closeQueued = false →
              p = (refresh slot s).engine.card slot → x = s.engine.entryFor p.cardNumber →
              a = min (min amount (p.allowanceRemaining - p.allowanceHeld))
                ((x.sponsor.map fun n => (s.engine.sponsor n).balance - (s.engine.sponsor n).held).getD amount) →
              cash = p.cashBalance - p.cashHeld - p.cashOutgoing →
              counted = p.spent + p.cashHeld + p.allowanceHeld →
              (4 ≤ p.holdList.length → refused .purseHoldsFull [] (refresh slot s.taken)) ∧
              (p.holdList.length < 4 → s.lanes[l].settings.holdLimit ≤ s.engine.laneHolds[l].length →
                refused .laneHoldsFull [] (refresh slot s.taken)) ∧
              (p.holdList.length < 4 → s.engine.laneHolds[l].length < s.lanes[l].settings.holdLimit →
                (cash < amount - a → refused .insufficient (beBytes 3 (a + cash)) (refresh slot s.taken)) ∧
                (amount - a ≤ cash → x.limit ≠ 0 → x.limit < counted + amount →
                  refused .overLimit (beBytes 3 (x.limit - counted)) (refresh slot s.taken))))))))) ∧
  (∀ (l : Lane) (handle amount final : Nat) (s : State) (refused : Result → List Byte → Prop),
    s.AsksReady (.capture l handle amount final) →
    (∀ r body, refused r body ↔ exec (.capture l handle amount final) s = .next (fillReply l r body s.taken)) →
    (s.lanes[l].state = .lost → refused .laneRecovering []) ∧
    (s.lanes[l].state ≠ .lost → (amount = 0 ∨ 100000 < amount) → refused .badAmount []) ∧
    (s.lanes[l].state ≠ .lost → 1 ≤ amount → amount ≤ 100000 → 2 ≤ final → refused .badValue [])) ∧
  (∀ (l : Lane) (handle amount : Nat) (final : Bool) (s : State) (h : Hold),
    s.AsksReady (.capture l handle amount (boolCode final)) → s.lanes[l].state ≠ .lost → 1 ≤ amount →
    amount ≤ 100000 → h = s.engine.hold (handle % 512) →
    (h.generation ≠ handle / 512 →
      exec (.capture l handle amount (boolCode final)) s =
        .next (fillReply l .holdGone (beBytes 1 0 ++ beBytes 4 0) s.taken)) ∧
    (h.generation = handle / 512 → h.state = .free →
      exec (.capture l handle amount (boolCode final)) s =
        .next (fillReply l .holdGone
          (beBytes 1 (endReasonCode h.endReason) ++ beBytes 4 (receiptField h.lastReceipt)) s.taken)) ∧
    (h.generation = handle / 512 → h.state = .settling →
      exec (.capture l handle amount (boolCode final)) s = .next (fillReply l .holdBusy [] s.taken)) ∧
    (h.generation = handle / 512 → h.state = .live → h.lane ≠ l →
      exec (.capture l handle amount (boolCode final)) s = .next (fillReply l .notOwner [] s.taken)) ∧
    (h.generation = handle / 512 → h.state = .live → h.lane = l → h.allowanceShare + h.cashShare < amount →
      exec (.capture l handle amount (boolCode final)) s =
        .next (fillReply l .overHold (beBytes 2 h.allowanceShare ++ beBytes 3 h.cashShare) s.taken)) ∧
    (h.generation = handle / 512 → h.state = .live → h.lane = l → amount ≤ h.allowanceShare + h.cashShare →
      s.journal.store = .fault →
      exec (.capture l handle amount (boolCode final)) s = .next (fillReply l .storeFault [] s.taken)))

/-- A hold ends (R33): its slot is FREE with the reason and joins the tail of the free list, its shares leave the held amounts
of its card and its sponsor, its handle leaves every list, and no other purse or hold changes. Then the count is reported (step 7),
which in FREEZING with no hold left completes the drain: the PERIOD_CLOSE record is queued or, with the store in FAULT, the close
fails and CLOSE_FAILED is raised (R110 to R112, `State.Reports`); and last (step 8) the hold's lane gets the notice of R34, in every
period state: HOLD_EXPIRED, HOLD_ENDED for an office release, HOLD_DRAINED, and none for CAPTURED, RELEASED and LANE_LOST. -/
def Obligations.holdEnds : Prop :=
  ∀ (k : Nat) (reason : EndReason) (s t : State) (h : Hold) (p : CardPurse) (handle : Nat), s.tablesCanonical →
    h = s.engine.hold k → p = (refresh h.cardSlot s).engine.card h.cardSlot → handle = h.generation * 512 + k →
    t = endHold k reason s →
    t = { s with engine := t.engine, deadlines := t.deadlines, period := t.period, journal := t.journal,
                 notices := t.notices } ∧
    t.engine = { s.engine with
      cards := t.engine.cards, sponsors := t.engine.sponsors, holds := t.engine.holds,
      freeList := s.engine.freeList ++ [k],
      laneHolds := s.engine.laneHolds.set h.lane (s.engine.laneHolds[h.lane].erase handle) } ∧
    t.engine.hold k =
      { h with state := .free, endReason := reason, allowanceShare := 0, cashShare := 0, endMark := .unmarked,
               deadlinePassed := false } ∧
    (∀ j, j ≠ k → t.engine.hold j = s.engine.hold j) ∧
    t.engine.card h.cardSlot =
      { p with cashHeld := p.cashHeld - h.cashShare, allowanceHeld := p.allowanceHeld - h.allowanceShare,
               holdList := p.holdList.erase handle } ∧
    (∀ j, j ≠ h.cardSlot → t.engine.card j = s.engine.card j) ∧
    (∀ n, h.sponsor = some n →
      t.engine.sponsor n = { s.engine.sponsor n with held := (s.engine.sponsor n).held - h.allowanceShare }) ∧
    (∀ n, h.sponsor ≠ some n → t.engine.sponsor n = s.engine.sponsor n) ∧
    t.deadlines = { s.deadlines with list := s.deadlines.list.filter fun y => y.handle ≠ handle } ∧
    ∃ reported : NoticeUnit, s.Reports t.engine.openHolds t.period t.journal reported ∧
      (reason = .expired → t.notices = s.tells h.lane (.holdExpired handle p.cardNumber s.now) reported) ∧
      (reason = .officeReleased → t.notices = s.tells h.lane (.holdEnded handle p.cardNumber s.now) reported) ∧
      (reason = .drained → t.notices = s.tells h.lane (.holdDrained handle p.cardNumber s.now) reported) ∧
      (reason ∈ [.captured, .released, .laneLost] → t.notices = reported)

/-- RELEASE of a LIVE hold by its till or the office (R43, R44): it ends RELEASED or OFFICE_RELEASED, and the reply carries
what was released. EXTEND of a LIVE hold of the lane (R46, R47): a fresh deadline from now, one extension more, the deadline-list
entry moved; the shares and every other hold stay. Refused, with nothing changed: both from a LOST lane and on a handle that is stale
or ended (HOLD_GONE with end reason and last receipt), a RELEASE of a SETTLING hold (HOLD_BUSY) or of another lane's (NOT_OWNER), an
EXTEND of another lane's hold, of a SETTLING one, while a close runs, and past the third extension, in that order. -/
def Obligations.releaseAndExtend : Prop :=
  (∀ (l : Lane) (handle : Nat) (s : State) (h : Hold), s.lanes[l].state ≠ .lost → h = s.engine.hold (handle % 512) →
    h.generation = handle / 512 → h.state = .live →
    (s.AsksReady (.release l handle) → (s.role l = .office ∨ h.lane = l) →
      exec (.release l handle) s = .next (fillReply l .ok
        (beBytes 2 handle ++ beBytes 2 h.allowanceShare ++ beBytes 3 h.cashShare ++ beBytes 3 h.capturedSoFar)
        (endHold (handle % 512) (if s.role l = .office then .officeReleased else .released) s.taken))) ∧
    (∀ d, s.AsksReady (.extend l handle) → s.tablesCanonical → h.lane = l → s.period.state = .opened →
      h.extensionsUsed < 3 → d = s.now + BitVec.ofNat 32 (10 * s.lanes[l].settings.holdLifetime) →
      ∃ e : Engine, exec (.extend l handle) s = .next (fillReply l .ok
          (beBytes 2 handle ++ beBytes 4 d.toNat ++ beBytes 1 (2 - h.extensionsUsed))
          { s.taken with
            engine := e,
            deadlines := { s.deadlines with list := (insertDeadline s.now ⟨d, handle⟩
              (s.deadlines.list.filter fun y => y.handle ≠ handle)) } }) ∧
        e = { s.engine with cards := (refresh h.cardSlot s).engine.cards, holds := e.holds } ∧
        e.hold (handle % 512) = { h with deadline := d, extensionsUsed := h.extensionsUsed + 1 } ∧
        (∀ j, j ≠ handle % 512 → e.hold j = s.engine.hold j))) ∧
  (∀ (c : Instr) (l : Lane) (handle : Nat) (s : State) (h : Hold) (refused : Result → List Byte → Prop),
    s.AsksReady c → (c = .release l handle ∨ c = .extend l handle) → h = s.engine.hold (handle % 512) →
    (∀ r body, refused r body ↔ exec c s = .next (fillReply l r body s.taken)) →
    (s.lanes[l].state = .lost → refused .laneRecovering []) ∧
    (s.lanes[l].state ≠ .lost →
      (h.generation ≠ handle / 512 → refused .holdGone (beBytes 1 0 ++ beBytes 4 0)) ∧
      (h.generation = handle / 512 → h.state = .free →
        refused .holdGone (beBytes 1 (endReasonCode h.endReason) ++ beBytes 4 (receiptField h.lastReceipt))) ∧
      (h.generation = handle / 512 → c = .release l handle →
        (h.state = .settling → refused .holdBusy []) ∧
        (h.state = .live → s.role l ≠ .office → h.lane ≠ l → refused .notOwner [])) ∧
      (h.generation = handle / 512 → c = .extend l handle → h.state ≠ .free →
        (h.lane ≠ l → refused .notOwner []) ∧
        (h.lane = l → h.state = .settling → refused .holdBusy []) ∧
        (h.lane = l → h.state = .live → s.period.state ≠ .opened → refused .periodClosing []) ∧
        (h.lane = l → h.state = .live → s.period.state = .opened → 3 ≤ h.extensionsUsed →
          refused .extendLimit []))))

/-- The tick (R29, R32, R101, R114, R123, R162): the count rises by 1, returning to 0 after its top, an expiry event is raised for
each entry whose deadline it reaches, in list order, the entries staying in the list, and the tenth tick of a set clock makes an
advance due. That a timer which runs to the new count falls due, its expiry a command of its own, is the model's choice (log entry
13). -/
def Obligations.tickCountsAndRaises : Prop :=
  (∀ now e : Tick, (Timer.running e).reach now = (if e = now then .due e else .running e) ∧
    (Timer.due e).reach now = .due e ∧ Timer.stopped.reach now = .stopped) ∧
  ∀ (s : State) (now : Tick), s.restore.inReset = false → now = s.deadlines.tick + 1 →
    ∃ p : PeriodControl, exec .tick s = .next { s with
      deadlines := { s.deadlines with tick := now },
      engine := { s.engine with
        expiries := (s.engine.expiries ++
          ((s.deadlines.list.filter fun x => x.deadline = now).map fun x => (x.handle, x.deadline))) },
      lanes := s.lanes.map fun u => { u with silence := u.silence.reach now },
      journal := { s.journal with
        port := s.journal.port.map fun q =>
          { q with write := q.write.map fun w => { w with timer := w.timer.reach now } } },
      period := p } ∧
    p = { s.period with drainTimer := s.period.drainTimer.reach now, clockTicks := p.clockTicks, clockDue := p.clockDue } ∧
    (s.period.clock = none → p.clockTicks = s.period.clockTicks ∧ p.clockDue = s.period.clockDue) ∧
    (∀ c, s.period.clock = some c → s.period.clockTicks < 9 →
      p.clockTicks = s.period.clockTicks + 1 ∧ p.clockDue = s.period.clockDue) ∧
    (∀ c, s.period.clock = some c → 9 ≤ s.period.clockTicks →
      p.clockTicks = 0 ∧ p.clockDue = s.period.clockDue + 1)

/-- An expiry event (R48, R49): a LIVE hold with the event's deadline ends EXPIRED; a SETTLING one is marked and leaves the
deadline list; for any other hold the event is discarded. A lane-lost event (R50, R51): every LIVE hold of the lane's list ends
LANE_LOST, every SETTLING one with no end mark gets it, and the lane's own queue gets the LANE_LOST notice with the count of the
ended, whatever the queue held, unless the lane is OFF. Over a list without a handle twice (R28) the walk is `State.Walks`: the slots
join the free list in its order, the shares return, and no other hold changes; where it ends a hold the count is reported
(`State.Reports`), and the LANE_LOST notice is the last placed. -/
def Obligations.holdsEndUnasked : Prop :=
  (∀ (handle : Nat) (d : Tick) (rest : List (Nat × Tick)) (s u : State) (h : Hold), s.restore.inReset = false →
    s.engine.expiries = (handle, d) :: rest → u = { s with engine := { s.engine with expiries := rest } } →
    h = s.engine.hold (handle % 512) →
    (h.generation = handle / 512 → h.state = .live → h.deadline = d →
      exec (.holdExpiryEvent handle d) s = .next (endHold (handle % 512) .expired u)) ∧
    (s.tablesCanonical → h.generation = handle / 512 → h.state = .settling → h.deadline = d →
      h.deadlinePassed = false →
      ∃ e : Engine, exec (.holdExpiryEvent handle d) s = .next { s with
          engine := e,
          deadlines := { s.deadlines with list := s.deadlines.list.filter fun y => y.handle ≠ handle } } ∧
        e = { s.engine with expiries := rest, cards := (refresh h.cardSlot s).engine.cards, holds := e.holds } ∧
        e.hold (handle % 512) = { h with deadlinePassed := true } ∧
        (∀ j, j ≠ handle % 512 → e.hold j = s.engine.hold j)) ∧
    (h.generation ≠ handle / 512 ∨ h.state = .free ∨ h.deadline ≠ d ∨ h.state = .settling ∧ h.deadlinePassed = true →
      exec (.holdExpiryEvent handle d) s = .next u)) ∧
  (∀ (l : Lane) (s : State), s.restore.inReset = false → s.tablesCanonical → l ∈ s.engine.lostLanes →
    ∃ t : State, exec (.laneLostEvent l) s = .next t ∧
      t = { s with engine := t.engine, deadlines := t.deadlines, period := t.period, journal := t.journal,
                   notices := t.notices, lanes := s.lanes.set l { s.lanes[l] with noticeAwaited := false } } ∧
      t.engine = { s.engine with
        lostLanes := s.engine.lostLanes.erase l, cards := t.engine.cards, sponsors := t.engine.sponsors,
        holds := t.engine.holds, freeList := t.engine.freeList, laneHolds := t.engine.laneHolds } ∧
      (∀ handle ∈ s.engine.laneHolds[l], s.engine.resolve handle = .live →
        (t.engine.hold (handle % 512)).state = .free ∧ (t.engine.hold (handle % 512)).endReason = .laneLost) ∧
      (∀ handle ∈ s.engine.laneHolds[l], s.engine.resolve handle = .settling →
        t.engine.hold (handle % 512) = { s.engine.hold (handle % 512) with
          endMark := if (s.engine.hold (handle % 512)).endMark = .unmarked then .laneLost
            else (s.engine.hold (handle % 512)).endMark }) ∧
      (s.role l ≠ .off → t.notices.lanes[l].queue.getLast? =
        some (.laneLost (s.engine.laneHolds[l].filter fun h => s.engine.resolve h = .live).length s.now)) ∧
      (∀ ended : List Nat, s.engine.laneHolds[l].Nodup →
        ended = s.engine.laneHolds[l].filter (fun h => s.engine.resolve h = .live) →
        s.Walks s.engine.laneHolds[l] .laneLost .laneLost t ∧
        ∃ reported : NoticeUnit,
          (ended = [] → t.period = s.period ∧ t.journal = s.journal ∧ reported = s.notices) ∧
          (ended ≠ [] → s.Reports t.engine.openHolds t.period t.journal reported) ∧
          t.notices = s.tells l (.laneLost ended.length s.now) reported))

/-! ## Captures and reversals -/

/-- CAPTURE accepted (R56, R57): the split takes allowance first, the record carries the purse as every earlier queued record
and itself will leave it (which records count as queued: log entry 10), the hold is SETTLING, and no balance, held amount or reply
moves. The earlier queued records are the durable ones whose event the engine has not taken, then those of the queue not yet durable;
with none the card, the balance and the figures of a close are those that stand, and each one more moves them by its own effect at
durability (R57, R111). -/
def Obligations.captureAccepted : Prop :=
  (∀ (s : State) (slot n : Nat) (t : Totals),
    (s.engine.journalEvents = [] → s.earlierRecords =
      (s.journal.queue.filter fun q => s.journal.lastDurable < q.record.sequence).map QueueEntry.record) ∧
    (∀ r o rest u, s.engine.journalEvents = .durable r o :: rest →
      u = { s with engine := { s.engine with journalEvents := rest } } →
      s.untakenRecords = r :: u.untakenRecords ∧ s.earlierRecords = r :: u.earlierRecords) ∧
    (∀ r o rest u, s.engine.journalEvents = .abandoned r o :: rest →
      u = { s with engine := { s.engine with journalEvents := rest } } →
      s.untakenRecords = u.untakenRecords ∧ s.earlierRecords = u.earlierRecords) ∧
    s.cardAhead slot = cardThrough s.earlierRecords slot (s.engine.card slot).after ∧
    (∀ p : CardPurse, p.after =
      ⟨p.state, p.cardNumber, p.cashBalance, p.allowanceRemaining, p.allowancePeriod, p.spent⟩) ∧
    s.sponsorAhead n = sponsorThrough s.earlierRecords n (s.engine.sponsor n).balance ∧
    (t = s.earlierRecords.foldl Totals.add s.engine.totals → s.closeFigures =
      ⟨t.captureCount, t.capturedCash, t.capturedAllowance, t.reversedCash, t.reversedAllowance, s.engine.partialMark⟩)) ∧
  (∀ (records : List Record) (r : Record) (slot n b balance : Nat) (c d : CardAfter) (t : Totals),
    d = cardThrough records slot c → b = sponsorThrough records n balance →
    cardThrough [] slot c = c ∧ sponsorThrough [] n balance = balance ∧
    ∀ (after : Record → CardAfter) (left : Record → Nat), (∀ x, after x = cardThrough (records ++ [x]) slot c) →
      (∀ x, left x = sponsorThrough (records ++ [x]) n balance) →
      (r.body.cardSlot ≠ some slot → after r = d) ∧ (r.body.sponsor ≠ some n → left r = b) ∧
      (∀ a sp ap cp, r.body = .capture slot a sp ap cp →
        after r = { d with
          cashBalance := d.cashBalance - cp, allowanceRemaining := d.allowanceRemaining - ap,
          spent := min 4294967295 (d.spent + (ap + cp)) } ∧
        (sp.map SponsorAfter.sponsor = some n → left r = b - ap) ∧
        t.add r = { t with
          captureCount := min 4294967295 (t.captureCount + 1), capturedCash := min 4294967295 (t.capturedCash + cp),
          capturedAllowance := min 4294967295 (t.capturedAllowance + ap),
          lanes := t.lanes.set r.lane (min 4294967295 (t.lanes[r.lane] + (ap + cp))) }) ∧
      (∀ a sp ap cp q back, r.body = .reversal slot a sp ap cp q back →
        after r = { d with
          cashBalance := d.cashBalance + cp,
          allowanceRemaining := if back then d.allowanceRemaining + ap else d.allowanceRemaining,
          spent := if back then d.spent - (ap + cp) else d.spent } ∧
        (sp.map SponsorAfter.sponsor = some n → left r = b + ap) ∧
        t.add r = { t with
          reversedCash := min 4294967295 (t.reversedCash + cp),
          reversedAllowance := min 4294967295 (t.reversedAllowance + ap) }) ∧
      (∀ a amount, r.body = .topUp slot a amount → after r = { d with cashBalance := d.cashBalance + amount } ∧
        t.add r = { t with topUps := min 4294967295 (t.topUps + amount) }) ∧
      (∀ a amount, r.body = .withdraw slot a amount → after r = { d with cashBalance := d.cashBalance - amount } ∧
        t.add r = { t with withdrawals := min 4294967295 (t.withdrawals + amount) }) ∧
      (∀ kind a, r.body = .change kind slot a → t.add r = t ∧ (kind = .openPurse → after r = a) ∧
        (kind = .closePurse →
          after r = { d with state := .free, cashBalance := 0, allowanceRemaining := 0, spent := 0 }) ∧
        (kind = .block → after r = { d with state := .blocked }) ∧
        (kind = .unblock → after r = { d with state := .opened })) ∧
      (∀ a amount, r.body = .fund a amount → (a.sponsor = n → left r = b + amount) ∧
        t.add r = { t with funding := min 4294967295 (t.funding + amount) }) ∧
      (∀ origin clock f, r.body = .periodClose origin clock f → t.add r = t)) ∧
  ∀ (l : Lane) (handle amount : Nat) (final : Bool) (s s' : State) (h : Hold) (ap cp : Nat) (c : CardAfter),
    s.AsksReady (.capture l handle amount (boolCode final)) → s.tablesCanonical → s.lanes[l].state ≠ .lost →
    1 ≤ amount → amount ≤ 100000 → h = s.engine.hold (handle % 512) → h.generation = handle / 512 →
    h.state = .live → h.lane = l → amount ≤ h.allowanceShare + h.cashShare → s.journal.store = .ok →
    s' = refresh h.cardSlot s → ap = min amount h.allowanceShare → cp = amount - ap → c = s'.cardAhead h.cardSlot →
    ∃ e : Engine, exec (.capture l handle amount (boolCode final)) s = .next { s.taken with
        engine := e,
        journal := { s.journal with
          nextSeq := s.journal.nextSeq + 1,
          queue := (s.journal.queue ++
            [{ record :=
                { sequence := s.journal.nextSeq, lane := l, period := s.period.number,
                  body := .capture h.cardSlot
                    { c with cashBalance := c.cashBalance - cp, allowanceRemaining := c.allowanceRemaining - ap,
                             spent := min 4294967295 (c.spent + amount) }
                    (h.sponsor.map fun n => { sponsor := n, balance := s'.sponsorAhead n - ap }) ap cp },
               owner := .capture l handle final, writing := false }]) } } ∧
      e = { s.engine with cards := e.cards, sponsors := e.sponsors, holds := e.holds } ∧
      e.hold (handle % 512) = { h with state := .settling } ∧
      (∀ j, j ≠ handle % 512 → e.hold j = s.engine.hold j) ∧
      e.card h.cardSlot = { s'.engine.card h.cardSlot with
        pendingRecords := (s'.engine.card h.cardSlot).pendingRecords + 1 } ∧
      (∀ j, j ≠ h.cardSlot → e.card j = s.engine.card j) ∧
      (∀ n, h.sponsor = some n → e.sponsor n =
        { s.engine.sponsor n with pendingRecords := (s.engine.sponsor n).pendingRecords + 1 }) ∧
      (∀ n, h.sponsor ≠ some n → e.sponsor n = s.engine.sponsor n)

/-- The durable event of a CAPTURE record (R59 to R63, R67, R120). The card and a named sponsor pay, held amounts and balances
falling together; the ring and the totals take the capture, and the hold is charged. A capture that finishes its hold ends it
CAPTURED; any other lets the hold's marks act, and with none it is LIVE with what is left. A charged sponsor below the low mark
raises SPONSOR_LOW (R97), and the lane gets its receipt and the hold's outcome. That totals and ring stand before the hold ends is
the model's choice (log entry 29). -/
def Obligations.captureDurableCharges : Prop :=
  ∀ (s : State) (r : Record) (l : Lane) (handle slot ap cp k : Nat) (c : CardAfter) (sp : Option SponsorAfter)
      (final : Bool) (h : Hold) (p : CardPurse) (finished low : Prop) (ring : List RingEntry) (totals : Totals),
    s.Hands (.durable r (.capture l handle final)) → s.tablesCanonical → r.body = .capture slot c sp ap cp →
    k = handle % 512 → p = (refresh slot s).engine.card slot → h = s.engine.hold k →
    (finished ↔ final = true ∨ h.partsRemaining ≤ 1 ∨ h.allowanceShare ≤ ap ∧ h.cashShare ≤ cp) →
    (low ↔ ∃ a, sp = some a ∧ 0 < ap ∧ (s.engine.sponsor a.sponsor).balance - ap < s.config.lowMark) →
    ring = (if 256 ≤ s.engine.ring.length then s.engine.ring.tail else s.engine.ring) ++
      [{ receipt := r.sequence, lane := r.lane, cardSlot := slot, cardNumber := c.cardNumber,
         sponsor := sp.map SponsorAfter.sponsor, allowancePart := ap, cashPart := cp, period := h.period,
         reversal := .notReversed, closedMark := false }] →
    totals = { s.engine.totals with
      captureCount := min 4294967295 (s.engine.totals.captureCount + 1),
      capturedCash := min 4294967295 (s.engine.totals.capturedCash + cp),
      capturedAllowance := min 4294967295 (s.engine.totals.capturedAllowance + ap),
      lanes := s.engine.totals.lanes.set r.lane (min 4294967295 (s.engine.totals.lanes[r.lane] + (ap + cp))) } →
    ∃ (u v w : State) (outcome : List Byte),
      exec (.captureDurable r.sequence) s =
        .next (fillReply l .ok (beBytes 4 r.sequence ++ beBytes 2 ap ++ beBytes 3 cp ++ outcome) w) ∧
      (low → w = raiseFlag .sponsorLow v) ∧ (¬ low → w = v) ∧
      (finished → v = endHold k .captured u ∧ outcome = endedOutcome .captured) ∧
      (¬ finished → Settles k u v outcome) ∧
      u = { s with engine := { s.engine with
        journalEvents := s.engine.journalEvents.tail, cards := u.engine.cards, sponsors := u.engine.sponsors,
        holds := u.engine.holds, totals := totals, ring := ring } } ∧
      u.engine.card slot =
        { p with
          allowanceRemaining := p.allowanceRemaining - ap, allowanceHeld := p.allowanceHeld - ap,
          cashBalance := p.cashBalance - cp, cashHeld := p.cashHeld - cp,
          spent := min 4294967295 (p.spent + (ap + cp)), pendingRecords := p.pendingRecords - 1 } ∧
      (∀ j, j ≠ slot → u.engine.card j = s.engine.card j) ∧
      (∀ a, sp = some a → u.engine.sponsor a.sponsor =
        { balance := (s.engine.sponsor a.sponsor).balance - ap, held := (s.engine.sponsor a.sponsor).held - ap,
          pendingRecords := (s.engine.sponsor a.sponsor).pendingRecords - 1 }) ∧
      (∀ n, sp.map SponsorAfter.sponsor ≠ some n → u.engine.sponsor n = s.engine.sponsor n) ∧
      u.engine.hold k =
        { h with
          allowanceShare := h.allowanceShare - ap, cashShare := h.cashShare - cp,
          partsRemaining := h.partsRemaining - 1, capturedSoFar := h.capturedSoFar + (ap + cp),
          lastReceipt := some r.sequence } ∧
      (∀ j, j ≠ k → u.engine.hold j = s.engine.hold j)

/-- REVERSE accepted (R70 to R76): the ring entry is PENDING, a REVERSAL record is queued with its decision and the after-states,
the pending counts rise, and no balance, total or reply moves. Its refusals follow in their order: LOST lane, CLOSE_WRITE, a
receipt the ring does not hold, an entry DONE or PENDING, another lane's or another period's from a till, a purse closed since, a
sponsor gone with allowance charged, a balance past its top, the store in FAULT. Which records count as queued is log entry 10;
that a REVERSE refused after the refresh of R73 leaves the purse as it was before (R70) is the model's reading, log entry 21. -/
def Obligations.reverseAccepted : Prop :=
  (∀ (l : Lane) (receipt : Nat) (s s' : State) (x : RingEntry) (sponsor : Option Nat) (c : CardAfter) (back : Bool),
    s.AsksReady (.reverse l receipt) → s.tablesCanonical → s.lanes[l].state ≠ .lost → s.period.state ≠ .closeWrite →
    s.engine.ring.find? (fun y => y.receipt = receipt) = some x → x.reversal = .notReversed →
    (s.role l = .till → x.lane = l ∧ x.period = s.period.number) → x.closedMark = false →
    x.cardSlot + s.engine.sponsorCount < 4096 → (s.engine.card x.cardSlot).state ≠ .free →
    (s.engine.card x.cardSlot).cardNumber = x.cardNumber → (s.engine.card x.cardSlot).closeQueued = false →
    sponsor = x.sponsor.filter (fun n => n < s.engine.sponsorCount) → (x.sponsor ≠ sponsor → x.allowancePart = 0) →
    s' = refresh x.cardSlot s → c = s'.cardAhead x.cardSlot →
    back = decide (x.period = (s'.engine.card x.cardSlot).allowancePeriod) → c.cashBalance + x.cashPart ≤ 2000000 →
    (∀ n ∈ sponsor, s'.sponsorAhead n + x.allowancePart ≤ 100000000) → s.journal.store = .ok →
    ∃ e : Engine, exec (.reverse l receipt) s = .next { s.taken with
        engine := e,
        journal := { s.journal with
          nextSeq := s.journal.nextSeq + 1,
          queue := (s.journal.queue ++
            [{ record :=
                { sequence := s.journal.nextSeq, lane := l, period := s.period.number,
                  body := .reversal x.cardSlot
                    { c with
                      cashBalance := c.cashBalance + x.cashPart,
                      allowanceRemaining :=
                        if back then c.allowanceRemaining + x.allowancePart else c.allowanceRemaining,
                      spent := if back then c.spent - (x.allowancePart + x.cashPart) else c.spent }
                    (sponsor.map fun n => { sponsor := n, balance := s'.sponsorAhead n + x.allowancePart })
                    x.allowancePart x.cashPart receipt back },
               owner := .reversal l receipt, writing := false }]) } } ∧
      e = { s.engine with
        cards := e.cards, sponsors := e.sponsors,
        ring := s.engine.ring.map fun y => if y.receipt = receipt then { y with reversal := .queued } else y } ∧
      e.card x.cardSlot = { s'.engine.card x.cardSlot with
        pendingRecords := (s'.engine.card x.cardSlot).pendingRecords + 1 } ∧
      (∀ j, j ≠ x.cardSlot → e.card j = s.engine.card j) ∧
      (∀ n, sponsor = some n → e.sponsor n =
        { s.engine.sponsor n with pendingRecords := (s.engine.sponsor n).pendingRecords + 1 }) ∧
      (∀ n, sponsor ≠ some n → e.sponsor n = s.engine.sponsor n)) ∧
  (∀ (l : Lane) (receipt : Nat) (s : State) (refused : Result → State → Prop), s.AsksReady (.reverse l receipt) →
    (∀ r u, refused r u ↔ exec (.reverse l receipt) s = .next (fillReply l r [] u)) →
    (s.lanes[l].state = .lost → refused .laneRecovering s.taken) ∧
    (s.lanes[l].state ≠ .lost → s.period.state = .closeWrite → refused .periodClosing s.taken) ∧
    (s.lanes[l].state ≠ .lost → s.period.state ≠ .closeWrite →
      ((∀ y ∈ s.engine.ring, y.receipt ≠ receipt) → refused .notFound s.taken) ∧
      (∀ x p, s.engine.ring.find? (fun y => y.receipt = receipt) = some x → p = s.engine.card x.cardSlot →
        (x.reversal = .done → refused .alreadyReversed s.taken) ∧
        (x.reversal = .queued → refused .reversalPending s.taken) ∧
        (x.reversal = .notReversed →
          (s.role l = .till → x.lane ≠ l → refused .notPermitted s.taken) ∧
          (s.role l = .till → x.lane = l → x.period ≠ s.period.number → refused .tooLate s.taken) ∧
          ((s.role l = .till → x.lane = l ∧ x.period = s.period.number) →
            (x.closedMark = true ∨ 4096 ≤ x.cardSlot + s.engine.sponsorCount ∨ p.state = .free ∨
              p.cardNumber ≠ x.cardNumber ∨ p.closeQueued = true → refused .purseClosed s.taken) ∧
            (∀ u, x.closedMark = false → x.cardSlot + s.engine.sponsorCount < 4096 → p.state ≠ .free →
              p.cardNumber = x.cardNumber → p.closeQueued = false → u = refresh x.cardSlot s →
              (∀ n, x.sponsor = some n → s.engine.sponsorCount ≤ n → 0 < x.allowancePart →
                refused .purseClosed s.taken) ∧
              (∀ sponsor within, sponsor = x.sponsor.filter (fun n => n < s.engine.sponsorCount) →
                (x.sponsor ≠ sponsor → x.allowancePart = 0) →
                (within ↔ (u.cardAhead x.cardSlot).cashBalance + x.cashPart ≤ 2000000 ∧
                  ∀ n ∈ sponsor, u.sponsorAhead n + x.allowancePart ≤ 100000000) →
                (¬ within → refused .ceiling s.taken) ∧
                (within → s.journal.store = .fault → refused .storeFault s.taken))))))))

/-- The durable event of a REVERSAL record (R77): the cash part goes back to the card, the allowance part to a named sponsor, and to
the card where the record says it takes it back; the ring entry is DONE, the totals rise, the lane is told. -/
def Obligations.reversalDurableGivesBack : Prop :=
  ∀ (s : State) (r : Record) (l : Lane) (receipt slot ap cp q : Nat) (c : CardAfter) (sp : Option SponsorAfter)
      (back : Bool) (p : CardPurse),
    s.Hands (.durable r (.reversal l receipt)) → s.tablesCanonical → r.body = .reversal slot c sp ap cp q back →
    p = (refresh slot s).engine.card slot →
    ∃ e : Engine, exec (.reversalDurable r.sequence) s = .next (fillReply l .ok
        (beBytes 4 r.sequence ++ beBytes 4 receipt ++ beBytes 3 cp ++ beBytes 2 (if sp.isSome then ap else 0) ++
          beBytes 2 (if back then ap else 0)) { s with engine := e }) ∧
      e = { s.engine with
        journalEvents := s.engine.journalEvents.tail, cards := e.cards, sponsors := e.sponsors,
        ring := s.engine.ring.map fun y => if y.receipt = receipt then { y with reversal := .done } else y,
        totals := { s.engine.totals with
          reversedCash := min 4294967295 (s.engine.totals.reversedCash + cp),
          reversedAllowance := min 4294967295 (s.engine.totals.reversedAllowance + ap) } } ∧
      e.card slot =
        { p with
          cashBalance := p.cashBalance + cp,
          allowanceRemaining := if back then p.allowanceRemaining + ap else p.allowanceRemaining,
          spent := if back then p.spent - (ap + cp) else p.spent, pendingRecords := p.pendingRecords - 1 } ∧
      (∀ j, j ≠ slot → e.card j = s.engine.card j) ∧
      (∀ a, sp = some a → e.sponsor a.sponsor =
        { s.engine.sponsor a.sponsor with
          balance := (s.engine.sponsor a.sponsor).balance + ap,
          pendingRecords := (s.engine.sponsor a.sponsor).pendingRecords - 1 }) ∧
      (∀ n, sp.map SponsorAfter.sponsor ≠ some n → e.sponsor n = s.engine.sponsor n)

/-- Abandoned events (R64, R78, R81, R90, R92): the record's pending counts and reservation fall away and nothing else of any purse
moves; the marks of a CAPTURE's hold act, and with none it is LIVE as it was; a REVERSAL's ring entry is free to be reversed again;
the lane is answered STORE_FAULT. -/
def Obligations.recordsAbandoned : Prop :=
  ∀ (s : State) (r : Record) (l : Lane) (slot : Nat) (dropped : CardPurse → CardPurse) (e0 : Engine),
    s.tablesCanonical → (∀ p, dropped p = { p with pendingRecords := p.pendingRecords - 1 }) →
    e0 = { s.engine with journalEvents := s.engine.journalEvents.tail } →
    (∀ handle final c sp ap cp, s.Hands (.abandoned r (.capture l handle final)) →
      r.body = .capture slot c sp ap cp →
      ∃ (u v : State) (outcome : List Byte),
        exec (.captureAbandoned r.sequence) s = .next (fillReply l .storeFault outcome v) ∧
        Settles (handle % 512) u v outcome ∧
        u = { s with engine := { e0 with cards := u.engine.cards, sponsors := u.engine.sponsors } } ∧
        u.engine.card slot = dropped (s.engine.card slot) ∧ (∀ j, j ≠ slot → u.engine.card j = s.engine.card j) ∧
        (∀ a, sp = some a → u.engine.sponsor a.sponsor = { s.engine.sponsor a.sponsor with
          pendingRecords := (s.engine.sponsor a.sponsor).pendingRecords - 1 }) ∧
        (∀ n, sp.map SponsorAfter.sponsor ≠ some n → u.engine.sponsor n = s.engine.sponsor n)) ∧
    (∀ receipt c sp ap cp q back, s.Hands (.abandoned r (.reversal l receipt)) →
      r.body = .reversal slot c sp ap cp q back →
      ∃ e : Engine, exec (.reversalAbandoned r.sequence) s = .next (fillReply l .storeFault [] { s with engine := e }) ∧
        e = { e0 with
          cards := e.cards, sponsors := e.sponsors,
          ring := s.engine.ring.map fun y => if y.receipt = receipt then { y with reversal := .notReversed } else y } ∧
        e.card slot = dropped (s.engine.card slot) ∧ (∀ j, j ≠ slot → e.card j = s.engine.card j) ∧
        (∀ a, sp = some a → e.sponsor a.sponsor = { s.engine.sponsor a.sponsor with
          pendingRecords := (s.engine.sponsor a.sponsor).pendingRecords - 1 }) ∧
        (∀ n, sp.map SponsorAfter.sponsor ≠ some n → e.sponsor n = s.engine.sponsor n)) ∧
    (∀ c amount kind, s.Hands (.abandoned r (.request l)) →
      (r.body = .topUp slot c amount ∨ r.body = .withdraw slot c amount ∨ r.body = .change kind slot c) →
      ∃ e : Engine, exec (.officeRecordAbandoned r.sequence) s =
          .next (fillReply l .storeFault [] { s with engine := e }) ∧
        e = { e0 with cards := e.cards } ∧ (∀ j, j ≠ slot → e.card j = s.engine.card j) ∧
        (r.body = .topUp slot c amount → e.card slot = { dropped (s.engine.card slot) with
          topUpPending := (s.engine.card slot).topUpPending - amount }) ∧
        (r.body = .withdraw slot c amount → e.card slot = { dropped (s.engine.card slot) with
          cashOutgoing := (s.engine.card slot).cashOutgoing - amount }) ∧
        (r.body = .change .closePurse slot c → e.card slot = { dropped (s.engine.card slot) with closeQueued := false }) ∧
        (r.body = .change kind slot c → kind ≠ .closePurse → e.card slot = dropped (s.engine.card slot))) ∧
    (∀ a amount, s.Hands (.abandoned r (.request l)) → r.body = .fund a amount →
      ∃ e : Engine, exec (.officeRecordAbandoned r.sequence) s =
          .next (fillReply l .storeFault [] { s with engine := e }) ∧
        e = { e0 with sponsors := e.sponsors } ∧
        e.sponsor a.sponsor = { s.engine.sponsor a.sponsor with
          pendingRecords := (s.engine.sponsor a.sponsor).pendingRecords - 1 } ∧
        (∀ n, n ≠ a.sponsor → e.sponsor n = s.engine.sponsor n))

/-! ## Office purse operations -/

/-- OPEN_PURSE, CLOSE_PURSE, BLOCK and UNBLOCK accepted (R82, R85, R87): the record waits and the purse keeps its state; OPEN_PURSE
writes the card number to the FREE slot, CLOSE_PURSE sets close queued. Which records count as queued is log entry 10. The refusals
follow in their order (R80, R82, R84, R85, R87): while a close record is written, for a card with no slot or no purse, for a purse
there already, with a record pending, with holds (with their count), not empty, or in the wrong state, and last with the store in
FAULT; the refresh of a purse found stands (R80). -/
def Obligations.stateChangesAccepted : Prop :=
  (∀ (l : Lane) (card slot : Nat) (s : State) (after : RecordBody → Engine → State)
      (only : Engine → CardPurse → Prop),
    s.tablesCanonical → s.period.state ≠ .closeWrite → s.journal.store = .ok →
    (∀ body e, after body e = { s.taken with
      engine := e,
      journal := { s.journal with
        nextSeq := s.journal.nextSeq + 1,
        queue := s.journal.queue ++ [⟨⟨s.journal.nextSeq, l, s.period.number, body⟩, .request l, false⟩] } }) →
    (∀ e q, only e q ↔
      e = { s.engine with cards := e.cards } ∧ e.card slot = q ∧ ∀ j, j ≠ slot → e.card j = s.engine.card j) →
    (s.AsksReady (.openPurse l card) → slotOf s.engine.ranges card = some slot →
      (s.engine.card slot).state = .free → (s.engine.card slot).pendingRecords = 0 →
      ∃ e, exec (.openPurse l card) s = .next (after
          (.change .openPurse slot ⟨.opened, card, 0, grantOf s.engine.ranges card, s.period.number, 0⟩) e) ∧
        only e { s.engine.card slot with cardNumber := card, pendingRecords := 1 }) ∧
    (∀ s' p c, lookup s.engine card = some slot → s' = refresh slot s → p = s'.engine.card slot →
      p.closeQueued = false → c = s'.cardAhead slot →
      (s.AsksReady (.closePurse l card) → p.holdList = [] → p.cashBalance = 0 → p.cashOutgoing = 0 →
        p.pendingRecords = 0 →
        ∃ e, exec (.closePurse l card) s = .next (after (.change .closePurse slot
            { c with state := .free, cashBalance := 0, allowanceRemaining := 0, spent := 0 }) e) ∧
          only e { p with closeQueued := true, pendingRecords := 1 }) ∧
      (s.AsksReady (.block l card) → p.state = .opened →
        ∃ e, exec (.block l card) s = .next (after (.change .block slot { c with state := .blocked }) e) ∧
          only e { p with pendingRecords := p.pendingRecords + 1 }) ∧
      (s.AsksReady (.unblock l card) → p.state = .blocked →
        ∃ e, exec (.unblock l card) s = .next (after (.change .unblock slot { c with state := .opened }) e) ∧
          only e { p with pendingRecords := p.pendingRecords + 1 }))) ∧
  (∀ (c : Instr) (l : Lane) (card : Nat) (s : State) (refused : Result → List Byte → State → Prop), s.AsksReady c →
    (∀ r body u, refused r body u ↔ exec c s = .next (fillReply l r body u)) →
    (c ∈ [.openPurse l card, .closePurse l card, .block l card, .unblock l card] → s.period.state = .closeWrite →
      refused .periodClosing [] s.taken) ∧
    (c = .openPurse l card → s.period.state ≠ .closeWrite →
      (slotOf s.engine.ranges card = none → refused .noCard [] s.taken) ∧
      (∀ slot p, slotOf s.engine.ranges card = some slot → p = s.engine.card slot →
        (p.state ≠ .free → refused .alreadyOpen [] s.taken) ∧
        (p.state = .free → p.pendingRecords ≠ 0 → refused .pendingRecord [] s.taken) ∧
        (p.state = .free → p.pendingRecords = 0 → s.journal.store = .fault → refused .storeFault [] s.taken))) ∧
    (c ∈ [.closePurse l card, .block l card, .unblock l card] → s.period.state ≠ .closeWrite →
      (lookup s.engine card = none → refused .noCard [] s.taken) ∧
      (∀ slot p u, lookup s.engine card = some slot → p = (refresh slot s).engine.card slot →
        u = refresh slot s.taken →
        (p.closeQueued = true → refused .pendingRecord [] u) ∧
        (p.closeQueued = false → c = .closePurse l card →
          (p.holdList ≠ [] → refused .holdsPresent (beBytes 1 p.holdList.length) u) ∧
          (p.holdList = [] → (p.cashBalance ≠ 0 ∨ p.cashOutgoing ≠ 0) → refused .notEmpty [] u) ∧
          (p.holdList = [] → p.cashBalance = 0 → p.cashOutgoing = 0 → p.pendingRecords ≠ 0 →
            refused .pendingRecord [] u) ∧
          (p.holdList = [] → p.cashBalance = 0 → p.cashOutgoing = 0 → p.pendingRecords = 0 →
            s.journal.store = .fault → refused .storeFault [] u)) ∧
        (∀ needed, p.closeQueued = false →
          (c = .block l card ∧ needed = .opened ∨ c = .unblock l card ∧ needed = .blocked) →
          (p.state ≠ needed → refused .noChange [] u) ∧
          (p.state = needed → s.journal.store = .fault → refused .storeFault [] u)))))

/-- TOP_UP, WITHDRAW and FUND_SPONSOR accepted (R89, R91, R93): the amount of a TOP_UP or WITHDRAW is reserved on the card purse,
the record waits with the balance every earlier queued record and itself will leave (log entry 10), and no balance moves. The
refusals follow in their order (R80, R84, R89, R91, R93): while a close record is written, a bad sponsor or amount, a card with no
purse, a purse about to close, CEILING or INSUFFICIENT with the room left (log entry 27: the model's choice, the lesser of two
rooms) or the cash available, and last the store in FAULT; the refresh of a purse found stands (R80). -/
def Obligations.cashMovesReserved : Prop :=
  (∀ (l : Lane) (amount slot : Nat) (s : State) (after : RecordBody → Engine → State)
      (only : Engine → CardPurse → Prop),
    s.tablesCanonical → s.period.state ≠ .closeWrite → s.journal.store = .ok → 1 ≤ amount →
    (∀ body e, after body e = { s.taken with
      engine := e,
      journal := { s.journal with
        nextSeq := s.journal.nextSeq + 1,
        queue := s.journal.queue ++ [⟨⟨s.journal.nextSeq, l, s.period.number, body⟩, .request l, false⟩] } }) →
    (∀ e q, only e q ↔
      e = { s.engine with cards := e.cards } ∧ e.card slot = q ∧ ∀ j, j ≠ slot → e.card j = s.engine.card j) →
    (∀ card s' p c, lookup s.engine card = some slot → s' = refresh slot s → p = s'.engine.card slot →
      p.closeQueued = false → c = s'.cardAhead slot → amount ≤ 2000000 →
      (s.AsksReady (.topUp l card amount) → p.cashBalance + p.topUpPending + amount ≤ s.config.ceiling →
        c.cashBalance + amount ≤ 2000000 →
        ∃ e, exec (.topUp l card amount) s = .next (after
            (.topUp slot { c with cashBalance := c.cashBalance + amount } amount) e) ∧
          only e { p with topUpPending := p.topUpPending + amount, pendingRecords := p.pendingRecords + 1 }) ∧
      (s.AsksReady (.withdraw l card amount) → amount ≤ p.cashBalance - p.cashHeld - p.cashOutgoing →
        ∃ e, exec (.withdraw l card amount) s = .next (after
            (.withdraw slot { c with cashBalance := c.cashBalance - amount } amount) e) ∧
          only e { p with cashOutgoing := p.cashOutgoing + amount, pendingRecords := p.pendingRecords + 1 })) ∧
    (∀ n, s.AsksReady (.fundSponsor l n amount) → n < s.engine.sponsorCount → amount ≤ 100000000 →
      s.sponsorAhead n + amount ≤ 100000000 →
      ∃ e, exec (.fundSponsor l n amount) s = .next (after (.fund ⟨n, s.sponsorAhead n + amount⟩ amount) e) ∧
        e = { s.engine with sponsors := e.sponsors } ∧
        e.sponsor n = { s.engine.sponsor n with pendingRecords := (s.engine.sponsor n).pendingRecords + 1 } ∧
        ∀ k, k ≠ n → e.sponsor k = s.engine.sponsor k)) ∧
  (∀ (c : Instr) (l : Lane) (card n amount : Nat) (s : State) (refused : Result → List Byte → State → Prop),
    s.AsksReady c → (∀ r body u, refused r body u ↔ exec c s = .next (fillReply l r body u)) →
    (c ∈ [.topUp l card amount, .withdraw l card amount, .fundSponsor l n amount] → s.period.state = .closeWrite →
      refused .periodClosing [] s.taken) ∧
    (c ∈ [.topUp l card amount, .withdraw l card amount] → s.period.state ≠ .closeWrite →
      (amount = 0 ∨ 2000000 < amount → refused .badAmount [] s.taken) ∧
      (1 ≤ amount → amount ≤ 2000000 →
        (lookup s.engine card = none → refused .noCard [] s.taken) ∧
        (∀ slot p u ahead cash passes, lookup s.engine card = some slot → p = (refresh slot s).engine.card slot →
          u = refresh slot s.taken → ahead = (u.cardAhead slot).cashBalance →
          cash = p.cashBalance - p.cashHeld - p.cashOutgoing →
          (passes ↔ s.config.ceiling < p.cashBalance + p.topUpPending + amount ∨ 2000000 < ahead + amount) →
          (p.closeQueued = true → refused .pendingRecord [] u) ∧
          (p.closeQueued = false → c = .topUp l card amount →
            (passes → refused .ceiling
              (beBytes 3 (min (s.config.ceiling - (p.cashBalance + p.topUpPending)) (2000000 - ahead))) u) ∧
            (¬ passes → s.journal.store = .fault → refused .storeFault [] u)) ∧
          (p.closeQueued = false → c = .withdraw l card amount →
            (cash < amount → refused .insufficient (beBytes 3 cash) u) ∧
            (amount ≤ cash → s.journal.store = .fault → refused .storeFault [] u))))) ∧
    (c = .fundSponsor l n amount → s.period.state ≠ .closeWrite →
      (s.engine.sponsorCount ≤ n → refused .badValue [] s.taken) ∧
      (n < s.engine.sponsorCount → (amount = 0 ∨ 100000000 < amount) → refused .badAmount [] s.taken) ∧
      (n < s.engine.sponsorCount → 1 ≤ amount → amount ≤ 100000000 →
        (100000000 < s.sponsorAhead n + amount →
          refused .ceiling (beBytes 4 (100000000 - s.sponsorAhead n)) s.taken) ∧
        (s.sponsorAhead n + amount ≤ 100000000 → s.journal.store = .fault → refused .storeFault [] s.taken))))

/-- The durable event of an office operation's record (R83, R86, R88, R90, R92, R94): the effect, the reservation given back, the
total, the reply. -/
def Obligations.officeRecordDurableApplies : Prop :=
  ∀ (s : State) (r : Record) (l : Lane) (slot amount : Nat) (c : CardAfter) (a : SponsorAfter) (p : CardPurse)
      (e0 : Engine) (only : Engine → CardPurse → Prop),
    s.Hands (.durable r (.request l)) → s.tablesCanonical → p = (refresh slot s).engine.card slot →
    e0 = { s.engine with journalEvents := s.engine.journalEvents.tail } →
    (∀ e q, only e q ↔ e.card slot = q ∧ ∀ j, j ≠ slot → e.card j = s.engine.card j) →
    (r.body = .topUp slot c amount →
      ∃ e, exec (.officeRecordDurable r.sequence) s = .next (fillReply l .ok
          (beBytes 4 r.sequence ++ beBytes 3 (p.cashBalance + amount)) { s with engine := e }) ∧
        e = { e0 with
          cards := e.cards,
          totals := { s.engine.totals with topUps := min 4294967295 (s.engine.totals.topUps + amount) } } ∧
        only e { p with cashBalance := p.cashBalance + amount, topUpPending := p.topUpPending - amount,
                        pendingRecords := p.pendingRecords - 1 }) ∧
    (r.body = .withdraw slot c amount →
      ∃ e, exec (.officeRecordDurable r.sequence) s = .next (fillReply l .ok
          (beBytes 4 r.sequence ++ beBytes 3 (p.cashBalance - amount)) { s with engine := e }) ∧
        e = { e0 with
          cards := e.cards,
          totals := { s.engine.totals with withdrawals := min 4294967295 (s.engine.totals.withdrawals + amount) } } ∧
        only e { p with cashBalance := p.cashBalance - amount, cashOutgoing := p.cashOutgoing - amount,
                        pendingRecords := p.pendingRecords - 1 }) ∧
    (r.body = .change .block slot c →
      ∃ e, exec (.officeRecordDurable r.sequence) s = .next (fillReply l .ok
          (beBytes 4 r.sequence ++ beBytes 1 2) { s with engine := e }) ∧
        e = { e0 with cards := e.cards } ∧
        only e { p with state := .blocked, pendingRecords := p.pendingRecords - 1 }) ∧
    (r.body = .change .unblock slot c →
      ∃ e, exec (.officeRecordDurable r.sequence) s = .next (fillReply l .ok
          (beBytes 4 r.sequence ++ beBytes 1 1) { s with engine := e }) ∧
        e = { e0 with cards := e.cards } ∧
        only e { p with state := .opened, pendingRecords := p.pendingRecords - 1 }) ∧
    (r.body = .change .openPurse slot c → p.state = .free →
      ∃ e, exec (.officeRecordDurable r.sequence) s = .next (fillReply l .ok
          (beBytes 4 r.sequence ++ (beBytes 2 slot ++ beBytes 2 c.allowanceRemaining)) { s with engine := e }) ∧
        e = { e0 with cards := e.cards } ∧
        only e { p with
          state := c.state, cardNumber := c.cardNumber, cashBalance := c.cashBalance,
          allowanceRemaining := c.allowanceRemaining, allowancePeriod := c.allowancePeriod, spent := c.spent,
          pendingRecords := p.pendingRecords - 1 }) ∧
    (r.body = .change .closePurse slot c →
      ∃ e, exec (.officeRecordDurable r.sequence) s = .next (fillReply l .ok
          (beBytes 4 r.sequence ++ (beBytes 2 slot ++ beBytes 2 p.allowanceRemaining)) { s with engine := e }) ∧
        e = { e0 with
          cards := e.cards,
          ring := s.engine.ring.map fun x => if x.cardSlot = slot then { x with closedMark := true } else x } ∧
        only e { p with state := .free, cashBalance := 0, allowanceRemaining := 0, spent := 0, closeQueued := false,
                        pendingRecords := p.pendingRecords - 1 }) ∧
    (r.body = .fund a amount →
      ∃ e, exec (.officeRecordDurable r.sequence) s = .next (fillReply l .ok
          (beBytes 4 r.sequence ++ beBytes 4 ((s.engine.sponsor a.sponsor).balance + amount)) { s with engine := e }) ∧
        e = { e0 with
          sponsors := e.sponsors,
          totals := { s.engine.totals with funding := min 4294967295 (s.engine.totals.funding + amount) } } ∧
        e.sponsor a.sponsor = { s.engine.sponsor a.sponsor with
          balance := (s.engine.sponsor a.sponsor).balance + amount,
          pendingRecords := (s.engine.sponsor a.sponsor).pendingRecords - 1 } ∧
        ∀ n, n ≠ a.sponsor → e.sponsor n = s.engine.sponsor n)

/-! ## Periods -/

/-- The clock of day advances (R101, R104): by one second, from 86,399 to 0; the lowest-numbered enabled schedule entry whose time it
reaches starts a close in OPEN, and is absorbed while a close runs. With holds open the close freezes and starts the drain timer; with
none it queues the PERIOD_CLOSE record at once (its totals: log entry 10), or fails with the store in FAULT (R108, R110, R112). -/
def Obligations.clockAdvances : Prop :=
  ∀ (s : State) (c d : Nat), s.restore.inReset = false → s.period.clock = some c → 0 < s.period.clockDue →
    d = (if c = 86399 then 0 else c + 1) →
    ((∀ k : Fin 6, s.period.schedule[k].enabled = true → s.period.schedule[k].time ≠ d) ∨ s.period.state ≠ .opened →
      exec .clockAdvance s =
        .next { s with period := { s.period with clock := some d, clockDue := s.period.clockDue - 1 } }) ∧
    (∀ k : Fin 6, s.period.state = .opened → s.period.schedule[k].enabled = true → s.period.schedule[k].time = d →
      (∀ j : Fin 6, j < k → ¬ (s.period.schedule[j].enabled = true ∧ s.period.schedule[j].time = d)) →
      (s.period.holdCount ≠ 0 →
        exec .clockAdvance s =
          .next { s with period := { s.period with
            clock := some d, clockDue := s.period.clockDue - 1, state := .freezing, origin := some (.schedule k.val),
            drainTimer := .running (s.now + BitVec.ofNat 32 (10 * s.period.drainLimit)) } }) ∧
      (s.period.holdCount = 0 → s.journal.store = .ok →
        exec .clockAdvance s = .next { s with
          period := { s.period with
            clock := some d, clockDue := s.period.clockDue - 1, state := .closeWrite,
            origin := some (.schedule k.val), drainTimer := .stopped },
          journal := { s.journal with
            nextSeq := s.journal.nextSeq + 1,
            queue := (s.journal.queue ++
              [{ record :=
                  { sequence := s.journal.nextSeq, lane := 0,
                    period := if s.period.number = 4294967295 then 1 else s.period.number + 1,
                    body := .periodClose (.schedule k.val) (some d) s.closeFigures },
                 owner := .periodControl, writing := false }]) } }) ∧
      (s.period.holdCount = 0 → s.journal.store = .fault →
        exec .clockAdvance s = .next (raiseFlag .closeFailed { s with period := { s.period with
          clock := some d, clockDue := s.period.clockDue - 1, state := .opened, origin := none,
          drainTimer := .stopped } })))

/-- CLOSE_PERIOD (R107, R108, R110 to R112): with holds open it freezes and starts the drain timer; with none it queues the
PERIOD_CLOSE record at once (its totals: log entry 10), or fails with the store in FAULT; a running close is left alone. -/
def Obligations.closePeriodStarts : Prop :=
  ∀ (l : Lane) (s : State), s.AsksReady (.closePeriod l) →
    (s.period.state = .opened → s.period.holdCount ≠ 0 →
      exec (.closePeriod l) s = .next (fillReply l .ok
        (beBytes 4 s.period.number ++ beBytes 1 1 ++ beBytes 2 s.period.holdCount ++ beBytes 1 1 ++
          beBytes 4 (s.now + BitVec.ofNat 32 (10 * s.period.drainLimit)).toNat)
        { s.taken with period := { s.period with
          state := .freezing, origin := some (.lane l),
          drainTimer := .running (s.now + BitVec.ofNat 32 (10 * s.period.drainLimit)) } })) ∧
    (s.period.state = .opened → s.period.holdCount = 0 → s.journal.store = .ok →
      exec (.closePeriod l) s = .next (fillReply l .ok
        (beBytes 4 s.period.number ++ beBytes 1 2 ++ beBytes 2 0 ++ beBytes 1 0 ++ beBytes 4 0)
        { s.taken with
          period := { s.period with state := .closeWrite, origin := some (.lane l), drainTimer := .stopped },
          journal := { s.journal with
            nextSeq := s.journal.nextSeq + 1,
            queue := (s.journal.queue ++
              [{ record :=
                  { sequence := s.journal.nextSeq, lane := l,
                    period := if s.period.number = 4294967295 then 1 else s.period.number + 1,
                    body := .periodClose (.lane l) s.period.clock s.closeFigures },
                 owner := .periodControl, writing := false }]) } })) ∧
    (s.period.state = .opened → s.period.holdCount = 0 → s.journal.store = .fault →
      exec (.closePeriod l) s = .next (fillReply l .ok
        (beBytes 4 s.period.number ++ beBytes 1 0 ++ beBytes 2 0 ++ beBytes 1 0 ++ beBytes 4 0)
        (raiseFlag .closeFailed { s.taken with
          period := { s.period with state := .opened, origin := none, drainTimer := .stopped } }))) ∧
    (s.period.state ≠ .opened →
      exec (.closePeriod l) s =
        .next (fillReply l .alreadyClosing (beBytes 1 (periodCode s.period.state)) s.taken))

/-- The forced drain (R114, R115): the drain timer stops and one drain event is sent; taken in FREEZING, the close's own
event, its timer stopped and no other event on its way, ends every LIVE hold of the lane lists DRAINED, with the flag
HOLDS_DRAINED, marks the SETTLING ones without a mark, and the hold count is reported. Over lane lists without a handle twice
(R28) the walk, lane 0 to lane 7 and oldest first, is `State.Walks`; each hold ended sends HOLD_DRAINED to its lane in that
order, then HOLDS_DRAINED is raised where the walk ended or marked a hold, and not otherwise, and then the one report is made
(`State.Reports`). Any other drain event finds no hold and sets nothing but for that report (R116): it is left from a close
whose drain completed before it was taken (log entries 12 and 37: the model's reading). -/
def Obligations.drainForced : Prop :=
  ∀ s : State, s.restore.inReset = false →
    (∀ e, s.period.drainTimer = .due e →
      exec .drainTimerExpiry s =
        .next { s with period := { s.period with drainTimer := .stopped },
                       engine := { s.engine with drains := s.engine.drains + 1 } }) ∧
    (0 < s.engine.drains → (s.engine.drains ≠ 1 ∨ s.period.state ≠ .freezing ∨ s.period.drainTimer ≠ .stopped) →
      ∃ t : State, exec .drainEvent s = .next t ∧
        t = { s with engine := { s.engine with drains := s.engine.drains - 1 }, period := t.period, journal := t.journal,
                     notices := t.notices } ∧
        s.Reports s.engine.openHolds t.period t.journal t.notices) ∧
    (s.engine.drains = 1 → s.period.state = .freezing → s.period.drainTimer = .stopped → s.tablesCanonical →
      ∃ t : State, exec .drainEvent s = .next t ∧
        t = { s with engine := t.engine, deadlines := t.deadlines, period := t.period, journal := t.journal,
                     notices := t.notices } ∧
        t.engine = { s.engine with
          drains := 0, cards := t.engine.cards, sponsors := t.engine.sponsors,
          holds := t.engine.holds, freeList := t.engine.freeList, laneHolds := t.engine.laneHolds } ∧
        t.period.holdCount = t.engine.openHolds ∧ t.period.number = s.period.number ∧
        (t.engine.openHolds = 0 → t.period.state = (if s.journal.store = .ok then .closeWrite else .opened)) ∧
        (t.engine.openHolds ≠ 0 → t.period.state = .freezing) ∧
        (∀ (l : Lane), ∀ handle ∈ s.engine.laneHolds[l], s.engine.resolve handle = .live →
          (t.engine.hold (handle % 512)).state = .free ∧ (t.engine.hold (handle % 512)).endReason = .drained ∧
          t.notices.flag .holdsDrained = true) ∧
        (∀ (l : Lane), ∀ handle ∈ s.engine.laneHolds[l], s.engine.resolve handle = .settling →
          t.engine.hold (handle % 512) = { s.engine.hold (handle % 512) with
            endMark := if (s.engine.hold (handle % 512)).endMark = .unmarked then .drained
              else (s.engine.hold (handle % 512)).endMark }) ∧
        (∀ (handles ended : List Nat) (acts : Prop) (told flagged : NoticeUnit) (h : Nat → Hold),
          handles = s.engine.laneHolds[0] ++ s.engine.laneHolds[1] ++ s.engine.laneHolds[2] ++ s.engine.laneHolds[3] ++
            s.engine.laneHolds[4] ++ s.engine.laneHolds[5] ++ s.engine.laneHolds[6] ++ s.engine.laneHolds[7] →
          handles.Nodup → (∀ x, h x = s.engine.hold (x % 512)) →
          ended = handles.filter (fun x => s.engine.resolve x = .live) →
          (acts ↔ ended ≠ [] ∨ ∃ x ∈ handles, s.engine.resolve x = .settling ∧ (h x).endMark = .unmarked) →
          told = ended.foldl (fun n x =>
            s.tells (h x).lane (.holdDrained x (s.engine.card (h x).cardSlot).cardNumber s.now) n) s.notices →
          (acts → flagged = (raiseFlag .holdsDrained { s with notices := told }).notices) →
          (¬ acts → flagged = told) →
          s.Walks handles .drained .drained t ∧
            ({ s with notices := flagged } : State).Reports t.engine.openHolds t.period t.journal t.notices))

/-- The end of a close (R117, R118): the durable event moves the totals, Period Control then advances; the abandoned event
leaves totals and period number as they were and the close fails. -/
def Obligations.closeEnds : Prop :=
  ∀ (s : State) (r : Record),
    (s.Hands (.durable r .periodControl) →
      exec (.periodCloseDurable r.sequence) s =
        .next { s with
          engine := { s.engine with
            journalEvents := s.engine.journalEvents.tail,
            closed := { totals := s.engine.totals, partialMark := s.engine.partialMark, period := s.period.number },
            totals := Totals.zero, partialMark := false },
          period := { s.period with closeEnd := some .durable } }) ∧
    (s.Hands (.abandoned r .periodControl) →
      exec (.periodCloseAbandoned r.sequence) s =
        .next { s with engine := { s.engine with journalEvents := s.engine.journalEvents.tail },
                       period := { s.period with closeEnd := some .abandoned } }) ∧
    (s.restore.inReset = false → s.period.closeEnd = some .durable →
      exec .periodAdvance s = .next (raiseFlag .periodClosed
        { s with period := { s.period with
          number := if s.period.number = 4294967295 then 1 else s.period.number + 1, state := .opened,
          origin := none, closeEnd := none } })) ∧
    (s.restore.inReset = false → s.period.closeEnd = some .abandoned →
      exec .closeFailed s = .next (raiseFlag .closeFailed
        { s with period := { s.period with state := .opened, origin := none, closeEnd := none } }))

/-! ## Journal and store -/

/-- SYNC is answered OK at once when its mark is durable, and else waits with its mark (R143). READ_JOURNAL waits for the port
when its sequence number lies in the ring, and is else OUT_OF_RANGE (R144). RETRY_STORE is answered OK with the store OK,
STORE_FAULT on an exhausted journal, and else starts or joins the retry (R140, R141). -/
def Obligations.storeRequestsWait : Prop :=
  ∀ (l : Lane) (s : State),
    (s.AsksReady (.sync l) → s.journal.nextSeq - 1 ≤ s.journal.lastDurable →
      exec (.sync l) s = .next (fillReply l .ok [] s.taken)) ∧
    (s.AsksReady (.sync l) → s.journal.lastDurable < s.journal.nextSeq - 1 →
      exec (.sync l) s = .next { s.taken with
        journal := { s.journal with syncs := s.journal.syncs ++ [⟨l, s.journal.nextSeq - 1⟩] } }) ∧
    (∀ n, s.AsksReady (.readJournal l n) → n ≤ s.journal.lastDurable → s.journal.lastDurable ≤ n + 8191 → 1 ≤ n →
      s.restore.ringBase ≤ n →
      exec (.readJournal l n) s =
        .next { s.taken with journal := { s.journal with reads := s.journal.reads ++ [⟨l, n, false⟩] } }) ∧
    (∀ n, s.AsksReady (.readJournal l n) →
      (s.journal.lastDurable < n ∨ n + 8191 < s.journal.lastDurable ∨ n = 0 ∨ n < s.restore.ringBase) →
      exec (.readJournal l n) s = .next (fillReply l .outOfRange [] s.taken)) ∧
    (s.AsksReady (.retryStore l) → s.journal.store = .ok →
      exec (.retryStore l) s = .next (fillReply l .ok [] s.taken)) ∧
    (s.AsksReady (.retryStore l) → s.journal.store = .fault → s.journal.lastDurable < 4294967231 →
      exec (.retryStore l) s =
        .next { s.taken with journal := { s.journal with retry := some (s.journal.retry.getD [] ++ [l]) } }) ∧
    (s.AsksReady (.retryStore l) → s.journal.store = .fault → 4294967231 ≤ s.journal.lastDurable →
      exec (.retryStore l) s = .next (fillReply l .storeFault [] s.taken))

/-- The store-port arbiter (R142): with the store OK a stale image, then the lowest-numbered record, then a save, then the oldest
journal read; in FAULT the retry, then a journal read; in FORMATTING the format. A stale image is the purse as its newest durable
record leaves it, with the last durable sequence number (R139; log entry 11: the model's choice for a purse whose durable event
the engine has not taken); a format starts with the header, its mark cleared (R197; the rest of its bytes log entry 15: the
model's choice). While an exhaustion waits to be taken the oldest journal read alone is granted, and no write of a format (log entry
14: the model's choice). -/
def Obligations.portGranted : Prop :=
  ∀ (s : State) (port : PortUse → State), s.restore.inReset = false → s.journal.port = none →
    (∀ p, port p = { s with journal := { s.journal with port := some p } }) →
    (s.restore.part = .ready → s.journal.store = .ok → s.journal.exhaustionDue = false →
      (∀ k rest image, s.journal.stale = k :: rest →
        (k + s.engine.sponsorCount < 4096 →
          image = .card (cardThrough s.untakenRecords k (s.engine.card k).after) s.journal.lastDurable) →
        (4096 ≤ k + s.engine.sponsorCount →
          image = .sponsor (sponsorThrough s.untakenRecords (4095 - k) (s.engine.sponsor (4095 - k)).balance)
            s.journal.lastDurable) →
        exec .storePortGrant s = .next (port
          ⟨.staleImage k, some ⟨0x20000 + 32 * k, imageUnit k image, 1, .running (s.now + 2)⟩⟩)) ∧
      (∀ q rest, s.journal.stale = [] → s.journal.queue = q :: rest →
        exec .storePortGrant s = .next { s with journal := { s.journal with
          queue := s.journal.queue.map fun x =>
            if x.record.sequence = q.record.sequence then { x with writing := true } else x,
          port := some ⟨.recordWrite q.record, some
            ⟨0x40000 + 32 * (q.record.sequence % 8192), recordUnit q.record, 1, .running (s.now + 2)⟩⟩ } }) ∧
      (∀ lanes, s.journal.stale = [] → s.journal.queue = [] → s.journal.save = some lanes →
        exec .storePortGrant s = .next { s with journal := { s.journal with
          save := none,
          port := some ⟨.saveBlock lanes (checkBytes (configBlock s.workingConfig)), some
            ⟨0x100, configBlock s.workingConfig, 1, .running (s.now + 2)⟩⟩ } }) ∧
      (∀ w rest, s.journal.stale = [] → s.journal.queue = [] → s.journal.save = none → s.journal.reads = w :: rest →
        exec .storePortGrant s = .next { s with journal := { s.journal with
          reads := rest, port := some ⟨.journalRead w.lane w.sequence 0 w.voided, none⟩ } })) ∧
    (s.restore.part = .ready → s.journal.store = .ok → s.journal.exhaustionDue = true →
      (∀ w rest, s.journal.reads = w :: rest →
        exec .storePortGrant s = .next { s with journal := { s.journal with
          reads := rest, port := some ⟨.journalRead w.lane w.sequence 0 w.voided, none⟩ } }) ∧
      (s.journal.reads = [] → exec .storePortGrant s = .next s)) ∧
    (s.restore.part = .ready → s.journal.store = .fault →
      (∀ lanes, s.journal.retry = some lanes → exec .storePortGrant s = .next (port ⟨.retryHeader, none⟩)) ∧
      (∀ w rest, s.journal.retry = none → s.journal.reads = w :: rest → exec .storePortGrant s =
        .next { s with journal := { s.journal with
          reads := rest, port := some ⟨.journalRead w.lane w.sequence 0 w.voided, none⟩ } })) ∧
    (s.restore.part = .formatting → s.journal.exhaustionDue = false → exec .storePortGrant s = .next (port
      ⟨.formatClear, some ⟨0, headerBytes [0, 0, 0, 0] 1 1 s.workingConfig, 1, .running (s.now + 2)⟩⟩)) ∧
    (s.restore.part = .formatting → s.journal.exhaustionDue = true → exec .storePortGrant s = .next s) ∧
    (s.untakenRecords = [] → ∀ k c n b, cardThrough s.untakenRecords k c = c ∧ sponsorThrough s.untakenRecords n b = b)

/-- A record's write that succeeds makes it durable (R123, R125, R130, R132, R143): the last durable number is its own, its
durable event is handed to the engine with its owner, the SYNCs whose mark it reaches are answered OK, its images follow, card slot
first, each its after-state with its sequence number (R133), and after the last of them its entry leaves the queue; no notice and
nothing of the period moves. A stale image that is written leaves the list (R139). A save writes its block, then the configuration
check, and then answers its lanes OK with source HEADER (R185). A write that is reported in time, left whole and read back as the
store holds it, succeeds; it leaves its bytes, and no other byte changes. -/
def Obligations.recordBecomesDurable : Prop :=
  ∀ (s : State) (r : Record) (w : StoreWrite) (status : Byte) (effect : WriteEffect) (answer : StoreAnswer) (u : State)
      (done : JournalUnit → State) (j : JournalUnit), s.Succeeds w status effect answer →
    u = { s with memory := writeEffect effect w s.memory } →
    j = { s.journal with
      lastDurable := r.sequence, syncs := s.journal.syncs.filter fun y => !(y.mark ≤ r.sequence) } →
    (∀ k, done k = { u with
      lanes := (fillAll ((s.journal.syncs.filter fun y => y.mark ≤ r.sequence).map SyncWait.lane) .ok s).lanes,
      journal := k,
      engine := { s.engine with
        journalEvents := s.engine.journalEvents ++ [.durable r (s.journal.ownerOf r)] } }) →
    (∀ q ∈ s.journal.queue.find? (fun q => q.record.sequence = r.sequence), s.journal.ownerOf r = q.owner) ∧
    (∀ k c, s.Writes (.recordWrite r) w → r.body.cardSlot = some k → r.body.cardAfter = some c →
      exec (.storeWriteComplete effect ⟨status, answer⟩) s = .next
        ((done j).Issues (.imageWrites r k (r.body.sponsorAfter.map fun a => 4095 - a.sponsor).toList) (0x20000 + 32 * k)
          (imageUnit k (.card c r.sequence)))) ∧
    (∀ a, s.Writes (.recordWrite r) w → r.body.cardSlot = none → r.body.sponsorAfter = some a → a.sponsor < 64 →
      exec (.storeWriteComplete effect ⟨status, answer⟩) s = .next
        ((done j).Issues (.imageWrites r (4095 - a.sponsor) []) (0x20000 + 32 * (4095 - a.sponsor))
          (imageUnit (4095 - a.sponsor) (.sponsor a.balance r.sequence)))) ∧
    (s.Writes (.recordWrite r) w → r.body.cardSlot = none → r.body.sponsorAfter = none →
      exec (.storeWriteComplete effect ⟨status, answer⟩) s = .next (done { j with
        port := none, queue := s.journal.queue.filter fun q => q.record.sequence ≠ r.sequence,
        exhaustionDue := s.journal.exhaustionDue || decide (4294967231 ≤ r.sequence) })) ∧
    (∀ k a, s.Writes (.imageWrites r k [4095 - a.sponsor]) w → r.body.sponsorAfter = some a → a.sponsor < 64 →
      r.body.cardSlot ≠ some (4095 - a.sponsor) →
      exec (.storeWriteComplete effect ⟨status, answer⟩) s = .next
        (u.Issues (.imageWrites r (4095 - a.sponsor) []) (0x20000 + 32 * (4095 - a.sponsor))
          (imageUnit (4095 - a.sponsor) (.sponsor a.balance r.sequence)))) ∧
    (∀ k, s.Writes (.imageWrites r k []) w →
      exec (.storeWriteComplete effect ⟨status, answer⟩) s = .next { u with journal := { s.journal with
        port := none, queue := s.journal.queue.filter fun q => q.record.sequence ≠ r.sequence,
        exhaustionDue := s.journal.exhaustionDue || decide (4294967231 ≤ r.sequence) } }) ∧
    (∀ k, s.Writes (.staleImage k) w →
      exec (.storeWriteComplete effect ⟨status, answer⟩) s = .next { u with journal := { s.journal with
        port := none, stale := s.journal.stale.filter fun x => x ≠ k } }) ∧
    (∀ lanes check, s.Writes (.saveBlock lanes check) w →
      exec (.storeWriteComplete effect ⟨status, answer⟩) s = .next (u.Issues (.saveCheck lanes) 0x1AC check)) ∧
    (∀ lanes, s.Writes (.saveCheck lanes) w →
      exec (.storeWriteComplete effect ⟨status, answer⟩) s = .next (fillAll lanes .ok { u with
        config := { s.config with source := .header }, journal := { s.journal with port := none } })) ∧
    (s.memoryCanonical → s.Succeeds w status .whole .asStored ∧
      readBytes (writeEffect .whole w s.memory) w.address w.bytes.length = w.bytes) ∧
    (∀ a, a < w.address ∨ w.address + w.bytes.length ≤ a → readByte u.memory a = readByte s.memory a)

/-- A failed attempt (R123): the first and second are followed by another attempt of the same write, with a fresh limit of 2
ticks. An attempt fails when its limit comes with no report, when the report comes later than the limit (log entry 13: the model
takes a report in the limit's own tick as in time), and when it does not read back as meant; a status byte with bit 0 set reports
the write in progress (R207) and changes nothing. What a failed attempt leaves is what the device left; of the last header write of
a format it leaves the format mark cleared (R197; log entry 15: the model's choice). -/
def Obligations.attemptsRepeat : Prop :=
  ∀ (s : State) (op : PortOp) (w : StoreWrite) (effect : WriteEffect),
    (∀ (c : Instr) (t : State), s.Writes op w → s.FailsBy w effect c → w.attempt < 3 →
      t = { s with
        memory := unfinishedEffect op effect w s.memory,
        journal := { s.journal with
          port := some ⟨op, some { w with attempt := w.attempt + 1, timer := .running (s.now + 2) }⟩ } } →
      exec c s = .next t) ∧
    (∀ status answer, s.restore.inReset = false → status.getLsbD 0 = true →
      exec (.storeWriteComplete effect ⟨status, answer⟩) s = .next s) ∧
    (op ≠ .formatHeader → unfinishedEffect op effect w s.memory = writeEffect effect w s.memory) ∧
    (s.memoryCanonical → 4 ≤ w.bytes.length →
      ∀ a, readByte (unfinishedEffect .formatHeader effect w s.memory) a =
        if w.address ≤ a ∧ a < w.address + 4 then 0 else readByte (writeEffect effect w s.memory) a)

/-- The store enters FAULT when a write of a record, an image, a stale image or a save fails at its third attempt (R134, R135),
and when the journal is exhausted (R127): the flag is set, every record not yet durable is abandoned in sequence order, the queue
is empty, the next sequence number falls back to the first of the abandoned, and the ring slot of a record's failed write is void.
The images a durable record still wants join the stale-image list (R135). STORE_FAULT answers the lanes of a waiting save, every
SYNC that waits on an abandoned record (R143), and the lanes of the save whose write failed (R142); no other lane changes. -/
def Obligations.storeEntersFault : Prop :=
  ∀ (s : State) (waiting : List QueueEntry) (met : List SyncWait)
      (fault : Memory → Option Nat → List Nat → List Lane → State), s.restore.inReset = false →
    waiting = s.journal.queue.filter (fun x => s.journal.lastDurable < x.record.sequence) →
    met = s.journal.syncs.filter (fun y => waiting.any fun q => q.record.sequence ≤ y.mark) →
    (∀ m void stale lanes, fault m void stale lanes = { s with
      lanes := (fillAll (s.journal.save.getD [] ++ met.map SyncWait.lane ++ lanes) .storeFault s).lanes,
      memory := m, notices := (raiseFlag .storeFault s).notices,
      engine := { s.engine with
        journalEvents := s.engine.journalEvents ++ waiting.map fun x => .abandoned x.record x.owner },
      journal := { s.journal with
        store := .fault, queue := [], save := none, port := none, stale := stale,
        nextSeq := (waiting.head?.map fun q => q.record.sequence).getD s.journal.nextSeq,
        voidSlot := void.or s.journal.voidSlot,
        syncs := s.journal.syncs.filter fun y => !waiting.any fun q => q.record.sequence ≤ y.mark } }) →
    (∀ op w effect c m, s.Writes op w → w.attempt = 3 → s.FailsBy w effect c → m = writeEffect effect w s.memory →
      (∀ r, op = .recordWrite r →
        exec c s = .next (fault m (some (r.sequence % 8192)) s.journal.stale [])) ∧
      (∀ r k rest, op = .imageWrites r k rest → ∃ stale, exec c s = .next (fault m none stale []) ∧
        (∀ x, x ∈ stale ↔ x ∈ s.journal.stale ∨ x ∈ k :: rest) ∧
        (s.journal.stale.Pairwise (· < ·) → stale.Pairwise (· < ·))) ∧
      (∀ k, op = .staleImage k → exec c s = .next (fault m none s.journal.stale [])) ∧
      (∀ lanes, op = .saveCheck lanes ∨ (∃ check, op = .saveBlock lanes check) →
        exec c s = .next (fault m none s.journal.stale lanes))) ∧
    (s.journal.exhaustionDue = true → ∃ t, exec .journalExhaustion s = .next t ∧
      t = { fault s.memory none s.journal.stale [] with journal := t.journal } ∧
      t.journal = { (fault s.memory none s.journal.stale []).journal with
        port := s.journal.port, exhaustionDue := false })

/-- The retry (R140, R141): a bad header fails every waiting RETRY_STORE and leaves the store in FAULT; a good one (format mark, and
header check over the first thirteen bytes) leads to the header check written again, unchanged; the void unit follows where a void
slot is noted; the last write leaves the store OK with no void slot, raises STORE_RESTORED, answers every waiting RETRY_STORE OK, and
notes the void slot on every read that waits for it (R145). A write of the retry that fails at its third attempt fails every waiting
RETRY_STORE, and the store stays in FAULT. -/
def Obligations.retryRuns : Prop :=
  ∀ (s : State) (lanes : List Lane), s.restore.inReset = false → s.journal.retry = some lanes →
    (∀ answer h good, h = readAnswer answer s.memory 0 15 →
      (good ↔ h.take 4 = [0x5A, 0x3C, 0x96, 0xC3] ∧ h.drop 13 = checkBytes (h.take 13)) →
      s.journal.port = some ⟨.retryHeader, none⟩ →
      (¬ good → exec (.retryHeaderRead answer) s = .next (fillAll lanes .storeFault
        { s with journal := { s.journal with port := none, retry := none } })) ∧
      (good → exec (.retryHeaderRead answer) s = .next (s.Issues .retryCheck 0x0D (h.drop 13)))) ∧
    (∀ w status effect answer (u : State) (restored : List ReadWait → State), s.Succeeds w status effect answer →
      u = { s with memory := writeEffect effect w s.memory } →
      (∀ reads, restored reads = fillAll lanes .ok { u with
        notices := (raiseFlag .storeRestored s).notices,
        journal := { s.journal with store := .ok, voidSlot := none, retry := none, port := none, reads := reads } }) →
      (∀ k, s.Writes .retryCheck w → s.journal.voidSlot = some k →
        exec (.storeWriteComplete effect ⟨status, answer⟩) s =
          .next (u.Issues .retryVoid (0x40000 + 32 * k) (List.replicate 32 0))) ∧
      (s.Writes .retryCheck w → s.journal.voidSlot = none →
        exec (.storeWriteComplete effect ⟨status, answer⟩) s = .next (restored s.journal.reads)) ∧
      (∀ k, s.Writes .retryVoid w → s.journal.voidSlot = some k →
        exec (.storeWriteComplete effect ⟨status, answer⟩) s = .next (restored (s.journal.reads.map fun y =>
          if y.sequence % 8192 = k then { y with voided := true } else y)))) ∧
    (∀ op w effect c, (op = .retryCheck ∨ op = .retryVoid) → s.Writes op w → w.attempt = 3 → s.FailsBy w effect c →
      exec c s = .next (fillAll lanes .storeFault { s with
        memory := writeEffect effect w s.memory, journal := { s.journal with port := none, retry := none } }))

/-- A journal read (R145): a valid unit of the number asked for is answered with its record, one of another number OUT_OF_RANGE;
an invalid one is read again, and after the third read answered STORE_FAULT, or OUT_OF_RANGE where the slot is void. The record of a
reply is laid out by its kind as R205 gives: 42 bytes, or 35 for a PERIOD_CLOSE record, 0 for a field the kind does not carry; a
CAPTURE or REVERSAL with no sponsor has sponsor FFh and, by the model's choice (log entry 39), sponsor balance 7FFFFFFh. -/
def Obligations.journalReadJudged : Prop :=
  (∀ (s : State) (answer : StoreAnswer) (l : Lane) (n done : Nat) (voided : Bool) (unit : List Byte) (s' : State),
    s.restore.inReset = false → s.journal.port = some ⟨.journalRead l n done voided, none⟩ →
    unit = readAnswer answer s.memory (0x40000 + 32 * (n % 8192)) 32 →
    s' = { s with journal := { s.journal with port := none } } →
    (∀ r, readRecord (n % 8192) unit = some r → r.sequence = n →
      exec (.journalReadComplete answer) s = .next (fillReply l .ok (recordReply r) s')) ∧
    (∀ r, readRecord (n % 8192) unit = some r → r.sequence ≠ n →
      exec (.journalReadComplete answer) s = .next (fillReply l .outOfRange [] s')) ∧
    (readRecord (n % 8192) unit = none → done < 2 →
      exec (.journalReadComplete answer) s = .next { s with journal := { s.journal with
        port := some ⟨.journalRead l n (done + 1) voided, none⟩ } }) ∧
    (readRecord (n % 8192) unit = none → 2 ≤ done → (s.journal.voidSlot = some (n % 8192) ∨ voided = true) →
      exec (.journalReadComplete answer) s = .next (fillReply l .outOfRange [] s')) ∧
    (readRecord (n % 8192) unit = none → 2 ≤ done → s.journal.voidSlot ≠ some (n % 8192) → voided = false →
      exec (.journalReadComplete answer) s = .next (fillReply l .storeFault [] s'))) ∧
  ∀ (q n slot ap cp amount : Nat) (l : Lane) (c : CardAfter) (head : Nat → List Byte) (of state after : List Byte),
    (∀ kind, head kind = beBytes 4 q ++ beBytes 1 kind ++ beBytes 1 l.val ++ beBytes 4 n) →
    of = beBytes 2 slot ++ beBytes 1 (purseCode c.state) ++ beBytes 3 c.cardNumber →
    after = beBytes 3 c.cashBalance ++ beBytes 2 c.allowanceRemaining ++ beBytes 4 c.spent →
    state = beBytes 4 ap ++ beBytes 3 cp →
    (∀ a : SponsorAfter, recordReply ⟨q, l, n, .capture slot c (some a) ap cp⟩ =
      head 1 ++ of ++ beBytes 1 a.sponsor ++ state ++ after ++ beBytes 4 a.balance ++ List.replicate 5 0) ∧
    recordReply ⟨q, l, n, .capture slot c none ap cp⟩ =
      head 1 ++ of ++ [0xFF] ++ state ++ after ++ beBytes 4 0x7FFFFFF ++ List.replicate 5 0 ∧
    (∀ (a : SponsorAfter) receipt back, recordReply ⟨q, l, n, .reversal slot c (some a) ap cp receipt back⟩ =
      head 2 ++ of ++ beBytes 1 a.sponsor ++ state ++ after ++ beBytes 4 a.balance ++ beBytes 4 receipt ++
        beBytes 1 (boolCode back)) ∧
    (∀ receipt back, recordReply ⟨q, l, n, .reversal slot c none ap cp receipt back⟩ =
      head 2 ++ of ++ [0xFF] ++ state ++ after ++ beBytes 4 0x7FFFFFF ++ beBytes 4 receipt ++
        beBytes 1 (boolCode back)) ∧
    recordReply ⟨q, l, n, .topUp slot c amount⟩ =
      head 3 ++ of ++ List.replicate 5 0 ++ beBytes 3 amount ++ after ++ List.replicate 9 0 ∧
    recordReply ⟨q, l, n, .withdraw slot c amount⟩ =
      head 4 ++ of ++ List.replicate 5 0 ++ beBytes 3 amount ++ after ++ List.replicate 9 0 ∧
    (∀ kind code, (kind, code) ∈ [(StateKind.openPurse, 5), (.closePurse, 6), (.block, 7), (.unblock, 8)] →
      recordReply ⟨q, l, n, .change kind slot c⟩ =
        head code ++ of ++ List.replicate 8 0 ++ after ++ List.replicate 9 0) ∧
    (∀ a : SponsorAfter, recordReply ⟨q, l, n, .fund a amount⟩ =
      head 9 ++ List.replicate 6 0 ++ beBytes 1 a.sponsor ++ beBytes 4 amount ++ List.replicate 12 0 ++
        beBytes 4 a.balance ++ List.replicate 5 0) ∧
    (∀ f time clock figures, (time = none ∧ clock = 0xFFFFFF ∨ time = some clock) →
      figures = beBytes 3 clock ++ beBytes 1 (boolCode f.partialMark) ++ beBytes 4 f.captureCount ++
        beBytes 4 f.capturedCash ++ beBytes 4 f.capturedAllowance ++ beBytes 4 f.reversedCash ++
        beBytes 4 f.reversedAllowance →
      recordReply ⟨q, l, n, .periodClose (.lane l) time f⟩ = head 10 ++ [0xFF] ++ figures ∧
      ∀ entry, recordReply ⟨q, l, n, .periodClose (.schedule entry) time f⟩ =
        beBytes 4 q ++ beBytes 1 10 ++ [0xFF] ++ beBytes 4 n ++ beBytes 1 entry ++ figures)

/-! ## Resets, restore, format -/

/-- Both resets (R182, R187): RESTORING with no finding, the tick count 0, no hold, record, notice, flag or request left, every
attention output low; a power-on reset clears the config lock, a pin reset keeps it. RESET_N going low drives the attention and
transmit outputs at once (R207). The store keeps every byte that no write under way covers. The values of State.reset that the manual
does not give are log entry 7; log entries 19 and 20 say how a pin reset runs, that a power-on reset with RESET_N low leaves the part
held, and that the queue of commands stays. -/
def Obligations.resetsClear : Prop :=
  ∀ (cut : WriteEffect) (s : State), ∃ p q t : State,
    exec (.powerOnReset cut) s = .next p ∧ exec (.pinReset cut) s = .next q ∧ exec (.resetNLow cut) s = .next t ∧
    p = { State.reset with
      memory := p.memory, pending := s.pending,
      restore := { State.reset.restore with inReset := s.restore.inReset } } ∧
    q = { p with config := { p.config with lock := s.config.lock }, restore := State.reset.restore } ∧
    p.config.lock = false ∧ q.restore.inReset = false ∧
    p.restore.part = .restoring ∧ p.restore.finding = .none ∧ p.deadlines = ⟨0, []⟩ ∧
    p.journal.queue = [] ∧ p.journal.store = .ok ∧ p.notices.flags = 0 ∧ p.period.clock = none ∧
    p.engine.openHolds = 0 ∧ p.engine.ring = [] ∧
    (∀ l : Lane, p.lanes[l].request = .empty ∧ p.lanes[l].reply = none ∧ p.lanes[l].busy = none ∧
      p.lanes[l].state = .idle ∧ p.lanes[l].receiver = .closed ∧ p.notices.lanes[l] = ⟨[], false, false⟩) ∧
    t = { s with
      lanes := t.lanes, notices := { s.notices with lanes := t.notices.lanes }, memory := t.memory,
      journal := { s.journal with port := none }, restore := { s.restore with inReset := true } } ∧
    (∀ l : Lane, t.lanes[l] = { s.lanes[l] with tx := [] } ∧ t.txBytes l = none ∧
      t.notices.lanes[l] = { s.notices.lanes[l] with attention := false }) ∧
    (∀ a, ¬ s.writeCovers a → readByte p.memory a = readByte s.memory a ∧ readByte t.memory a = readByte s.memory a)

/-- While a pin reset holds the part, no command but the resets changes anything (log entry 19). -/
def Obligations.heldInReset : Prop :=
  ∀ (c : Instr) (s : State), s.restore.inReset = true → ¬ isReset c → exec c s = .next s

/-- The restore's first step (R188, R206): without the format mark the part is UNFORMATTED; with the mark, but a bad header check
or another format version, RESTORE_FAILED with BAD_HEADER; both under the defaults. With a good header it goes on to the ring
scan, with the ring base and period of the header: under the header's configuration where its check is good and the block spells a
configuration in range, else under the defaults with CONFIG_DEFAULTED (log entry 26: the model's choice for a value out of range;
log entry 38: its choice which bounds of R14 are judged).
In the same event the configuration takes effect and the lanes open. That every line opens in DISCARDING is the model's choice
(log entry 31). -/
def Obligations.headerLoaded : Prop :=
  (∀ (answer : StoreAnswer) (s : State) (h block : List Byte), s.restore.inReset = false →
    s.restore.part = .restoring → s.restore.stage = .header → h = readAnswer answer s.memory 0 430 →
    block = (h.drop 0x100).take 172 →
    ∃ t : State, exec (.restoreHeaderLoaded answer) s = .next t ∧
      (h.take 4 ≠ [0x5A, 0x3C, 0x96, 0xC3] → t.restore.part = .unformatted ∧ t.restore.finding = .noMark ∧
        t.workingConfig = WorkingConfig.default ∧ t.config.source = .defaults) ∧
      (h.take 4 = [0x5A, 0x3C, 0x96, 0xC3] →
        ((h.drop 13).take 2 ≠ checkBytes (h.take 13) ∨ (h.drop 4).take 1 ≠ [0x01]) →
        t.restore.part = .restoreFailed ∧ t.restore.finding = .badHeader ∧
          t.workingConfig = WorkingConfig.default ∧ t.config.source = .defaults) ∧
      (∀ base period, base < 2 ^ 32 → period < 2 ^ 32 →
        h.take 13 = [0x5A, 0x3C, 0x96, 0xC3, 0x01] ++ beBytes 4 base ++ beBytes 4 period →
        (h.drop 13).take 2 = checkBytes (h.take 13) →
        t.restore.part = .restoring ∧ t.restore.finding = s.restore.finding ∧ t.restore.ringBase = base ∧
        t.restore.formatPeriod = period ∧
        (∀ c : WorkingConfig, c.inRange → block = configBlock c → (h.drop 0x1AC).take 2 = checkBytes block →
          t.restore.stage = .ringScan false ∧ t.workingConfig = c ∧ t.config.source = .header ∧
            t.notices = { s.notices with routes := c.routes }) ∧
        ((∀ c : WorkingConfig, c.inRange → block ≠ configBlock c) ∨ (h.drop 0x1AC).take 2 ≠ checkBytes block →
          t.restore.stage = .ringScan true ∧ t.workingConfig = WorkingConfig.default ∧ t.config.source = .defaults ∧
            t.notices.flag .configDefaulted = true)) ∧
      (∀ l : Lane, t.lanes[l] = { s.lanes[l] with
        settings := t.lanes[l].settings,
        receiver := if t.lanes[l].settings.role = .off then .closed else .discarding }) ∧
      t.config.lock = s.config.lock ∧ t.memory = s.memory ∧ t.journal = s.journal ∧ t.deadlines = s.deadlines ∧
      t.engine = { s.engine with sponsorCount := t.engine.sponsorCount, ranges := t.engine.ranges }) ∧
  (∀ (b : List Byte) (c : WorkingConfig), b.length = 172 →
    (readConfigBlock b = some c ↔ c.inRange ∧ b = configBlock c))

/-- The ring scan (R191) answers a next state whatever the store answers. N is the highest sequence number of a valid unit, or 0;
e is, for each slot, the one number in N − 8,191..N that the slot has room for; slots with e below the ring base are not examined.
The ring is consistent when N is not above 0 and below the base, and every slot examined holds a valid record of sequence e or,
where it follows N, no valid unit. A consistent ring leads on with N and the valid records of the slots examined, lowest first;
else the part is RESTORE_FAILED with RING_INCONSISTENT. A ring with no valid unit passes with N = 0 and no record. -/
def Obligations.ringScanned : Prop :=
  (∀ (answer : StoreAnswer) (s : State) (defaulted : Bool), s.restore.inReset = false → s.restore.part = .restoring →
    s.restore.stage = .ringScan defaulted → ∃ t, exec (.restoreRingScan answer) s = .next t) ∧
  ∀ (answer : StoreAnswer) (s : State) (defaulted : Bool) (unit : Nat → Option Record) (N : Nat) (e : Nat → Int)
      (examined : Nat → Prop) (consistent : Prop),
    s.restore.inReset = false → s.restore.part = .restoring → s.restore.stage = .ringScan defaulted →
    (∀ k, unit k = readRecord k (readAnswer answer s.memory (0x40000 + 32 * k) 32)) →
    (∀ k < 8192, ∀ r, unit k = some r → r.sequence ≤ N) →
    (N = 0 ∨ ∃ k < 8192, ∃ r, unit k = some r ∧ r.sequence = N) →
    (∀ k < 8192, (N : Int) - 8191 ≤ e k ∧ e k ≤ N ∧ e k % 8192 = k) →
    (∀ k, examined k ↔ k < 8192 ∧ (s.restore.ringBase : Int) ≤ e k) →
    (consistent ↔ ¬ (0 < N ∧ N < s.restore.ringBase) ∧ ∀ k, examined k →
      (∃ r, unit k = some r ∧ (r.sequence : Int) = e k) ∨ k = (N + 1) % 8192 ∧ unit k = none) →
    (consistent → ∃ records, exec (.restoreRingScan answer) s =
        .next { s with restore := { s.restore with stage := .images defaulted N records } } ∧
      (∀ r, r ∈ records ↔ ∃ k, examined k ∧ unit k = some r) ∧
      records.Pairwise (fun r r' => r.sequence < r'.sequence)) ∧
    (¬ consistent → exec (.restoreRingScan answer) s = .next { s with restore := { s.restore with
      part := .restoreFailed, finding := .ringInconsistent, stage := .idle } }) ∧
    ((∀ k < 8192, unit k = none) → 1 ≤ s.restore.ringBase → N = 0 ∧ exec (.restoreRingScan answer) s =
      .next { s with restore := { s.restore with stage := .images defaulted 0 [] } })

/-- The image step (R192 to R195). Each slot takes the newer of its image and the newest record that names it (`SlotTakes`); a slot
with neither is IMAGE_INVALID, and a purse that cannot sit where the loaded configuration puts it (`Engine.Misplaces`) is
PURSE_MISPLACED, or PURSES_WITHOUT_CONFIG under the defaults; that the first such slot in slot order names the finding, and that no
image is rewritten where any slot fails, is the model's choice (log entry 22). Else the table holds every purse taken
(`Engine.Seats`), the record's after-states are written over the images in slot order, and then the part is READY with its period,
totals, partial mark and capture ring (`Restored`). A rewrite that fails at its third attempt is RESTORE_FAILED with STORE_WRITE. A
state code of 3, which R203 does not list, stands for a free value (log entry 17); card number 0 of a slot whose sponsor image reads
balance 0 below the sponsor region is log entry 8, the model's choice. -/
def Obligations.imagesRestored : Prop :=
  (∀ (answer : StoreAnswer) (s : State) (defaulted : Bool) (n : Nat) (records : List Record)
      (image : Nat → Option Image) (taken : Nat → Option (Image × Bool)) (fails : Nat → Finding → Prop),
    s.restore.inReset = false → s.restore.part = .restoring → s.restore.stage = .images defaulted n records →
    s.tablesCanonical → s.engine.sponsorCount ≤ 64 →
    records.Pairwise (fun r r' => r.sequence < r'.sequence) →
    (∀ k, image k = readImage (readAnswer answer s.memory (0x20000 + 32 * k) 32)) → SlotTakes image records taken →
    (∀ k f, fails k f ↔ taken k = none ∧ f = .imageInvalid ∨
      ∃ i again, taken k = some (i, again) ∧ s.engine.Misplaces k i ∧
        f = if defaulted then .pursesWithoutConfig else .purseMisplaced) →
    (∀ k f, k < 4096 → fails k f → (∀ j, j < k → ∀ f', ¬ fails j f') →
      exec (.restoreImages answer) s = .next { s with restore := { s.restore with
        part := .restoreFailed, finding := f, stage := .idle } }) ∧
    ((∀ k, k < 4096 → ∀ f, ¬ fails k f) → ∃ (e : Engine) (u : State) (rewrites : List (Nat × List Byte)),
      u = { s with engine := e } ∧ e = { s.engine with cards := e.cards, sponsors := e.sponsors } ∧
      (∀ k, k < 4096 → ∀ i again, taken k = some (i, again) → e.Seats k i) ∧
      (∀ k, 4096 ≤ k + s.engine.sponsorCount → e.card k = s.engine.card k) ∧
      (∀ m, s.engine.sponsorCount ≤ m → e.sponsor m = s.engine.sponsor m) ∧
      rewrites.Pairwise (fun x y => x.1 < y.1) ∧
      (∀ k unit, (k, unit) ∈ rewrites ↔ k < 4096 ∧ ∃ i, taken k = some (i, true) ∧ unit = imageUnit k i) ∧
      (rewrites = [] → ∃ t, exec (.restoreImages answer) s = .next t ∧ Restored n records u t) ∧
      (∀ k unit rest, rewrites = (k, unit) :: rest → exec (.restoreImages answer) s =
        .next (State.Issues .restoreImage (0x20000 + 32 * k) unit
          { u with restore := { s.restore with stage := .rewriting n records rest } })))) ∧
  (∀ (s u : State) (w : StoreWrite) (n : Nat) (records : List Record) (rest : List (Nat × List Byte)) (status : Byte)
      (effect : WriteEffect) (answer : StoreAnswer),
    s.Writes .restoreImage w → s.restore.stage = .rewriting n records rest → s.Succeeds w status effect answer →
    u = { s with memory := writeEffect effect w s.memory } →
    (∀ k unit more, rest = (k, unit) :: more → exec (.storeWriteComplete effect ⟨status, answer⟩) s =
      .next (State.Issues .restoreImage (0x20000 + 32 * k) unit
        { u with restore := { s.restore with stage := .rewriting n records more } })) ∧
    (rest = [] → ∃ t, exec (.storeWriteComplete effect ⟨status, answer⟩) s = .next t ∧ Restored n records u t)) ∧
  (∀ (s : State) (w : StoreWrite) (effect : WriteEffect) (c : Instr), s.Writes .restoreImage w → w.attempt = 3 →
    s.FailsBy w effect c → exec c s = .next { s with
      memory := writeEffect effect w s.memory, journal := { s.journal with port := none },
      restore := { s.restore with part := .restoreFailed, finding := .storeWrite, stage := .idle } }) ∧
  (∀ k q x, restoredState k q .unlisted ≠ .unlisted ∧ (x ≠ .unlisted → restoredState k q x = x))

/-- FORMAT_STORE (R196): accepted in UNFORMATTED and RESTORE_FAILED, and in READY on an exhausted journal with no hold open and no
close running, each waiting read answered NOT_READY; refused while RESTORING or FORMATTING, on a journal not exhausted, with a hold
open, and while a close runs. The format writes the header with its mark cleared, the void unit into every ring slot, a FREE image
into every image slot, and the whole header (R197). The last write leaves the part READY in period 1 with every purse FREE, its card
number as it was (R2), and an empty journal, and answers the FORMAT_STORE that waits (R198); a write that fails at its third attempt
leaves it UNFORMATTED with STORE_WRITE and answers STORE_FAULT. A reset that cuts the last write leaves the mark cleared (log entry
15). Card number 0 of the FREE images is log entry 8, the empty capture ring of a format that failed log entry 16, the one write of
each header log entry 15: the model's choices. So is that a journal event handed to the engine and not yet taken neither bars the
format in READY nor is dropped by it (log entry 35), and what becomes of a format accepted before the exhaustion is taken (log entry
14). -/
def Obligations.formatRuns : Prop :=
  ∀ (l : Lane) (s : State),
    (s.Asks (.formatStore l) → (s.restore.part = .unformatted ∨ s.restore.part = .restoreFailed) →
      exec (.formatStore l) s = .next { s.taken with restore := { s.restore with
        part := .formatting, stage := .idle, format := some l } }) ∧
    (s.Asks (.formatStore l) → (s.restore.part = .restoring ∨ s.restore.part = .formatting) →
      exec (.formatStore l) s = .next (fillReply l .notReady [] s.taken)) ∧
    (s.AsksReady (.formatStore l) → s.journal.lastDurable < 4294967231 →
      exec (.formatStore l) s = .next (fillReply l .notPermitted [] s.taken)) ∧
    (s.AsksReady (.formatStore l) → 4294967231 ≤ s.journal.lastDurable →
      (s.engine.openHolds ≠ 0 → exec (.formatStore l) s = .next (fillReply l .inUse [] s.taken)) ∧
      (s.engine.openHolds = 0 → s.period.state ≠ .opened →
        exec (.formatStore l) s = .next (fillReply l .periodClosing [] s.taken)) ∧
      (s.engine.openHolds = 0 → s.period.state = .opened → exec (.formatStore l) s = .next { s.taken with
        lanes := (fillAll (s.journal.reads.map ReadWait.lane) .notReady s).lanes,
        journal := { s.journal with reads := [] },
        restore := { s.restore with part := .formatting, finding := .none, stage := .idle, format := some l } })) ∧
    (∀ w status effect answer (u : State) (header : List Byte), s.Succeeds w status effect answer →
      u = { s with memory := writeEffect effect w s.memory } →
      header = [0x5A, 0x3C, 0x96, 0xC3, 0x01] ++ beBytes 4 1 ++ beBytes 4 1 →
      (s.Writes .formatClear w → exec (.storeWriteComplete effect ⟨status, answer⟩) s =
        .next (u.Issues (.formatVoid 0) 0x40000 (List.replicate 32 0))) ∧
      (∀ k, k < 8191 → s.Writes (.formatVoid k) w → exec (.storeWriteComplete effect ⟨status, answer⟩) s =
        .next (u.Issues (.formatVoid (k + 1)) (0x40000 + 32 * (k + 1)) (List.replicate 32 0))) ∧
      (s.Writes (.formatVoid 8191) w → exec (.storeWriteComplete effect ⟨status, answer⟩) s =
        .next (u.Issues (.formatImage 0) 0x20000 (imageUnit 0 (.card ⟨.free, 0, 0, 0, 0, 0⟩ 0)))) ∧
      (∀ k, k < 4095 → s.Writes (.formatImage k) w → exec (.storeWriteComplete effect ⟨status, answer⟩) s =
        .next (u.Issues (.formatImage (k + 1)) (0x20000 + 32 * (k + 1))
          (imageUnit (k + 1) (.card ⟨.free, 0, 0, 0, 0, 0⟩ 0)))) ∧
      (s.Writes (.formatImage 4095) w → exec (.storeWriteComplete effect ⟨status, answer⟩) s =
        .next (u.Issues .formatHeader 0 (header ++ checkBytes header ++ List.replicate 241 0 ++
          configBlock s.workingConfig ++ checkBytes (configBlock s.workingConfig) ++ List.replicate 130642 0))) ∧
      (s.Writes .formatHeader w → s.restore.format = some l → ∃ e : Engine,
        e = { s.engine with
          cards := e.cards, sponsors := e.sponsors, ring := [], totals := Totals.zero, partialMark := false,
          closed := { totals := Totals.zero, partialMark := false, period := 0 } } ∧
        (s.tablesCanonical → ∀ k, k < 4096 →
          e.card k = { CardPurse.free with cardNumber := (s.engine.card k).cardNumber }) ∧
        (∀ n, e.sponsor n = SponsorPurse.zero) ∧
        exec (.storeWriteComplete effect ⟨status, answer⟩) s = .next (fillReply l .ok (beBytes 4 1) { u with
          engine := e,
          period := { s.period with number := 1, state := .opened, drainTimer := .stopped },
          journal := { s.journal with
            lastDurable := 0, nextSeq := 1, store := .ok, queue := [], stale := [], voidSlot := none,
            exhaustionDue := false, port := none },
          config := { s.config with source := .formatted },
          restore := { s.restore with
            part := .ready, finding := .none, ringBase := 1, formatPeriod := 1, format := none } }))) ∧
    (∀ op w effect c, (op = .formatClear ∨ (∃ k, op = .formatVoid k) ∨ (∃ k, op = .formatImage k) ∨
        op = .formatHeader) → s.Writes op w → s.restore.format = some l → w.attempt = 3 → s.FailsBy w effect c →
      exec c s = .next (fillReply l .storeFault [] { s with
        memory := unfinishedEffect op effect w s.memory, engine := { s.engine with ring := [] },
        journal := { s.journal with port := none },
        restore := { s.restore with
          part := .unformatted, finding := .storeWrite, stage := .idle, format := none } })) ∧
    (∀ w cut c t, s.Writes .formatHeader w → s.memoryCanonical → 4 ≤ w.bytes.length →
      (c = .powerOnReset cut ∨ c = .pinReset cut ∨ c = .resetNLow cut) → exec c s = .next t →
      ∀ i, i < 4 → readByte t.memory (w.address + i) = 0)
end

