-- ==== Sys2Proof/Laws/State.lean ====
section
/-! SUPPORT. One lemma for each field under each update of the state, true by unfolding: no later proof unfolds a record
update. -/

namespace Sys2Proof.Machine

@[simp] theorem State.mapArbiter_lanes (f : Arbiter → Arbiter) (s : State) : (s.mapArbiter f).lanes = s.lanes := rfl
@[simp] theorem State.mapArbiter_arbiter (f : Arbiter → Arbiter) (s : State) : (s.mapArbiter f).arbiter = f s.arbiter := rfl
@[simp] theorem State.mapArbiter_engine (f : Arbiter → Arbiter) (s : State) : (s.mapArbiter f).engine = s.engine := rfl
@[simp] theorem State.mapArbiter_deadlines (f : Arbiter → Arbiter) (s : State) : (s.mapArbiter f).deadlines = s.deadlines := rfl
@[simp] theorem State.mapArbiter_period (f : Arbiter → Arbiter) (s : State) : (s.mapArbiter f).period = s.period := rfl
@[simp] theorem State.mapArbiter_journal (f : Arbiter → Arbiter) (s : State) : (s.mapArbiter f).journal = s.journal := rfl
@[simp] theorem State.mapArbiter_notices (f : Arbiter → Arbiter) (s : State) : (s.mapArbiter f).notices = s.notices := rfl
@[simp] theorem State.mapArbiter_config (f : Arbiter → Arbiter) (s : State) : (s.mapArbiter f).config = s.config := rfl
@[simp] theorem State.mapArbiter_restore (f : Arbiter → Arbiter) (s : State) : (s.mapArbiter f).restore = s.restore := rfl
@[simp] theorem State.mapArbiter_memory (f : Arbiter → Arbiter) (s : State) : (s.mapArbiter f).memory = s.memory := rfl
@[simp] theorem State.mapArbiter_pending (f : Arbiter → Arbiter) (s : State) : (s.mapArbiter f).pending = s.pending := rfl

@[simp] theorem State.mapEngine_lanes (f : Engine → Engine) (s : State) : (s.mapEngine f).lanes = s.lanes := rfl
@[simp] theorem State.mapEngine_arbiter (f : Engine → Engine) (s : State) : (s.mapEngine f).arbiter = s.arbiter := rfl
@[simp] theorem State.mapEngine_engine (f : Engine → Engine) (s : State) : (s.mapEngine f).engine = f s.engine := rfl
@[simp] theorem State.mapEngine_deadlines (f : Engine → Engine) (s : State) : (s.mapEngine f).deadlines = s.deadlines := rfl
@[simp] theorem State.mapEngine_period (f : Engine → Engine) (s : State) : (s.mapEngine f).period = s.period := rfl
@[simp] theorem State.mapEngine_journal (f : Engine → Engine) (s : State) : (s.mapEngine f).journal = s.journal := rfl
@[simp] theorem State.mapEngine_notices (f : Engine → Engine) (s : State) : (s.mapEngine f).notices = s.notices := rfl
@[simp] theorem State.mapEngine_config (f : Engine → Engine) (s : State) : (s.mapEngine f).config = s.config := rfl
@[simp] theorem State.mapEngine_restore (f : Engine → Engine) (s : State) : (s.mapEngine f).restore = s.restore := rfl
@[simp] theorem State.mapEngine_memory (f : Engine → Engine) (s : State) : (s.mapEngine f).memory = s.memory := rfl
@[simp] theorem State.mapEngine_pending (f : Engine → Engine) (s : State) : (s.mapEngine f).pending = s.pending := rfl

@[simp] theorem State.mapDeadlines_lanes (f : DeadlineUnit → DeadlineUnit) (s : State) : (s.mapDeadlines f).lanes = s.lanes := rfl
@[simp] theorem State.mapDeadlines_arbiter (f : DeadlineUnit → DeadlineUnit) (s : State) : (s.mapDeadlines f).arbiter = s.arbiter := rfl
@[simp] theorem State.mapDeadlines_engine (f : DeadlineUnit → DeadlineUnit) (s : State) : (s.mapDeadlines f).engine = s.engine := rfl
@[simp] theorem State.mapDeadlines_deadlines (f : DeadlineUnit → DeadlineUnit) (s : State) : (s.mapDeadlines f).deadlines = f s.deadlines := rfl
@[simp] theorem State.mapDeadlines_period (f : DeadlineUnit → DeadlineUnit) (s : State) : (s.mapDeadlines f).period = s.period := rfl
@[simp] theorem State.mapDeadlines_journal (f : DeadlineUnit → DeadlineUnit) (s : State) : (s.mapDeadlines f).journal = s.journal := rfl
@[simp] theorem State.mapDeadlines_notices (f : DeadlineUnit → DeadlineUnit) (s : State) : (s.mapDeadlines f).notices = s.notices := rfl
@[simp] theorem State.mapDeadlines_config (f : DeadlineUnit → DeadlineUnit) (s : State) : (s.mapDeadlines f).config = s.config := rfl
@[simp] theorem State.mapDeadlines_restore (f : DeadlineUnit → DeadlineUnit) (s : State) : (s.mapDeadlines f).restore = s.restore := rfl
@[simp] theorem State.mapDeadlines_memory (f : DeadlineUnit → DeadlineUnit) (s : State) : (s.mapDeadlines f).memory = s.memory := rfl
@[simp] theorem State.mapDeadlines_pending (f : DeadlineUnit → DeadlineUnit) (s : State) : (s.mapDeadlines f).pending = s.pending := rfl

@[simp] theorem State.mapPeriod_lanes (f : PeriodControl → PeriodControl) (s : State) : (s.mapPeriod f).lanes = s.lanes := rfl
@[simp] theorem State.mapPeriod_arbiter (f : PeriodControl → PeriodControl) (s : State) : (s.mapPeriod f).arbiter = s.arbiter := rfl
@[simp] theorem State.mapPeriod_engine (f : PeriodControl → PeriodControl) (s : State) : (s.mapPeriod f).engine = s.engine := rfl
@[simp] theorem State.mapPeriod_deadlines (f : PeriodControl → PeriodControl) (s : State) : (s.mapPeriod f).deadlines = s.deadlines := rfl
@[simp] theorem State.mapPeriod_period (f : PeriodControl → PeriodControl) (s : State) : (s.mapPeriod f).period = f s.period := rfl
@[simp] theorem State.mapPeriod_journal (f : PeriodControl → PeriodControl) (s : State) : (s.mapPeriod f).journal = s.journal := rfl
@[simp] theorem State.mapPeriod_notices (f : PeriodControl → PeriodControl) (s : State) : (s.mapPeriod f).notices = s.notices := rfl
@[simp] theorem State.mapPeriod_config (f : PeriodControl → PeriodControl) (s : State) : (s.mapPeriod f).config = s.config := rfl
@[simp] theorem State.mapPeriod_restore (f : PeriodControl → PeriodControl) (s : State) : (s.mapPeriod f).restore = s.restore := rfl
@[simp] theorem State.mapPeriod_memory (f : PeriodControl → PeriodControl) (s : State) : (s.mapPeriod f).memory = s.memory := rfl
@[simp] theorem State.mapPeriod_pending (f : PeriodControl → PeriodControl) (s : State) : (s.mapPeriod f).pending = s.pending := rfl

@[simp] theorem State.mapJournal_lanes (f : JournalUnit → JournalUnit) (s : State) : (s.mapJournal f).lanes = s.lanes := rfl
@[simp] theorem State.mapJournal_arbiter (f : JournalUnit → JournalUnit) (s : State) : (s.mapJournal f).arbiter = s.arbiter := rfl
@[simp] theorem State.mapJournal_engine (f : JournalUnit → JournalUnit) (s : State) : (s.mapJournal f).engine = s.engine := rfl
@[simp] theorem State.mapJournal_deadlines (f : JournalUnit → JournalUnit) (s : State) : (s.mapJournal f).deadlines = s.deadlines := rfl
@[simp] theorem State.mapJournal_period (f : JournalUnit → JournalUnit) (s : State) : (s.mapJournal f).period = s.period := rfl
@[simp] theorem State.mapJournal_journal (f : JournalUnit → JournalUnit) (s : State) : (s.mapJournal f).journal = f s.journal := rfl
@[simp] theorem State.mapJournal_notices (f : JournalUnit → JournalUnit) (s : State) : (s.mapJournal f).notices = s.notices := rfl
@[simp] theorem State.mapJournal_config (f : JournalUnit → JournalUnit) (s : State) : (s.mapJournal f).config = s.config := rfl
@[simp] theorem State.mapJournal_restore (f : JournalUnit → JournalUnit) (s : State) : (s.mapJournal f).restore = s.restore := rfl
@[simp] theorem State.mapJournal_memory (f : JournalUnit → JournalUnit) (s : State) : (s.mapJournal f).memory = s.memory := rfl
@[simp] theorem State.mapJournal_pending (f : JournalUnit → JournalUnit) (s : State) : (s.mapJournal f).pending = s.pending := rfl

@[simp] theorem State.mapNotices_lanes (f : NoticeUnit → NoticeUnit) (s : State) : (s.mapNotices f).lanes = s.lanes := rfl
@[simp] theorem State.mapNotices_arbiter (f : NoticeUnit → NoticeUnit) (s : State) : (s.mapNotices f).arbiter = s.arbiter := rfl
@[simp] theorem State.mapNotices_engine (f : NoticeUnit → NoticeUnit) (s : State) : (s.mapNotices f).engine = s.engine := rfl
@[simp] theorem State.mapNotices_deadlines (f : NoticeUnit → NoticeUnit) (s : State) : (s.mapNotices f).deadlines = s.deadlines := rfl
@[simp] theorem State.mapNotices_period (f : NoticeUnit → NoticeUnit) (s : State) : (s.mapNotices f).period = s.period := rfl
@[simp] theorem State.mapNotices_journal (f : NoticeUnit → NoticeUnit) (s : State) : (s.mapNotices f).journal = s.journal := rfl
@[simp] theorem State.mapNotices_notices (f : NoticeUnit → NoticeUnit) (s : State) : (s.mapNotices f).notices = f s.notices := rfl
@[simp] theorem State.mapNotices_config (f : NoticeUnit → NoticeUnit) (s : State) : (s.mapNotices f).config = s.config := rfl
@[simp] theorem State.mapNotices_restore (f : NoticeUnit → NoticeUnit) (s : State) : (s.mapNotices f).restore = s.restore := rfl
@[simp] theorem State.mapNotices_memory (f : NoticeUnit → NoticeUnit) (s : State) : (s.mapNotices f).memory = s.memory := rfl
@[simp] theorem State.mapNotices_pending (f : NoticeUnit → NoticeUnit) (s : State) : (s.mapNotices f).pending = s.pending := rfl

@[simp] theorem State.mapConfig_lanes (f : ConfigUnit → ConfigUnit) (s : State) : (s.mapConfig f).lanes = s.lanes := rfl
@[simp] theorem State.mapConfig_arbiter (f : ConfigUnit → ConfigUnit) (s : State) : (s.mapConfig f).arbiter = s.arbiter := rfl
@[simp] theorem State.mapConfig_engine (f : ConfigUnit → ConfigUnit) (s : State) : (s.mapConfig f).engine = s.engine := rfl
@[simp] theorem State.mapConfig_deadlines (f : ConfigUnit → ConfigUnit) (s : State) : (s.mapConfig f).deadlines = s.deadlines := rfl
@[simp] theorem State.mapConfig_period (f : ConfigUnit → ConfigUnit) (s : State) : (s.mapConfig f).period = s.period := rfl
@[simp] theorem State.mapConfig_journal (f : ConfigUnit → ConfigUnit) (s : State) : (s.mapConfig f).journal = s.journal := rfl
@[simp] theorem State.mapConfig_notices (f : ConfigUnit → ConfigUnit) (s : State) : (s.mapConfig f).notices = s.notices := rfl
@[simp] theorem State.mapConfig_config (f : ConfigUnit → ConfigUnit) (s : State) : (s.mapConfig f).config = f s.config := rfl
@[simp] theorem State.mapConfig_restore (f : ConfigUnit → ConfigUnit) (s : State) : (s.mapConfig f).restore = s.restore := rfl
@[simp] theorem State.mapConfig_memory (f : ConfigUnit → ConfigUnit) (s : State) : (s.mapConfig f).memory = s.memory := rfl
@[simp] theorem State.mapConfig_pending (f : ConfigUnit → ConfigUnit) (s : State) : (s.mapConfig f).pending = s.pending := rfl

@[simp] theorem State.mapRestore_lanes (f : RestoreUnit → RestoreUnit) (s : State) : (s.mapRestore f).lanes = s.lanes := rfl
@[simp] theorem State.mapRestore_arbiter (f : RestoreUnit → RestoreUnit) (s : State) : (s.mapRestore f).arbiter = s.arbiter := rfl
@[simp] theorem State.mapRestore_engine (f : RestoreUnit → RestoreUnit) (s : State) : (s.mapRestore f).engine = s.engine := rfl
@[simp] theorem State.mapRestore_deadlines (f : RestoreUnit → RestoreUnit) (s : State) : (s.mapRestore f).deadlines = s.deadlines := rfl
@[simp] theorem State.mapRestore_period (f : RestoreUnit → RestoreUnit) (s : State) : (s.mapRestore f).period = s.period := rfl
@[simp] theorem State.mapRestore_journal (f : RestoreUnit → RestoreUnit) (s : State) : (s.mapRestore f).journal = s.journal := rfl
@[simp] theorem State.mapRestore_notices (f : RestoreUnit → RestoreUnit) (s : State) : (s.mapRestore f).notices = s.notices := rfl
@[simp] theorem State.mapRestore_config (f : RestoreUnit → RestoreUnit) (s : State) : (s.mapRestore f).config = s.config := rfl
@[simp] theorem State.mapRestore_restore (f : RestoreUnit → RestoreUnit) (s : State) : (s.mapRestore f).restore = f s.restore := rfl
@[simp] theorem State.mapRestore_memory (f : RestoreUnit → RestoreUnit) (s : State) : (s.mapRestore f).memory = s.memory := rfl
@[simp] theorem State.mapRestore_pending (f : RestoreUnit → RestoreUnit) (s : State) : (s.mapRestore f).pending = s.pending := rfl

@[simp] theorem State.withMemory_lanes (m : Memory) (s : State) : (s.withMemory m).lanes = s.lanes := rfl
@[simp] theorem State.withMemory_arbiter (m : Memory) (s : State) : (s.withMemory m).arbiter = s.arbiter := rfl
@[simp] theorem State.withMemory_engine (m : Memory) (s : State) : (s.withMemory m).engine = s.engine := rfl
@[simp] theorem State.withMemory_deadlines (m : Memory) (s : State) : (s.withMemory m).deadlines = s.deadlines := rfl
@[simp] theorem State.withMemory_period (m : Memory) (s : State) : (s.withMemory m).period = s.period := rfl
@[simp] theorem State.withMemory_journal (m : Memory) (s : State) : (s.withMemory m).journal = s.journal := rfl
@[simp] theorem State.withMemory_notices (m : Memory) (s : State) : (s.withMemory m).notices = s.notices := rfl
@[simp] theorem State.withMemory_config (m : Memory) (s : State) : (s.withMemory m).config = s.config := rfl
@[simp] theorem State.withMemory_restore (m : Memory) (s : State) : (s.withMemory m).restore = s.restore := rfl
@[simp] theorem State.withMemory_memory (m : Memory) (s : State) : (s.withMemory m).memory = m := rfl
@[simp] theorem State.withMemory_pending (m : Memory) (s : State) : (s.withMemory m).pending = s.pending := rfl

@[simp] theorem State.mapLane_lanes (l : Lane) (f : LaneUnit → LaneUnit) (s : State) :
    (s.mapLane l f).lanes = s.lanes.set l (f s.lanes[l]) := rfl
@[simp] theorem State.mapLane_arbiter (l : Lane) (f : LaneUnit → LaneUnit) (s : State) :
    (s.mapLane l f).arbiter = s.arbiter := rfl
@[simp] theorem State.mapLane_engine (l : Lane) (f : LaneUnit → LaneUnit) (s : State) :
    (s.mapLane l f).engine = s.engine := rfl
@[simp] theorem State.mapLane_deadlines (l : Lane) (f : LaneUnit → LaneUnit) (s : State) :
    (s.mapLane l f).deadlines = s.deadlines := rfl
@[simp] theorem State.mapLane_period (l : Lane) (f : LaneUnit → LaneUnit) (s : State) :
    (s.mapLane l f).period = s.period := rfl
@[simp] theorem State.mapLane_journal (l : Lane) (f : LaneUnit → LaneUnit) (s : State) :
    (s.mapLane l f).journal = s.journal := rfl
@[simp] theorem State.mapLane_notices (l : Lane) (f : LaneUnit → LaneUnit) (s : State) :
    (s.mapLane l f).notices = s.notices := rfl
@[simp] theorem State.mapLane_config (l : Lane) (f : LaneUnit → LaneUnit) (s : State) :
    (s.mapLane l f).config = s.config := rfl
@[simp] theorem State.mapLane_restore (l : Lane) (f : LaneUnit → LaneUnit) (s : State) :
    (s.mapLane l f).restore = s.restore := rfl
@[simp] theorem State.mapLane_memory (l : Lane) (f : LaneUnit → LaneUnit) (s : State) :
    (s.mapLane l f).memory = s.memory := rfl
@[simp] theorem State.mapLane_pending (l : Lane) (f : LaneUnit → LaneUnit) (s : State) :
    (s.mapLane l f).pending = s.pending := rfl

@[simp] theorem State.mapNoticeLane_lanes (l : Lane) (f : NoticeLane → NoticeLane) (s : State) :
    (s.mapNoticeLane l f).lanes = s.lanes := rfl
@[simp] theorem State.mapNoticeLane_arbiter (l : Lane) (f : NoticeLane → NoticeLane) (s : State) :
    (s.mapNoticeLane l f).arbiter = s.arbiter := rfl
@[simp] theorem State.mapNoticeLane_engine (l : Lane) (f : NoticeLane → NoticeLane) (s : State) :
    (s.mapNoticeLane l f).engine = s.engine := rfl
@[simp] theorem State.mapNoticeLane_deadlines (l : Lane) (f : NoticeLane → NoticeLane) (s : State) :
    (s.mapNoticeLane l f).deadlines = s.deadlines := rfl
@[simp] theorem State.mapNoticeLane_period (l : Lane) (f : NoticeLane → NoticeLane) (s : State) :
    (s.mapNoticeLane l f).period = s.period := rfl
@[simp] theorem State.mapNoticeLane_journal (l : Lane) (f : NoticeLane → NoticeLane) (s : State) :
    (s.mapNoticeLane l f).journal = s.journal := rfl
@[simp] theorem State.mapNoticeLane_notices (l : Lane) (f : NoticeLane → NoticeLane) (s : State) :
    (s.mapNoticeLane l f).notices = { s.notices with lanes := s.notices.lanes.set l (f s.notices.lanes[l]) } := rfl
@[simp] theorem State.mapNoticeLane_config (l : Lane) (f : NoticeLane → NoticeLane) (s : State) :
    (s.mapNoticeLane l f).config = s.config := rfl
@[simp] theorem State.mapNoticeLane_restore (l : Lane) (f : NoticeLane → NoticeLane) (s : State) :
    (s.mapNoticeLane l f).restore = s.restore := rfl
@[simp] theorem State.mapNoticeLane_memory (l : Lane) (f : NoticeLane → NoticeLane) (s : State) :
    (s.mapNoticeLane l f).memory = s.memory := rfl
@[simp] theorem State.mapNoticeLane_pending (l : Lane) (f : NoticeLane → NoticeLane) (s : State) :
    (s.mapNoticeLane l f).pending = s.pending := rfl

/-! ## One lane after an update of one lane -/

theorem State.mapLane_same (l : Lane) (f : LaneUnit → LaneUnit) (s : State) : (s.mapLane l f).lanes[l] = f s.lanes[l] := by
  simp [State.mapLane]

theorem State.mapLane_other (l k : Lane) (f : LaneUnit → LaneUnit) (s : State) (h : k ≠ l) :
    (s.mapLane l f).lanes[k] = s.lanes[k] := by
  have : l.val ≠ k.val := fun e => h (Fin.ext e.symm)
  simp [State.mapLane, this]

theorem State.mapNoticeLane_same (l : Lane) (f : NoticeLane → NoticeLane) (s : State) :
    (s.mapNoticeLane l f).notices.lanes[l] = f s.notices.lanes[l] := by
  simp [State.mapNoticeLane, State.mapNotices]

theorem State.mapNoticeLane_other (l k : Lane) (f : NoticeLane → NoticeLane) (s : State) (h : k ≠ l) :
    (s.mapNoticeLane l f).notices.lanes[k] = s.notices.lanes[k] := by
  have : l.val ≠ k.val := fun e => h (Fin.ext e.symm)
  simp [State.mapNoticeLane, State.mapNotices, this]

/-! ## Updates of the engine's tables -/

@[simp] theorem Engine.mapCard_cards (slot : Nat) (f : CardPurse → CardPurse) (e : Engine) :
    (e.mapCard slot f).cards = Table.put .free slot (f (e.card slot)) e.cards := rfl
@[simp] theorem Engine.mapCard_sponsors (slot : Nat) (f : CardPurse → CardPurse) (e : Engine) :
    (e.mapCard slot f).sponsors = e.sponsors := rfl
@[simp] theorem Engine.mapCard_sponsorCount (slot : Nat) (f : CardPurse → CardPurse) (e : Engine) :
    (e.mapCard slot f).sponsorCount = e.sponsorCount := rfl
@[simp] theorem Engine.mapCard_ranges (slot : Nat) (f : CardPurse → CardPurse) (e : Engine) :
    (e.mapCard slot f).ranges = e.ranges := rfl
@[simp] theorem Engine.mapCard_holds (slot : Nat) (f : CardPurse → CardPurse) (e : Engine) :
    (e.mapCard slot f).holds = e.holds := rfl
@[simp] theorem Engine.mapCard_freeList (slot : Nat) (f : CardPurse → CardPurse) (e : Engine) :
    (e.mapCard slot f).freeList = e.freeList := rfl
@[simp] theorem Engine.mapCard_laneHolds (slot : Nat) (f : CardPurse → CardPurse) (e : Engine) :
    (e.mapCard slot f).laneHolds = e.laneHolds := rfl
@[simp] theorem Engine.mapCard_ring (slot : Nat) (f : CardPurse → CardPurse) (e : Engine) :
    (e.mapCard slot f).ring = e.ring := rfl
@[simp] theorem Engine.mapCard_totals (slot : Nat) (f : CardPurse → CardPurse) (e : Engine) :
    (e.mapCard slot f).totals = e.totals := rfl
@[simp] theorem Engine.mapCard_partialMark (slot : Nat) (f : CardPurse → CardPurse) (e : Engine) :
    (e.mapCard slot f).partialMark = e.partialMark := rfl
@[simp] theorem Engine.mapCard_closed (slot : Nat) (f : CardPurse → CardPurse) (e : Engine) :
    (e.mapCard slot f).closed = e.closed := rfl
@[simp] theorem Engine.mapCard_expiries (slot : Nat) (f : CardPurse → CardPurse) (e : Engine) :
    (e.mapCard slot f).expiries = e.expiries := rfl
@[simp] theorem Engine.mapCard_lostLanes (slot : Nat) (f : CardPurse → CardPurse) (e : Engine) :
    (e.mapCard slot f).lostLanes = e.lostLanes := rfl
@[simp] theorem Engine.mapCard_drains (slot : Nat) (f : CardPurse → CardPurse) (e : Engine) :
    (e.mapCard slot f).drains = e.drains := rfl
@[simp] theorem Engine.mapCard_journalEvents (slot : Nat) (f : CardPurse → CardPurse) (e : Engine) :
    (e.mapCard slot f).journalEvents = e.journalEvents := rfl

@[simp] theorem Engine.mapSponsor_cards (n : Nat) (f : SponsorPurse → SponsorPurse) (e : Engine) :
    (e.mapSponsor n f).cards = e.cards := rfl
@[simp] theorem Engine.mapSponsor_sponsors (n : Nat) (f : SponsorPurse → SponsorPurse) (e : Engine) :
    (e.mapSponsor n f).sponsors = Table.put .zero n (f (e.sponsor n)) e.sponsors := rfl
@[simp] theorem Engine.mapSponsor_sponsorCount (n : Nat) (f : SponsorPurse → SponsorPurse) (e : Engine) :
    (e.mapSponsor n f).sponsorCount = e.sponsorCount := rfl
@[simp] theorem Engine.mapSponsor_ranges (n : Nat) (f : SponsorPurse → SponsorPurse) (e : Engine) :
    (e.mapSponsor n f).ranges = e.ranges := rfl
@[simp] theorem Engine.mapSponsor_holds (n : Nat) (f : SponsorPurse → SponsorPurse) (e : Engine) :
    (e.mapSponsor n f).holds = e.holds := rfl
@[simp] theorem Engine.mapSponsor_freeList (n : Nat) (f : SponsorPurse → SponsorPurse) (e : Engine) :
    (e.mapSponsor n f).freeList = e.freeList := rfl
@[simp] theorem Engine.mapSponsor_laneHolds (n : Nat) (f : SponsorPurse → SponsorPurse) (e : Engine) :
    (e.mapSponsor n f).laneHolds = e.laneHolds := rfl
@[simp] theorem Engine.mapSponsor_ring (n : Nat) (f : SponsorPurse → SponsorPurse) (e : Engine) :
    (e.mapSponsor n f).ring = e.ring := rfl
@[simp] theorem Engine.mapSponsor_totals (n : Nat) (f : SponsorPurse → SponsorPurse) (e : Engine) :
    (e.mapSponsor n f).totals = e.totals := rfl
@[simp] theorem Engine.mapSponsor_partialMark (n : Nat) (f : SponsorPurse → SponsorPurse) (e : Engine) :
    (e.mapSponsor n f).partialMark = e.partialMark := rfl
@[simp] theorem Engine.mapSponsor_closed (n : Nat) (f : SponsorPurse → SponsorPurse) (e : Engine) :
    (e.mapSponsor n f).closed = e.closed := rfl
@[simp] theorem Engine.mapSponsor_expiries (n : Nat) (f : SponsorPurse → SponsorPurse) (e : Engine) :
    (e.mapSponsor n f).expiries = e.expiries := rfl
@[simp] theorem Engine.mapSponsor_lostLanes (n : Nat) (f : SponsorPurse → SponsorPurse) (e : Engine) :
    (e.mapSponsor n f).lostLanes = e.lostLanes := rfl
@[simp] theorem Engine.mapSponsor_drains (n : Nat) (f : SponsorPurse → SponsorPurse) (e : Engine) :
    (e.mapSponsor n f).drains = e.drains := rfl
@[simp] theorem Engine.mapSponsor_journalEvents (n : Nat) (f : SponsorPurse → SponsorPurse) (e : Engine) :
    (e.mapSponsor n f).journalEvents = e.journalEvents := rfl

@[simp] theorem Engine.mapHold_cards (slot : Nat) (f : Hold → Hold) (e : Engine) :
    (e.mapHold slot f).cards = e.cards := rfl
@[simp] theorem Engine.mapHold_sponsors (slot : Nat) (f : Hold → Hold) (e : Engine) :
    (e.mapHold slot f).sponsors = e.sponsors := rfl
@[simp] theorem Engine.mapHold_sponsorCount (slot : Nat) (f : Hold → Hold) (e : Engine) :
    (e.mapHold slot f).sponsorCount = e.sponsorCount := rfl
@[simp] theorem Engine.mapHold_ranges (slot : Nat) (f : Hold → Hold) (e : Engine) :
    (e.mapHold slot f).ranges = e.ranges := rfl
@[simp] theorem Engine.mapHold_holds (slot : Nat) (f : Hold → Hold) (e : Engine) :
    (e.mapHold slot f).holds = Table.put .free slot (f (e.hold slot)) e.holds := rfl
@[simp] theorem Engine.mapHold_freeList (slot : Nat) (f : Hold → Hold) (e : Engine) :
    (e.mapHold slot f).freeList = e.freeList := rfl
@[simp] theorem Engine.mapHold_laneHolds (slot : Nat) (f : Hold → Hold) (e : Engine) :
    (e.mapHold slot f).laneHolds = e.laneHolds := rfl
@[simp] theorem Engine.mapHold_ring (slot : Nat) (f : Hold → Hold) (e : Engine) :
    (e.mapHold slot f).ring = e.ring := rfl
@[simp] theorem Engine.mapHold_totals (slot : Nat) (f : Hold → Hold) (e : Engine) :
    (e.mapHold slot f).totals = e.totals := rfl
@[simp] theorem Engine.mapHold_partialMark (slot : Nat) (f : Hold → Hold) (e : Engine) :
    (e.mapHold slot f).partialMark = e.partialMark := rfl
@[simp] theorem Engine.mapHold_closed (slot : Nat) (f : Hold → Hold) (e : Engine) :
    (e.mapHold slot f).closed = e.closed := rfl
@[simp] theorem Engine.mapHold_expiries (slot : Nat) (f : Hold → Hold) (e : Engine) :
    (e.mapHold slot f).expiries = e.expiries := rfl
@[simp] theorem Engine.mapHold_lostLanes (slot : Nat) (f : Hold → Hold) (e : Engine) :
    (e.mapHold slot f).lostLanes = e.lostLanes := rfl
@[simp] theorem Engine.mapHold_drains (slot : Nat) (f : Hold → Hold) (e : Engine) :
    (e.mapHold slot f).drains = e.drains := rfl
@[simp] theorem Engine.mapHold_journalEvents (slot : Nat) (f : Hold → Hold) (e : Engine) :
    (e.mapHold slot f).journalEvents = e.journalEvents := rfl

@[simp] theorem Engine.mapLaneHolds_cards (l : Lane) (f : List Nat → List Nat) (e : Engine) :
    (e.mapLaneHolds l f).cards = e.cards := rfl
@[simp] theorem Engine.mapLaneHolds_sponsors (l : Lane) (f : List Nat → List Nat) (e : Engine) :
    (e.mapLaneHolds l f).sponsors = e.sponsors := rfl
@[simp] theorem Engine.mapLaneHolds_sponsorCount (l : Lane) (f : List Nat → List Nat) (e : Engine) :
    (e.mapLaneHolds l f).sponsorCount = e.sponsorCount := rfl
@[simp] theorem Engine.mapLaneHolds_ranges (l : Lane) (f : List Nat → List Nat) (e : Engine) :
    (e.mapLaneHolds l f).ranges = e.ranges := rfl
@[simp] theorem Engine.mapLaneHolds_holds (l : Lane) (f : List Nat → List Nat) (e : Engine) :
    (e.mapLaneHolds l f).holds = e.holds := rfl
@[simp] theorem Engine.mapLaneHolds_freeList (l : Lane) (f : List Nat → List Nat) (e : Engine) :
    (e.mapLaneHolds l f).freeList = e.freeList := rfl
@[simp] theorem Engine.mapLaneHolds_laneHolds (l : Lane) (f : List Nat → List Nat) (e : Engine) :
    (e.mapLaneHolds l f).laneHolds = e.laneHolds.set l (f e.laneHolds[l]) := rfl
@[simp] theorem Engine.mapLaneHolds_ring (l : Lane) (f : List Nat → List Nat) (e : Engine) :
    (e.mapLaneHolds l f).ring = e.ring := rfl
@[simp] theorem Engine.mapLaneHolds_totals (l : Lane) (f : List Nat → List Nat) (e : Engine) :
    (e.mapLaneHolds l f).totals = e.totals := rfl
@[simp] theorem Engine.mapLaneHolds_partialMark (l : Lane) (f : List Nat → List Nat) (e : Engine) :
    (e.mapLaneHolds l f).partialMark = e.partialMark := rfl
@[simp] theorem Engine.mapLaneHolds_closed (l : Lane) (f : List Nat → List Nat) (e : Engine) :
    (e.mapLaneHolds l f).closed = e.closed := rfl
@[simp] theorem Engine.mapLaneHolds_expiries (l : Lane) (f : List Nat → List Nat) (e : Engine) :
    (e.mapLaneHolds l f).expiries = e.expiries := rfl
@[simp] theorem Engine.mapLaneHolds_lostLanes (l : Lane) (f : List Nat → List Nat) (e : Engine) :
    (e.mapLaneHolds l f).lostLanes = e.lostLanes := rfl
@[simp] theorem Engine.mapLaneHolds_drains (l : Lane) (f : List Nat → List Nat) (e : Engine) :
    (e.mapLaneHolds l f).drains = e.drains := rfl
@[simp] theorem Engine.mapLaneHolds_journalEvents (l : Lane) (f : List Nat → List Nat) (e : Engine) :
    (e.mapLaneHolds l f).journalEvents = e.journalEvents := rfl

@[simp] theorem Engine.mapSponsor?_cards (n : Option Nat) (f : SponsorPurse → SponsorPurse) (e : Engine) :
    (e.mapSponsor? n f).cards = e.cards := by cases n <;> rfl
@[simp] theorem Engine.mapSponsor?_sponsorCount (n : Option Nat) (f : SponsorPurse → SponsorPurse) (e : Engine) :
    (e.mapSponsor? n f).sponsorCount = e.sponsorCount := by cases n <;> rfl
@[simp] theorem Engine.mapSponsor?_ranges (n : Option Nat) (f : SponsorPurse → SponsorPurse) (e : Engine) :
    (e.mapSponsor? n f).ranges = e.ranges := by cases n <;> rfl
@[simp] theorem Engine.mapSponsor?_holds (n : Option Nat) (f : SponsorPurse → SponsorPurse) (e : Engine) :
    (e.mapSponsor? n f).holds = e.holds := by cases n <;> rfl
@[simp] theorem Engine.mapSponsor?_freeList (n : Option Nat) (f : SponsorPurse → SponsorPurse) (e : Engine) :
    (e.mapSponsor? n f).freeList = e.freeList := by cases n <;> rfl
@[simp] theorem Engine.mapSponsor?_laneHolds (n : Option Nat) (f : SponsorPurse → SponsorPurse) (e : Engine) :
    (e.mapSponsor? n f).laneHolds = e.laneHolds := by cases n <;> rfl
@[simp] theorem Engine.mapSponsor?_ring (n : Option Nat) (f : SponsorPurse → SponsorPurse) (e : Engine) :
    (e.mapSponsor? n f).ring = e.ring := by cases n <;> rfl
@[simp] theorem Engine.mapSponsor?_totals (n : Option Nat) (f : SponsorPurse → SponsorPurse) (e : Engine) :
    (e.mapSponsor? n f).totals = e.totals := by cases n <;> rfl
@[simp] theorem Engine.mapSponsor?_partialMark (n : Option Nat) (f : SponsorPurse → SponsorPurse) (e : Engine) :
    (e.mapSponsor? n f).partialMark = e.partialMark := by cases n <;> rfl
@[simp] theorem Engine.mapSponsor?_closed (n : Option Nat) (f : SponsorPurse → SponsorPurse) (e : Engine) :
    (e.mapSponsor? n f).closed = e.closed := by cases n <;> rfl
@[simp] theorem Engine.mapSponsor?_expiries (n : Option Nat) (f : SponsorPurse → SponsorPurse) (e : Engine) :
    (e.mapSponsor? n f).expiries = e.expiries := by cases n <;> rfl
@[simp] theorem Engine.mapSponsor?_lostLanes (n : Option Nat) (f : SponsorPurse → SponsorPurse) (e : Engine) :
    (e.mapSponsor? n f).lostLanes = e.lostLanes := by cases n <;> rfl
@[simp] theorem Engine.mapSponsor?_drains (n : Option Nat) (f : SponsorPurse → SponsorPurse) (e : Engine) :
    (e.mapSponsor? n f).drains = e.drains := by cases n <;> rfl
@[simp] theorem Engine.mapSponsor?_journalEvents (n : Option Nat) (f : SponsorPurse → SponsorPurse) (e : Engine) :
    (e.mapSponsor? n f).journalEvents = e.journalEvents := by cases n <;> rfl

end Sys2Proof.Machine
end

