-- ==== Sys2Proof/Laws/Table.lean ====
section
/-! SUPPORT. Laws of data by key: reading after writing, after changing a range and after clearing, and that every
change keeps the canonical form. -/

namespace Sys2Proof.Machine

variable {α : Type} [DecidableEq α] {d : α}

/-- A bound below a canonical rest may be lowered. -/
theorem Table.above_mono {lo lo' : Nat} {t : Table α} (h : lo' ≤ lo) (ht : Table.above d lo t = true) :
    Table.above d lo' t = true := by
  cases t with
  | nil => rfl
  | cons x t =>
    obtain ⟨j, w⟩ := x
    simp only [Table.above, Bool.and_eq_true, decide_eq_true_eq, Bool.not_eq_true', decide_eq_false_iff_not] at ht ⊢
    exact ⟨⟨by omega, ht.1.2⟩, ht.2⟩

/-- What lies above a bound is canonical. -/
theorem Table.wf_of_above {lo : Nat} {t : Table α} (ht : Table.above d lo t = true) : Table.wf d t = true := by
  cases t with
  | nil => rfl
  | cons x t =>
    obtain ⟨j, w⟩ := x
    simp only [Table.above, Table.wf, Bool.and_eq_true] at ht ⊢
    exact ⟨ht.1.2, ht.2⟩

/-- A key at or below the bound is unlisted. -/
theorem Table.get_of_above {lo k : Nat} {t : Table α} (h : k ≤ lo) (ht : Table.above d lo t = true) :
    Table.get d k t = d := by
  induction t generalizing lo with
  | nil => rfl
  | cons x t ih =>
    obtain ⟨j, w⟩ := x
    simp only [Table.above, Bool.and_eq_true, decide_eq_true_eq, Bool.not_eq_true', decide_eq_false_iff_not] at ht
    have hne : k ≠ j := by omega
    simp only [Table.get, hne, if_false]
    exact ih (by omega) ht.2

/-- Writing above a bound stays above it. -/
theorem Table.above_put {lo k : Nat} {v : α} {t : Table α} (h : lo < k) (ht : Table.above d lo t = true) :
    Table.above d lo (Table.put d k v t) = true := by
  induction t generalizing lo with
  | nil => by_cases hv : v = d <;> simp [Table.put, Table.above, hv, h]
  | cons x t ih =>
    obtain ⟨j, w⟩ := x
    simp only [Table.above, Bool.and_eq_true, decide_eq_true_eq, Bool.not_eq_true', decide_eq_false_iff_not] at ht
    by_cases hkj : k < j
    · by_cases hv : v = d <;> simp [Table.put, Table.above, hkj, hv, ht.1.1, ht.1.2, ht.2, h]
    · by_cases hk : k = j
      · subst hk
        by_cases hv : v = d
        · simpa [Table.put, hv] using Table.above_mono (Nat.le_of_lt ht.1.1) ht.2
        · simp [Table.put, Table.above, hv, h, ht.2]
      · simp [Table.put, Table.above, hkj, hk, ht.1.1, ht.1.2, ih (by omega) ht.2]

/-- A write keeps the canonical form. -/
theorem Table.wf_put (k : Nat) (v : α) {t : Table α} (ht : Table.wf d t = true) :
    Table.wf d (Table.put d k v t) = true := by
  cases t with
  | nil => by_cases hv : v = d <;> simp [Table.put, Table.wf, Table.above, hv]
  | cons x t =>
    obtain ⟨j, w⟩ := x
    simp only [Table.wf, Bool.and_eq_true, Bool.not_eq_true', decide_eq_false_iff_not] at ht
    by_cases hkj : k < j
    · by_cases hv : v = d <;> simp [Table.put, Table.wf, Table.above, hkj, hv, ht.1, ht.2]
    · by_cases hk : k = j
      · subst hk
        by_cases hv : v = d
        · simpa [Table.put, hv] using Table.wf_of_above ht.2
        · simp [Table.put, Table.wf, hv, ht.2]
      · simp [Table.put, Table.wf, hkj, hk, ht.1, Table.above_put (show j < k by omega) ht.2]

/-- The key written holds the value written. -/
theorem Table.get_put_same (k : Nat) (v : α) {t : Table α} (ht : Table.wf d t = true) :
    Table.get d k (Table.put d k v t) = v := by
  induction t with
  | nil => by_cases hv : v = d <;> simp [Table.put, Table.get, hv]
  | cons x t ih =>
    obtain ⟨j, w⟩ := x
    simp only [Table.wf, Bool.and_eq_true, Bool.not_eq_true', decide_eq_false_iff_not] at ht
    by_cases hkj : k < j
    · by_cases hv : v = d
      · have hne : k ≠ j := by omega
        simp [Table.put, Table.get, hkj, hv, hne, Table.get_of_above (Nat.le_of_lt hkj) ht.2]
      · simp [Table.put, Table.get, hkj, hv]
    · by_cases hk : k = j
      · subst hk
        by_cases hv : v = d
        · simp [Table.put, hv, Table.get_of_above (Nat.le_refl k) ht.2]
        · simp [Table.put, Table.get, hv]
      · simp [Table.put, Table.get, hkj, hk, ih (Table.wf_of_above ht.2)]

/-- Every other key holds what it held. -/
theorem Table.get_put_other {j k : Nat} (v : α) (h : j ≠ k) (t : Table α) :
    Table.get d j (Table.put d k v t) = Table.get d j t := by
  induction t with
  | nil => by_cases hv : v = d <;> simp [Table.put, Table.get, hv, h]
  | cons x t ih =>
    obtain ⟨i, w⟩ := x
    by_cases hki : k < i
    · by_cases hv : v = d <;> simp [Table.put, Table.get, hki, hv, h]
    · by_cases hk : k = i
      · subst hk
        by_cases hv : v = d <;> simp [Table.put, Table.get, hv, h]
      · by_cases hj : j = i <;> simp [Table.put, Table.get, hki, hk, hj, ih]

/-- Keeping some entries keeps what lies above a bound. -/
theorem Table.above_filter {lo : Nat} (p : Nat × α → Bool) {t : Table α} (ht : Table.above d lo t = true) :
    Table.above d lo (t.filter p) = true := by
  induction t generalizing lo with
  | nil => rfl
  | cons x t ih =>
    obtain ⟨j, w⟩ := x
    simp only [Table.above, Bool.and_eq_true, decide_eq_true_eq, Bool.not_eq_true', decide_eq_false_iff_not] at ht
    by_cases hp : p (j, w) = true
    · simp [hp, Table.above, ht.1.1, ht.1.2, ih ht.2]
    · simp only [List.filter_cons, hp]
      exact ih (Table.above_mono (Nat.le_of_lt ht.1.1) ht.2)

/-- Changing a range of keys keeps what lies above a bound. -/
theorem Table.above_mapRange {lo : Nat} (a b : Nat) (f : α → α) {t : Table α} (ht : Table.above d lo t = true) :
    Table.above d lo (Table.mapRange d a b f t) = true := by
  induction t generalizing lo with
  | nil => rfl
  | cons x t ih =>
    obtain ⟨j, w⟩ := x
    simp only [Table.above, Bool.and_eq_true, decide_eq_true_eq, Bool.not_eq_true', decide_eq_false_iff_not] at ht
    have rest := ih ht.2
    by_cases hj : a ≤ j ∧ j < b
    · by_cases hd : f w = d
      · simpa [Table.mapRange, List.filterMap_cons, hj, hd] using Table.above_mono (Nat.le_of_lt ht.1.1) rest
      · simpa [Table.mapRange, List.filterMap_cons, hj, hd, Table.above, ht.1.1] using rest
    · simpa [Table.mapRange, List.filterMap_cons, hj, Table.above, ht.1.1, ht.1.2] using rest

/-- Changing a range of keys keeps the canonical form. -/
theorem Table.wf_mapRange (a b : Nat) (f : α → α) {t : Table α} (ht : Table.wf d t = true) :
    Table.wf d (Table.mapRange d a b f t) = true := by
  cases t with
  | nil => rfl
  | cons x t =>
    obtain ⟨j, w⟩ := x
    simp only [Table.wf, Bool.and_eq_true, Bool.not_eq_true', decide_eq_false_iff_not] at ht
    have rest := Table.above_mapRange a b f ht.2
    by_cases hj : a ≤ j ∧ j < b
    · by_cases hd : f w = d
      · simpa [Table.mapRange, List.filterMap_cons, hj, hd] using Table.wf_of_above rest
      · simpa [Table.mapRange, List.filterMap_cons, hj, hd, Table.wf] using rest
    · simpa [Table.mapRange, List.filterMap_cons, hj, Table.wf, ht.1] using rest

/-- A key outside the range holds what it held. -/
theorem Table.get_mapRange_other (a b k : Nat) (f : α → α) (h : ¬ (a ≤ k ∧ k < b)) (t : Table α) :
    Table.get d k (Table.mapRange d a b f t) = Table.get d k t := by
  induction t with
  | nil => rfl
  | cons x t ih =>
    obtain ⟨j, w⟩ := x
    by_cases hj : a ≤ j ∧ j < b
    · have hk : k ≠ j := by
        rintro rfl
        exact h hj
      by_cases hd : f w = d <;> simpa [Table.mapRange, List.filterMap_cons, hj, hd, Table.get, hk] using ih
    · by_cases hk : k = j
      · subst hk
        simp [Table.mapRange, hj, Table.get]
      · simpa [Table.mapRange, List.filterMap_cons, hj, Table.get, hk] using ih

/-- A key of the range holds what `f` makes of it; every other key holds what it held. -/
theorem Table.get_mapRange (a b k : Nat) (f : α → α) (hf : f d = d) {t : Table α} (ht : Table.wf d t = true) :
    Table.get d k (Table.mapRange d a b f t) = if a ≤ k ∧ k < b then f (Table.get d k t) else Table.get d k t := by
  induction t with
  | nil => simp [Table.mapRange, Table.get, hf]
  | cons x t ih =>
    obtain ⟨j, w⟩ := x
    simp only [Table.wf, Bool.and_eq_true, Bool.not_eq_true', decide_eq_false_iff_not] at ht
    have rest := ih (Table.wf_of_above ht.2)
    by_cases hj : a ≤ j ∧ j < b
    · by_cases hd : f w = d
      · by_cases hk : k = j
        · subst hk
          simpa [Table.mapRange, List.filterMap_cons, hj, hd, Table.get] using
            Table.get_of_above (Nat.le_refl k) (Table.above_mapRange a b f ht.2)
        · simpa [Table.mapRange, List.filterMap_cons, hj, hd, Table.get, hk] using rest
      · by_cases hk : k = j
        · subst hk
          simp [Table.mapRange, hj, hd, Table.get]
        · simpa [Table.mapRange, List.filterMap_cons, hj, hd, Table.get, hk] using rest
    · by_cases hk : k = j
      · subst hk
        simp [Table.mapRange, hj, Table.get]
      · simpa [Table.mapRange, List.filterMap_cons, hj, Table.get, hk] using rest

/-- Clearing keys keeps the canonical form. -/
theorem Table.wf_clearRange (lo hi : Nat) {t : Table α} (ht : Table.wf d t = true) :
    Table.wf d (Table.clearRange lo hi t) = true := by
  unfold Table.clearRange
  cases t with
  | nil => rfl
  | cons x t =>
    obtain ⟨j, w⟩ := x
    simp only [Table.wf, Bool.and_eq_true, Bool.not_eq_true', decide_eq_false_iff_not] at ht
    by_cases hp : (decide (j < lo) || decide (hi ≤ j)) = true
    · simp only [List.filter_cons, hp, if_true]
      simp only [Table.wf, Bool.and_eq_true, Bool.not_eq_true', decide_eq_false_iff_not]
      exact ⟨ht.1, Table.above_filter _ ht.2⟩
    · simp only [List.filter_cons, hp]
      exact Table.wf_of_above (Table.above_filter _ ht.2)

omit [DecidableEq α] in
/-- A cleared key holds the default; every other key holds what it held. -/
theorem Table.get_clearRange (lo hi k : Nat) (t : Table α) :
    Table.get d k (Table.clearRange lo hi t) = if lo ≤ k ∧ k < hi then d else Table.get d k t := by
  unfold Table.clearRange
  induction t with
  | nil => by_cases h : lo ≤ k ∧ k < hi <;> simp [Table.get, h]
  | cons x t ih =>
    obtain ⟨j, w⟩ := x
    by_cases hp : (decide (j < lo) || decide (hi ≤ j)) = true
    · simp only [List.filter_cons, hp, if_true]
      by_cases hk : k = j
      · subst hk
        simp only [Bool.or_eq_true, decide_eq_true_eq] at hp
        have : ¬ (lo ≤ k ∧ k < hi) := by omega
        simp [Table.get, this]
      · simp [Table.get, hk, ih]
    · simp only [List.filter_cons, hp]
      simp only [Bool.or_eq_true, decide_eq_true_eq, not_or] at hp
      by_cases hk : k = j
      · subst hk
        have : lo ≤ k ∧ k < hi := by omega
        simp only [this, and_self, if_true] at ih ⊢
        simpa using ih
      · simpa [Table.get, hk] using ih

end Sys2Proof.Machine
end

