-- ==== Sys2Proof/Laws/Engine.lean ====
section
/-! SUPPORT. One purse or hold read after one purse or hold has changed, and the intake taken before a refresh. -/

namespace Sys2Proof.Machine

theorem Engine.card_mapCard_same (e : Engine) (h : Table.wf .free e.cards = true) (k : Nat)
    (f : CardPurse → CardPurse) : (e.mapCard k f).card k = f (e.card k) := by
  simp only [Engine.mapCard, Engine.card]
  exact Table.get_put_same _ _ h

theorem Engine.card_mapCard_other (e : Engine) {j k : Nat} (h : j ≠ k) (f : CardPurse → CardPurse) :
    (e.mapCard k f).card j = e.card j := by
  simp only [Engine.mapCard, Engine.card]
  exact Table.get_put_other _ h _

/-- The emptied slots are FREE with the card numbers they last held; every other slot is as it was. -/
theorem Engine.card_emptyCards (e : Engine) (h : Table.wf .free e.cards = true) (lo hi k : Nat) :
    (e.emptyCards lo hi).card k = if lo ≤ k ∧ k < hi then (e.card k).emptied else e.card k :=
  Table.get_mapRange lo hi k CardPurse.emptied rfl h

/-- A slot outside those emptied is as it was. -/
theorem Engine.card_emptyCards_other (e : Engine) {lo hi k : Nat} (h : ¬ (lo ≤ k ∧ k < hi)) :
    (e.emptyCards lo hi).card k = e.card k :=
  Table.get_mapRange_other lo hi k CardPurse.emptied h e.cards

/-- Emptying card purses keeps the canonical form. -/
theorem Engine.wf_emptyCards (e : Engine) (h : Table.wf .free e.cards = true) (lo hi : Nat) :
    Table.wf .free (e.emptyCards lo hi).cards = true := Table.wf_mapRange lo hi CardPurse.emptied h

theorem Engine.hold_mapHold_same (e : Engine) (h : Table.wf .free e.holds = true) (k : Nat) (f : Hold → Hold) :
    (e.mapHold k f).hold k = f (e.hold k) := by
  simp only [Engine.mapHold, Engine.hold]
  exact Table.get_put_same _ _ h

theorem Engine.hold_mapHold_other (e : Engine) {j k : Nat} (h : j ≠ k) (f : Hold → Hold) :
    (e.mapHold k f).hold j = e.hold j := by
  simp only [Engine.mapHold, Engine.hold]
  exact Table.get_put_other _ h _

theorem Engine.sponsor_mapSponsor_same (e : Engine) (h : Table.wf .zero e.sponsors = true) (k : Nat)
    (f : SponsorPurse → SponsorPurse) : (e.mapSponsor k f).sponsor k = f (e.sponsor k) := by
  simp only [Engine.mapSponsor, Engine.sponsor]
  exact Table.get_put_same _ _ h

theorem Engine.sponsor_mapSponsor_other (e : Engine) {j k : Nat} (h : j ≠ k) (f : SponsorPurse → SponsorPurse) :
    (e.mapSponsor k f).sponsor j = e.sponsor j := by
  simp only [Engine.mapSponsor, Engine.sponsor]
  exact Table.get_put_other _ h _

/-- A card purse is the same after any change of sponsors, holds or lists, and so on: these reads see one table each. -/
@[simp] theorem Engine.card_mapSponsor (e : Engine) (k n : Nat) (f : SponsorPurse → SponsorPurse) :
    (e.mapSponsor n f).card k = e.card k := rfl
@[simp] theorem Engine.card_mapSponsor? (e : Engine) (k : Nat) (n : Option Nat) (f : SponsorPurse → SponsorPurse) :
    (e.mapSponsor? n f).card k = e.card k := by cases n <;> rfl
@[simp] theorem Engine.card_mapHold (e : Engine) (k n : Nat) (f : Hold → Hold) : (e.mapHold n f).card k = e.card k := rfl
@[simp] theorem Engine.card_mapLaneHolds (e : Engine) (k : Nat) (l : Lane) (f : List Nat → List Nat) :
    (e.mapLaneHolds l f).card k = e.card k := rfl
@[simp] theorem Engine.hold_mapCard (e : Engine) (k n : Nat) (f : CardPurse → CardPurse) :
    (e.mapCard n f).hold k = e.hold k := rfl
@[simp] theorem Engine.hold_mapSponsor (e : Engine) (k n : Nat) (f : SponsorPurse → SponsorPurse) :
    (e.mapSponsor n f).hold k = e.hold k := rfl
@[simp] theorem Engine.hold_mapSponsor? (e : Engine) (k : Nat) (n : Option Nat) (f : SponsorPurse → SponsorPurse) :
    (e.mapSponsor? n f).hold k = e.hold k := by cases n <;> rfl
@[simp] theorem Engine.hold_mapLaneHolds (e : Engine) (k : Nat) (l : Lane) (f : List Nat → List Nat) :
    (e.mapLaneHolds l f).hold k = e.hold k := rfl
@[simp] theorem Engine.sponsor_mapCard (e : Engine) (k n : Nat) (f : CardPurse → CardPurse) :
    (e.mapCard n f).sponsor k = e.sponsor k := rfl
@[simp] theorem Engine.sponsor_mapHold (e : Engine) (k n : Nat) (f : Hold → Hold) :
    (e.mapHold n f).sponsor k = e.sponsor k := rfl
@[simp] theorem Engine.sponsor_mapLaneHolds (e : Engine) (k : Nat) (l : Lane) (f : List Nat → List Nat) :
    (e.mapLaneHolds l f).sponsor k = e.sponsor k := rfl

@[simp] theorem State.taken_engine (s : State) : s.taken.engine = s.engine := rfl
@[simp] theorem State.taken_lanes (s : State) : s.taken.lanes = s.lanes := rfl
@[simp] theorem State.taken_period (s : State) : s.taken.period = s.period := rfl
@[simp] theorem State.taken_journal (s : State) : s.taken.journal = s.journal := rfl
@[simp] theorem State.taken_deadlines (s : State) : s.taken.deadlines = s.deadlines := rfl
@[simp] theorem State.taken_notices (s : State) : s.taken.notices = s.notices := rfl
@[simp] theorem State.taken_config (s : State) : s.taken.config = s.config := rfl
@[simp] theorem State.taken_restore (s : State) : s.taken.restore = s.restore := rfl
@[simp] theorem State.taken_memory (s : State) : s.taken.memory = s.memory := rfl
@[simp] theorem State.taken_pending (s : State) : s.taken.pending = s.pending := rfl

/-- What an owner does with the request it has taken, as `State.taken` writes it. -/
theorem State.mapArbiter_taken (s : State) : (s.mapArbiter fun a => { a with intake := none }) = s.taken := rfl

theorem refresh_of_due {slot : Nat} {s : State}
    (h : (s.engine.card slot).state ≠ .free ∧ (s.engine.card slot).allowancePeriod ≠ s.period.number) :
    refresh slot s = s.mapEngine fun e => e.mapCard slot
      (CardPurse.refreshed s.period.number (grantOf e.ranges (s.engine.card slot).cardNumber)) := if_pos h

theorem refresh_of_current {slot : Nat} {s : State}
    (h : ¬ ((s.engine.card slot).state ≠ .free ∧ (s.engine.card slot).allowancePeriod ≠ s.period.number)) :
    refresh slot s = s := if_neg h

/-- The refresh looks at nothing but the engine and the period. -/
theorem refresh_taken (slot : Nat) (s : State) : refresh slot s.taken = (refresh slot s).taken := by
  by_cases h : (s.engine.card slot).state ≠ .free ∧ (s.engine.card slot).allowancePeriod ≠ s.period.number
  · rw [refresh_of_due (s := s) h, refresh_of_due (s := s.taken) h]
    rfl
  · rw [refresh_of_current (s := s) h, refresh_of_current (s := s.taken) h]

end Sys2Proof.Machine
end

