-- ==== Sys2Proof/Laws/Lanes.lean ====
section
/-! SUPPORT. What the arrival checks answer (R155, R157), by the lane's role and state. Later proofs cite these and unfold no
check. -/

namespace Sys2Proof.Machine

@[simp] theorem refusesWhileLost_lost (k : RequestKind) : refusesWhileLost .lost k = !takenWhileLost k := rfl

theorem refusesWhileLost_notLost {state : LaneState} (k : RequestKind) (h : state ≠ .lost) :
    refusesWhileLost state k = false := by simp [refusesWhileLost, h]

theorem roleRefusal_notLost {state : LaneState} (k : RequestKind) (h : state ≠ .lost) :
    roleRefusal state k = .notPermitted := by simp [roleRefusal, refusesWhileLost_notLost k h]

/-- On a LOST lane the free value says which of the two refusals it is (log entry 34). -/
theorem roleRefusal_lost {k : RequestKind} (h : takenWhileLost k = false) :
    roleRefusal .lost k = if Config.lossRefusesFirst (kindCode k) then .laneRecovering else .notPermitted := by
  simp [roleRefusal, h]

variable {r : Role} {state : LaneState} {f : Frame} {k : RequestKind}

/-- The arrival checks of a frame whose kind and body length are right (R155). -/
theorem arrivalRefusal_wellFormed (hk : kindOfCode f.kind = some k) (hb : f.body.length = bodyLength k) :
    arrivalRefusal r state f =
      if roleMaySend r k then if refusesWhileLost state k then some .laneRecovering else none
      else some (roleRefusal state k) := by
  cases hr : roleMaySend r k <;> simp [arrivalRefusal, hk, hb, hr]

/-- Where the lane is not LOST, a kind its role does not allow is NOT_PERMITTED (R157). -/
theorem arrivalRefusal_notLost (hk : kindOfCode f.kind = some k) (hb : f.body.length = bodyLength k)
    (hr : roleMaySend r k = false) (hs : state ≠ .lost) : arrivalRefusal r state f = some .notPermitted := by
  simp [arrivalRefusal_wellFormed hk hb, hr, roleRefusal_notLost k hs]

/-- In every lane state a kind the role does not allow is refused, with one of two results (R155, R165). -/
theorem arrivalRefusal_roleNotAllowed (hk : kindOfCode f.kind = some k) (hb : f.body.length = bodyLength k)
    (hr : roleMaySend r k = false) :
    arrivalRefusal r state f = some .laneRecovering ∨ arrivalRefusal r state f = some .notPermitted := by
  simp only [arrivalRefusal_wellFormed hk hb, hr, Bool.false_eq_true, if_false, roleRefusal]
  split <;> simp

end Sys2Proof.Machine
end

