-- ==== Sys2Proof/Laws/Memory.lean ====
section
/-! SUPPORT. Laws of the store's bytes: what a write leaves at each address, and that every operation on the store keeps
its canonical form. -/

namespace Sys2Proof.Machine

/-- The store after a reset with nothing listed is canonical. -/
theorem Memory.wf_reset : Memory.wf State.reset.memory = true := rfl

theorem writeBytes_wf (m : Memory) (a : Nat) (bytes : List Byte) (h : Memory.wf m = true) :
    Memory.wf (writeBytes m a bytes) = true := by
  induction bytes generalizing m a with
  | nil => exact h
  | cons b bs ih => exact ih _ _ (Table.wf_put a b h)

/-- Whatever a write leaves, the store stays canonical. -/
theorem writeEffect_wf (effect : WriteEffect) (w : StoreWrite) (m : Memory) (h : Memory.wf m = true) :
    Memory.wf (writeEffect effect w m) = true := by
  cases effect with
  | whole => exact writeBytes_wf _ _ _ h
  | nothing => exact h
  | left bytes => exact writeBytes_wf _ _ _ h

/-- Whatever an unfinished write leaves, the store stays canonical. -/
theorem unfinishedEffect_wf (op : PortOp) (effect : WriteEffect) (w : StoreWrite) (m : Memory) (h : Memory.wf m = true) :
    Memory.wf (unfinishedEffect op effect w m) = true := by
  have := writeEffect_wf effect w m h
  cases op <;> first | exact this | exact writeBytes_wf _ _ _ this

/-- A reset that cuts a write short leaves the store canonical. -/
theorem cutWrite_wf (cut : WriteEffect) (s : State) (h : Memory.wf s.memory = true) :
    Memory.wf (cutWrite cut s) = true := by
  unfold cutWrite
  split
  · exact unfinishedEffect_wf _ _ _ _ h
  · exact h

/-- A byte outside the bytes written reads as before. -/
theorem readByte_writeBytes_outside (m : Memory) (a : Nat) (bytes : List Byte) (x : Nat)
    (h : x < a ∨ a + bytes.length ≤ x) : readByte (writeBytes m a bytes) x = readByte m x := by
  induction bytes generalizing m a with
  | nil => rfl
  | cons b bs ih =>
    simp only [List.length_cons] at h
    rw [writeBytes, ih _ _ (by omega)]
    exact Table.get_put_other b (by omega) m

/-- A byte written reads as written. -/
theorem readByte_writeBytes_inside (m : Memory) (a : Nat) (bytes : List Byte) (i : Nat) (hi : i < bytes.length)
    (h : Memory.wf m = true) : readByte (writeBytes m a bytes) (a + i) = bytes[i] := by
  induction bytes generalizing m a i with
  | nil => exact absurd hi (Nat.not_lt_zero i)
  | cons b bs ih =>
    cases i with
    | zero =>
      rw [writeBytes, Nat.add_zero, readByte_writeBytes_outside _ _ _ _ (by omega)]
      exact Table.get_put_same a b h
    | succ i =>
      have := ih (Table.put 0 a b m) (a + 1) i (by simpa using hi) (Table.wf_put a b h)
      rw [writeBytes]
      rw [show a + (i + 1) = a + 1 + i by omega]
      simpa using this

/-- A write touches no byte outside the bytes it covers, whatever the device leaves. -/
theorem readByte_writeEffect_outside (effect : WriteEffect) (w : StoreWrite) (m : Memory) (x : Nat)
    (h : x < w.address ∨ w.address + w.bytes.length ≤ x) : readByte (writeEffect effect w m) x = readByte m x := by
  cases effect with
  | whole => exact readByte_writeBytes_outside _ _ _ _ h
  | nothing => rfl
  | left bytes =>
    refine readByte_writeBytes_outside _ _ _ _ ?_
    simp only [List.length_take]
    omega

/-- An unfinished write touches no byte outside the bytes it covers. -/
theorem readByte_unfinishedEffect_outside (op : PortOp) (effect : WriteEffect) (w : StoreWrite) (m : Memory) (x : Nat)
    (h : x < w.address ∨ w.address + w.bytes.length ≤ x) :
    readByte (unfinishedEffect op effect w m) x = readByte m x := by
  have := readByte_writeEffect_outside effect w m x h
  cases op with
  | formatHeader =>
    refine (readByte_writeBytes_outside _ _ _ _ ?_).trans this
    simp only [List.length_take]
    omega
  | _ => exact this

/-- An unfinished last header write of a format leaves the format mark cleared (R197). -/
theorem readByte_unfinishedEffect_mark (effect : WriteEffect) (w : StoreWrite) (m : Memory) (i : Nat) (hi : i < 4)
    (hw : 4 ≤ w.bytes.length) (h : Memory.wf m = true) :
    readByte (unfinishedEffect .formatHeader effect w m) (w.address + i) = 0 := by
  have hl : (clearedMark.take w.bytes.length).length = 4 := by simp only [List.length_take, clearedMark, List.length_cons, List.length_nil]; omega
  refine (readByte_writeBytes_inside _ _ _ i (by omega) (writeEffect_wf effect w m h)).trans ?_
  rw [List.getElem_take]
  rcases i with _ | _ | _ | _ | i <;> first | rfl | omega

/-- Every entry is at or after an address, canonically. -/
def Memory.fromOn (a : Nat) (m : Memory) : Prop := m = [] ∨ (0 < a ∧ Table.above 0 (a - 1) m = true) ∨
  (a = 0 ∧ Memory.wf m = true)

theorem Memory.fromOn_cons {a j : Nat} {b : Byte} {t : Memory} (h : Memory.fromOn a ((j, b) :: t)) :
    a ≤ j ∧ Memory.fromOn (j + 1) t := by
  rcases h with h | ⟨ha, h⟩ | ⟨ha, h⟩
  · exact absurd h (by simp)
  · simp only [Table.above, Bool.and_eq_true, decide_eq_true_eq] at h
    exact ⟨by omega, Or.inr (Or.inl ⟨by omega, by simpa using h.2⟩)⟩
  · simp only [Memory.wf, Table.wf, Bool.and_eq_true] at h
    exact ⟨by omega, Or.inr (Or.inl ⟨by omega, by simpa using h.2⟩)⟩

theorem Memory.fromOn_raise {a j : Nat} {b : Byte} {t : Memory} (h : Memory.fromOn a ((j, b) :: t)) (ha : a ≤ j) :
    Memory.fromOn (j - a + a) ((j, b) :: t) := by
  rcases h with h | ⟨h0, h⟩ | ⟨h0, h⟩
  · exact absurd h (by simp)
  · refine Or.inr (Or.inl ⟨by omega, ?_⟩)
    simp only [Table.above, Bool.and_eq_true, decide_eq_true_eq] at h ⊢
    exact ⟨⟨by omega, h.1.2⟩, h.2⟩
  · by_cases hj : j = 0
    · subst hj; subst h0; exact Or.inr (Or.inr ⟨rfl, h⟩)
    · refine Or.inr (Or.inl ⟨by omega, ?_⟩)
      simp only [Memory.wf, Table.wf, Table.above, Bool.and_eq_true, decide_eq_true_eq] at h ⊢
      exact ⟨⟨by omega, h.1⟩, h.2⟩

theorem Memory.fromOn_of_le {a a' : Nat} {m : Memory} (h : Memory.fromOn a m) (hle : ∀ x ∈ m.head?, a' ≤ x.1) :
    Memory.fromOn a' m := by
  cases m with
  | nil => exact Or.inl rfl
  | cons x t =>
    obtain ⟨j, b⟩ := x
    have haj := (Memory.fromOn_cons h).1
    have h' := Memory.fromOn_raise h haj
    have hj : a' ≤ j := hle (j, b) rfl
    rw [Nat.sub_add_cancel haj] at h'
    rcases h' with h' | ⟨h0, h'⟩ | ⟨h0, h'⟩
    · exact absurd h' (by simp)
    · by_cases ha' : a' = 0
      · exact Or.inr (Or.inr ⟨ha', Table.wf_of_above h'⟩)
      · exact Or.inr (Or.inl ⟨by omega, Table.above_mono (by omega) h'⟩)
    · have : a' = 0 := by omega
      exact Or.inr (Or.inr ⟨this, h'⟩)

/-- Reading on from an address gives the byte at each address in turn. -/
theorem readFrom_eq (m : Memory) (a n : Nat) (h : Memory.fromOn a m) :
    readFrom m a n = (List.range n).map fun i => readByte m (a + i) := by
  induction n generalizing m a with
  | zero => cases m <;> rfl
  | succ n ih =>
    rw [List.range_succ_eq_map, List.map_cons, List.map_map]
    cases m with
    | nil =>
      rw [readFrom, ih [] (a + 1) (Or.inl rfl)]
      rfl
    | cons x t =>
      obtain ⟨j, b⟩ := x
      obtain ⟨haj, ht⟩ := Memory.fromOn_cons h
      rw [readFrom]
      by_cases hj : j = a
      · subst hj
        rw [if_pos rfl, ih t (j + 1) ht]
        refine congrArg₂ List.cons (by simp [readByte, Table.get]) (List.map_congr_left fun i _ => ?_)
        simp only [Function.comp, readByte, Table.get]
        rw [if_neg (by omega), show j + 1 + i = j + (i + 1) by omega]
      · rw [if_neg hj, ih ((j, b) :: t) (a + 1) (Memory.fromOn_of_le h (by simp; omega))]
        refine congrArg₂ List.cons ?_ (List.map_congr_left fun i _ => ?_)
        · have := Memory.fromOn_of_le (a' := a + 1) h (by simp; omega)
          rcases this with h' | ⟨_, h'⟩ | ⟨h0, _⟩
          · exact absurd h' (by simp)
          · exact (Table.get_of_above (by omega) h').symm
          · omega
        · simp only [Function.comp]
          rw [show a + 1 + i = a + (i + 1) by omega]

/-- Skipping the entries below an address keeps the bytes from it on. -/
theorem readByte_dropWhile (m : Memory) (a x : Nat) (h : a ≤ x) :
    readByte (m.dropWhile fun e => e.1 < a) x = readByte m x := by
  induction m with
  | nil => rfl
  | cons e t ih =>
    obtain ⟨j, b⟩ := e
    by_cases hj : j < a
    · rw [List.dropWhile_cons_of_pos (by simpa using hj), ih]
      simp only [readByte, Table.get]
      rw [if_neg (by omega)]
    · rw [List.dropWhile_cons_of_neg (by simpa using hj)]

theorem Memory.fromOn_dropWhile (m : Memory) (a : Nat) (h : Memory.wf m = true) :
    Memory.fromOn a (m.dropWhile fun e => e.1 < a) := by
  induction m with
  | nil => exact Or.inl rfl
  | cons e t ih =>
    obtain ⟨j, b⟩ := e
    by_cases hj : j < a
    · rw [List.dropWhile_cons_of_pos (by simpa using hj)]
      simp only [Memory.wf, Table.wf, Bool.and_eq_true] at h
      exact ih (Table.wf_of_above h.2)
    · rw [List.dropWhile_cons_of_neg (by simpa using hj)]
      exact Memory.fromOn_of_le (a := 0) (Or.inr (Or.inr ⟨rfl, h⟩)) (by simp; omega)

/-- The bytes read are the byte at each address in turn. -/
theorem readBytes_eq (m : Memory) (a n : Nat) (h : Memory.wf m = true) :
    readBytes m a n = (List.range n).map fun i => readByte m (a + i) := by
  rw [readBytes, readFrom_eq _ _ _ (Memory.fromOn_dropWhile m a h)]
  exact List.map_congr_left fun i _ => readByte_dropWhile m a (a + i) (by omega)

/-- What has been written whole reads back as written. -/
theorem readBytes_writeBytes (m : Memory) (a : Nat) (bytes : List Byte) (h : Memory.wf m = true) :
    readBytes (writeBytes m a bytes) a bytes.length = bytes := by
  rw [readBytes_eq _ _ _ (writeBytes_wf m a bytes h)]
  refine List.ext_getElem (by simp) fun i hi hi' => ?_
  simpa using readByte_writeBytes_inside m a bytes i hi' h

end Sys2Proof.Machine
end

