-- ==== Sys2Proof/Laws/Ops.lean ====
section
/-! SUPPORT. For each shared operation: the blocks it leaves alone, one lemma for each block, and what it does to the
blocks it changes. Later proofs cite these and unfold no operation. -/

namespace Sys2Proof.Machine

/-! ## fillReply, refuse, fillAll -/

@[simp] theorem fillReply_arbiter (l : Lane) (r : Result) (b : List Byte) (s : State) : (fillReply l r b s).arbiter = s.arbiter := rfl
@[simp] theorem fillReply_engine (l : Lane) (r : Result) (b : List Byte) (s : State) : (fillReply l r b s).engine = s.engine := rfl
@[simp] theorem fillReply_deadlines (l : Lane) (r : Result) (b : List Byte) (s : State) : (fillReply l r b s).deadlines = s.deadlines := rfl
@[simp] theorem fillReply_period (l : Lane) (r : Result) (b : List Byte) (s : State) : (fillReply l r b s).period = s.period := rfl
@[simp] theorem fillReply_journal (l : Lane) (r : Result) (b : List Byte) (s : State) : (fillReply l r b s).journal = s.journal := rfl
@[simp] theorem fillReply_notices (l : Lane) (r : Result) (b : List Byte) (s : State) : (fillReply l r b s).notices = s.notices := rfl
@[simp] theorem fillReply_config (l : Lane) (r : Result) (b : List Byte) (s : State) : (fillReply l r b s).config = s.config := rfl
@[simp] theorem fillReply_restore (l : Lane) (r : Result) (b : List Byte) (s : State) : (fillReply l r b s).restore = s.restore := rfl
@[simp] theorem fillReply_memory (l : Lane) (r : Result) (b : List Byte) (s : State) : (fillReply l r b s).memory = s.memory := rfl
@[simp] theorem fillReply_pending (l : Lane) (r : Result) (b : List Byte) (s : State) : (fillReply l r b s).pending = s.pending := rfl

@[simp] theorem refuse_arbiter (l : Lane) (r : Result) (s : State) : (refuse l r s).arbiter = s.arbiter := rfl
@[simp] theorem refuse_engine (l : Lane) (r : Result) (s : State) : (refuse l r s).engine = s.engine := rfl
@[simp] theorem refuse_deadlines (l : Lane) (r : Result) (s : State) : (refuse l r s).deadlines = s.deadlines := rfl
@[simp] theorem refuse_period (l : Lane) (r : Result) (s : State) : (refuse l r s).period = s.period := rfl
@[simp] theorem refuse_journal (l : Lane) (r : Result) (s : State) : (refuse l r s).journal = s.journal := rfl
@[simp] theorem refuse_notices (l : Lane) (r : Result) (s : State) : (refuse l r s).notices = s.notices := rfl
@[simp] theorem refuse_config (l : Lane) (r : Result) (s : State) : (refuse l r s).config = s.config := rfl
@[simp] theorem refuse_restore (l : Lane) (r : Result) (s : State) : (refuse l r s).restore = s.restore := rfl
@[simp] theorem refuse_memory (l : Lane) (r : Result) (s : State) : (refuse l r s).memory = s.memory := rfl
@[simp] theorem refuse_pending (l : Lane) (r : Result) (s : State) : (refuse l r s).pending = s.pending := rfl

theorem fillAll_cons (l : Lane) (ls : List Lane) (r : Result) (s : State) :
    fillAll (l :: ls) r s = fillAll ls r (refuse l r s) := rfl

@[simp] theorem fillAll_arbiter (ls : List Lane) (r : Result) (s : State) : (fillAll ls r s).arbiter = s.arbiter := by
  induction ls generalizing s with
  | nil => rfl
  | cons l ls ih => rw [fillAll_cons, ih]; simp
@[simp] theorem fillAll_engine (ls : List Lane) (r : Result) (s : State) : (fillAll ls r s).engine = s.engine := by
  induction ls generalizing s with
  | nil => rfl
  | cons l ls ih => rw [fillAll_cons, ih]; simp
@[simp] theorem fillAll_deadlines (ls : List Lane) (r : Result) (s : State) : (fillAll ls r s).deadlines = s.deadlines := by
  induction ls generalizing s with
  | nil => rfl
  | cons l ls ih => rw [fillAll_cons, ih]; simp
@[simp] theorem fillAll_period (ls : List Lane) (r : Result) (s : State) : (fillAll ls r s).period = s.period := by
  induction ls generalizing s with
  | nil => rfl
  | cons l ls ih => rw [fillAll_cons, ih]; simp
@[simp] theorem fillAll_journal (ls : List Lane) (r : Result) (s : State) : (fillAll ls r s).journal = s.journal := by
  induction ls generalizing s with
  | nil => rfl
  | cons l ls ih => rw [fillAll_cons, ih]; simp
@[simp] theorem fillAll_notices (ls : List Lane) (r : Result) (s : State) : (fillAll ls r s).notices = s.notices := by
  induction ls generalizing s with
  | nil => rfl
  | cons l ls ih => rw [fillAll_cons, ih]; simp
@[simp] theorem fillAll_config (ls : List Lane) (r : Result) (s : State) : (fillAll ls r s).config = s.config := by
  induction ls generalizing s with
  | nil => rfl
  | cons l ls ih => rw [fillAll_cons, ih]; simp
@[simp] theorem fillAll_restore (ls : List Lane) (r : Result) (s : State) : (fillAll ls r s).restore = s.restore := by
  induction ls generalizing s with
  | nil => rfl
  | cons l ls ih => rw [fillAll_cons, ih]; simp
@[simp] theorem fillAll_memory (ls : List Lane) (r : Result) (s : State) : (fillAll ls r s).memory = s.memory := by
  induction ls generalizing s with
  | nil => rfl
  | cons l ls ih => rw [fillAll_cons, ih]; simp
@[simp] theorem fillAll_pending (ls : List Lane) (r : Result) (s : State) : (fillAll ls r s).pending = s.pending := by
  induction ls generalizing s with
  | nil => rfl
  | cons l ls ih => rw [fillAll_cons, ih]; simp

/-! ## Notices and flags -/

@[simp] theorem reportPlacement_arbiter (l : Lane) (n : Notice) (s : State) : (reportPlacement l n s).arbiter = s.arbiter := by
  unfold reportPlacement; split <;> simp
@[simp] theorem reportPlacement_engine (l : Lane) (n : Notice) (s : State) : (reportPlacement l n s).engine = s.engine := by
  unfold reportPlacement; split <;> simp
@[simp] theorem reportPlacement_deadlines (l : Lane) (n : Notice) (s : State) : (reportPlacement l n s).deadlines = s.deadlines := by
  unfold reportPlacement; split <;> simp
@[simp] theorem reportPlacement_period (l : Lane) (n : Notice) (s : State) : (reportPlacement l n s).period = s.period := by
  unfold reportPlacement; split <;> simp
@[simp] theorem reportPlacement_journal (l : Lane) (n : Notice) (s : State) : (reportPlacement l n s).journal = s.journal := by
  unfold reportPlacement; split <;> simp
@[simp] theorem reportPlacement_notices (l : Lane) (n : Notice) (s : State) : (reportPlacement l n s).notices = s.notices := by
  unfold reportPlacement; split <;> simp
@[simp] theorem reportPlacement_config (l : Lane) (n : Notice) (s : State) : (reportPlacement l n s).config = s.config := by
  unfold reportPlacement; split <;> simp
@[simp] theorem reportPlacement_restore (l : Lane) (n : Notice) (s : State) : (reportPlacement l n s).restore = s.restore := by
  unfold reportPlacement; split <;> simp
@[simp] theorem reportPlacement_memory (l : Lane) (n : Notice) (s : State) : (reportPlacement l n s).memory = s.memory := by
  unfold reportPlacement; split <;> simp
@[simp] theorem reportPlacement_pending (l : Lane) (n : Notice) (s : State) : (reportPlacement l n s).pending = s.pending := by
  unfold reportPlacement; split <;> simp

@[simp] theorem placeNotice_arbiter (l : Lane) (n : Notice) (s : State) : (placeNotice l n s).arbiter = s.arbiter := by
  unfold placeNotice; split <;> simp
@[simp] theorem placeNotice_engine (l : Lane) (n : Notice) (s : State) : (placeNotice l n s).engine = s.engine := by
  unfold placeNotice; split <;> simp
@[simp] theorem placeNotice_deadlines (l : Lane) (n : Notice) (s : State) : (placeNotice l n s).deadlines = s.deadlines := by
  unfold placeNotice; split <;> simp
@[simp] theorem placeNotice_period (l : Lane) (n : Notice) (s : State) : (placeNotice l n s).period = s.period := by
  unfold placeNotice; split <;> simp
@[simp] theorem placeNotice_journal (l : Lane) (n : Notice) (s : State) : (placeNotice l n s).journal = s.journal := by
  unfold placeNotice; split <;> simp
@[simp] theorem placeNotice_config (l : Lane) (n : Notice) (s : State) : (placeNotice l n s).config = s.config := by
  unfold placeNotice; split <;> simp
@[simp] theorem placeNotice_restore (l : Lane) (n : Notice) (s : State) : (placeNotice l n s).restore = s.restore := by
  unfold placeNotice; split <;> simp
@[simp] theorem placeNotice_memory (l : Lane) (n : Notice) (s : State) : (placeNotice l n s).memory = s.memory := by
  unfold placeNotice; split <;> simp
@[simp] theorem placeNotice_pending (l : Lane) (n : Notice) (s : State) : (placeNotice l n s).pending = s.pending := by
  unfold placeNotice; split <;> simp

@[simp] theorem raiseFlag_arbiter (c : EventClass) (s : State) : (raiseFlag c s).arbiter = s.arbiter := by
  unfold raiseFlag; split
  · rfl
  · dsimp only; split <;> simp
@[simp] theorem raiseFlag_engine (c : EventClass) (s : State) : (raiseFlag c s).engine = s.engine := by
  unfold raiseFlag; split
  · rfl
  · dsimp only; split <;> simp
@[simp] theorem raiseFlag_deadlines (c : EventClass) (s : State) : (raiseFlag c s).deadlines = s.deadlines := by
  unfold raiseFlag; split
  · rfl
  · dsimp only; split <;> simp
@[simp] theorem raiseFlag_period (c : EventClass) (s : State) : (raiseFlag c s).period = s.period := by
  unfold raiseFlag; split
  · rfl
  · dsimp only; split <;> simp
@[simp] theorem raiseFlag_journal (c : EventClass) (s : State) : (raiseFlag c s).journal = s.journal := by
  unfold raiseFlag; split
  · rfl
  · dsimp only; split <;> simp
@[simp] theorem raiseFlag_config (c : EventClass) (s : State) : (raiseFlag c s).config = s.config := by
  unfold raiseFlag; split
  · rfl
  · dsimp only; split <;> simp
@[simp] theorem raiseFlag_restore (c : EventClass) (s : State) : (raiseFlag c s).restore = s.restore := by
  unfold raiseFlag; split
  · rfl
  · dsimp only; split <;> simp
@[simp] theorem raiseFlag_memory (c : EventClass) (s : State) : (raiseFlag c s).memory = s.memory := by
  unfold raiseFlag; split
  · rfl
  · dsimp only; split <;> simp
@[simp] theorem raiseFlag_pending (c : EventClass) (s : State) : (raiseFlag c s).pending = s.pending := by
  unfold raiseFlag; split
  · rfl
  · dsimp only; split <;> simp

/-! ## Refresh -/

@[simp] theorem refresh_lanes (slot : Nat) (s : State) : (refresh slot s).lanes = s.lanes := by
  unfold refresh; dsimp only; split <;> simp
@[simp] theorem refresh_arbiter (slot : Nat) (s : State) : (refresh slot s).arbiter = s.arbiter := by
  unfold refresh; dsimp only; split <;> simp
@[simp] theorem refresh_deadlines (slot : Nat) (s : State) : (refresh slot s).deadlines = s.deadlines := by
  unfold refresh; dsimp only; split <;> simp
@[simp] theorem refresh_period (slot : Nat) (s : State) : (refresh slot s).period = s.period := by
  unfold refresh; dsimp only; split <;> simp
@[simp] theorem refresh_journal (slot : Nat) (s : State) : (refresh slot s).journal = s.journal := by
  unfold refresh; dsimp only; split <;> simp
@[simp] theorem refresh_notices (slot : Nat) (s : State) : (refresh slot s).notices = s.notices := by
  unfold refresh; dsimp only; split <;> simp
@[simp] theorem refresh_config (slot : Nat) (s : State) : (refresh slot s).config = s.config := by
  unfold refresh; dsimp only; split <;> simp
@[simp] theorem refresh_restore (slot : Nat) (s : State) : (refresh slot s).restore = s.restore := by
  unfold refresh; dsimp only; split <;> simp
@[simp] theorem refresh_memory (slot : Nat) (s : State) : (refresh slot s).memory = s.memory := by
  unfold refresh; dsimp only; split <;> simp
@[simp] theorem refresh_pending (slot : Nat) (s : State) : (refresh slot s).pending = s.pending := by
  unfold refresh; dsimp only; split <;> simp

/-! ## Queueing records -/

@[simp] theorem queueRecord_lanes (l : Lane) (n : Nat) (b : RecordBody) (w : Owner) (s : State) : (queueRecord l n b w s).lanes = s.lanes := rfl
@[simp] theorem queueRecord_arbiter (l : Lane) (n : Nat) (b : RecordBody) (w : Owner) (s : State) : (queueRecord l n b w s).arbiter = s.arbiter := rfl
@[simp] theorem queueRecord_engine (l : Lane) (n : Nat) (b : RecordBody) (w : Owner) (s : State) : (queueRecord l n b w s).engine = s.engine := rfl
@[simp] theorem queueRecord_deadlines (l : Lane) (n : Nat) (b : RecordBody) (w : Owner) (s : State) : (queueRecord l n b w s).deadlines = s.deadlines := rfl
@[simp] theorem queueRecord_period (l : Lane) (n : Nat) (b : RecordBody) (w : Owner) (s : State) : (queueRecord l n b w s).period = s.period := rfl
@[simp] theorem queueRecord_notices (l : Lane) (n : Nat) (b : RecordBody) (w : Owner) (s : State) : (queueRecord l n b w s).notices = s.notices := rfl
@[simp] theorem queueRecord_config (l : Lane) (n : Nat) (b : RecordBody) (w : Owner) (s : State) : (queueRecord l n b w s).config = s.config := rfl
@[simp] theorem queueRecord_restore (l : Lane) (n : Nat) (b : RecordBody) (w : Owner) (s : State) : (queueRecord l n b w s).restore = s.restore := rfl
@[simp] theorem queueRecord_memory (l : Lane) (n : Nat) (b : RecordBody) (w : Owner) (s : State) : (queueRecord l n b w s).memory = s.memory := rfl
@[simp] theorem queueRecord_pending (l : Lane) (n : Nat) (b : RecordBody) (w : Owner) (s : State) : (queueRecord l n b w s).pending = s.pending := rfl

@[simp] theorem onNamed_lanes (b : RecordBody) (fc : CardPurse → CardPurse) (fs : SponsorPurse → SponsorPurse) (s : State) : (onNamed b fc fs s).lanes = s.lanes := rfl
@[simp] theorem onNamed_arbiter (b : RecordBody) (fc : CardPurse → CardPurse) (fs : SponsorPurse → SponsorPurse) (s : State) : (onNamed b fc fs s).arbiter = s.arbiter := rfl
@[simp] theorem onNamed_deadlines (b : RecordBody) (fc : CardPurse → CardPurse) (fs : SponsorPurse → SponsorPurse) (s : State) : (onNamed b fc fs s).deadlines = s.deadlines := rfl
@[simp] theorem onNamed_period (b : RecordBody) (fc : CardPurse → CardPurse) (fs : SponsorPurse → SponsorPurse) (s : State) : (onNamed b fc fs s).period = s.period := rfl
@[simp] theorem onNamed_journal (b : RecordBody) (fc : CardPurse → CardPurse) (fs : SponsorPurse → SponsorPurse) (s : State) : (onNamed b fc fs s).journal = s.journal := rfl
@[simp] theorem onNamed_notices (b : RecordBody) (fc : CardPurse → CardPurse) (fs : SponsorPurse → SponsorPurse) (s : State) : (onNamed b fc fs s).notices = s.notices := rfl
@[simp] theorem onNamed_config (b : RecordBody) (fc : CardPurse → CardPurse) (fs : SponsorPurse → SponsorPurse) (s : State) : (onNamed b fc fs s).config = s.config := rfl
@[simp] theorem onNamed_restore (b : RecordBody) (fc : CardPurse → CardPurse) (fs : SponsorPurse → SponsorPurse) (s : State) : (onNamed b fc fs s).restore = s.restore := rfl
@[simp] theorem onNamed_memory (b : RecordBody) (fc : CardPurse → CardPurse) (fs : SponsorPurse → SponsorPurse) (s : State) : (onNamed b fc fs s).memory = s.memory := rfl
@[simp] theorem onNamed_pending (b : RecordBody) (fc : CardPurse → CardPurse) (fs : SponsorPurse → SponsorPurse) (s : State) : (onNamed b fc fs s).pending = s.pending := rfl

@[simp] theorem engineQueues_lanes (l : Lane) (b : RecordBody) (w : Owner) (s : State) : (engineQueues l b w s).lanes = s.lanes := rfl
@[simp] theorem engineQueues_arbiter (l : Lane) (b : RecordBody) (w : Owner) (s : State) : (engineQueues l b w s).arbiter = s.arbiter := rfl
@[simp] theorem engineQueues_deadlines (l : Lane) (b : RecordBody) (w : Owner) (s : State) : (engineQueues l b w s).deadlines = s.deadlines := rfl
@[simp] theorem engineQueues_period (l : Lane) (b : RecordBody) (w : Owner) (s : State) : (engineQueues l b w s).period = s.period := rfl
@[simp] theorem engineQueues_notices (l : Lane) (b : RecordBody) (w : Owner) (s : State) : (engineQueues l b w s).notices = s.notices := rfl
@[simp] theorem engineQueues_config (l : Lane) (b : RecordBody) (w : Owner) (s : State) : (engineQueues l b w s).config = s.config := rfl
@[simp] theorem engineQueues_restore (l : Lane) (b : RecordBody) (w : Owner) (s : State) : (engineQueues l b w s).restore = s.restore := rfl
@[simp] theorem engineQueues_memory (l : Lane) (b : RecordBody) (w : Owner) (s : State) : (engineQueues l b w s).memory = s.memory := rfl
@[simp] theorem engineQueues_pending (l : Lane) (b : RecordBody) (w : Owner) (s : State) : (engineQueues l b w s).pending = s.pending := rfl

/-! ## The close -/

@[simp] theorem closeFails_arbiter (s : State) : (closeFails s).arbiter = s.arbiter := by
  simp [closeFails]
@[simp] theorem closeFails_engine (s : State) : (closeFails s).engine = s.engine := by
  simp [closeFails]
@[simp] theorem closeFails_deadlines (s : State) : (closeFails s).deadlines = s.deadlines := by
  simp [closeFails]
@[simp] theorem closeFails_journal (s : State) : (closeFails s).journal = s.journal := by
  simp [closeFails]
@[simp] theorem closeFails_config (s : State) : (closeFails s).config = s.config := by
  simp [closeFails]
@[simp] theorem closeFails_restore (s : State) : (closeFails s).restore = s.restore := by
  simp [closeFails]
@[simp] theorem closeFails_memory (s : State) : (closeFails s).memory = s.memory := by
  simp [closeFails]
@[simp] theorem closeFails_pending (s : State) : (closeFails s).pending = s.pending := by
  simp [closeFails]

@[simp] theorem completeDrain_arbiter (s : State) : (completeDrain s).arbiter = s.arbiter := by
  unfold completeDrain; dsimp only; split <;> simp
@[simp] theorem completeDrain_engine (s : State) : (completeDrain s).engine = s.engine := by
  unfold completeDrain; dsimp only; split <;> simp
@[simp] theorem completeDrain_deadlines (s : State) : (completeDrain s).deadlines = s.deadlines := by
  unfold completeDrain; dsimp only; split <;> simp
@[simp] theorem completeDrain_config (s : State) : (completeDrain s).config = s.config := by
  unfold completeDrain; dsimp only; split <;> simp
@[simp] theorem completeDrain_restore (s : State) : (completeDrain s).restore = s.restore := by
  unfold completeDrain; dsimp only; split <;> simp
@[simp] theorem completeDrain_memory (s : State) : (completeDrain s).memory = s.memory := by
  unfold completeDrain; dsimp only; split <;> simp
@[simp] theorem completeDrain_pending (s : State) : (completeDrain s).pending = s.pending := by
  unfold completeDrain; dsimp only; split <;> simp

@[simp] theorem reportHolds_arbiter (s : State) : (reportHolds s).arbiter = s.arbiter := by
  unfold reportHolds; dsimp only; split <;> simp
@[simp] theorem reportHolds_engine (s : State) : (reportHolds s).engine = s.engine := by
  unfold reportHolds; dsimp only; split <;> simp
@[simp] theorem reportHolds_deadlines (s : State) : (reportHolds s).deadlines = s.deadlines := by
  unfold reportHolds; dsimp only; split <;> simp
@[simp] theorem reportHolds_config (s : State) : (reportHolds s).config = s.config := by
  unfold reportHolds; dsimp only; split <;> simp
@[simp] theorem reportHolds_restore (s : State) : (reportHolds s).restore = s.restore := by
  unfold reportHolds; dsimp only; split <;> simp
@[simp] theorem reportHolds_memory (s : State) : (reportHolds s).memory = s.memory := by
  unfold reportHolds; dsimp only; split <;> simp
@[simp] theorem reportHolds_pending (s : State) : (reportHolds s).pending = s.pending := by
  unfold reportHolds; dsimp only; split <;> simp

/-! ## Ending a hold -/

@[simp] theorem detachHold_lanes (k : Nat) (w : EndReason) (s : State) : (detachHold k w s).lanes = s.lanes := rfl
@[simp] theorem detachHold_arbiter (k : Nat) (w : EndReason) (s : State) : (detachHold k w s).arbiter = s.arbiter := rfl
@[simp] theorem detachHold_period (k : Nat) (w : EndReason) (s : State) : (detachHold k w s).period = s.period := rfl
@[simp] theorem detachHold_journal (k : Nat) (w : EndReason) (s : State) : (detachHold k w s).journal = s.journal := rfl
@[simp] theorem detachHold_notices (k : Nat) (w : EndReason) (s : State) : (detachHold k w s).notices = s.notices := rfl
@[simp] theorem detachHold_config (k : Nat) (w : EndReason) (s : State) : (detachHold k w s).config = s.config := rfl
@[simp] theorem detachHold_restore (k : Nat) (w : EndReason) (s : State) : (detachHold k w s).restore = s.restore := rfl
@[simp] theorem detachHold_memory (k : Nat) (w : EndReason) (s : State) : (detachHold k w s).memory = s.memory := rfl
@[simp] theorem detachHold_pending (k : Nat) (w : EndReason) (s : State) : (detachHold k w s).pending = s.pending := rfl

@[simp] theorem noticeEnding_arbiter (k : Nat) (w : EndReason) (s : State) : (noticeEnding k w s).arbiter = s.arbiter := by
  unfold noticeEnding; dsimp only; split <;> simp
@[simp] theorem noticeEnding_engine (k : Nat) (w : EndReason) (s : State) : (noticeEnding k w s).engine = s.engine := by
  unfold noticeEnding; dsimp only; split <;> simp
@[simp] theorem noticeEnding_deadlines (k : Nat) (w : EndReason) (s : State) : (noticeEnding k w s).deadlines = s.deadlines := by
  unfold noticeEnding; dsimp only; split <;> simp
@[simp] theorem noticeEnding_period (k : Nat) (w : EndReason) (s : State) : (noticeEnding k w s).period = s.period := by
  unfold noticeEnding; dsimp only; split <;> simp
@[simp] theorem noticeEnding_journal (k : Nat) (w : EndReason) (s : State) : (noticeEnding k w s).journal = s.journal := by
  unfold noticeEnding; dsimp only; split <;> simp
@[simp] theorem noticeEnding_config (k : Nat) (w : EndReason) (s : State) : (noticeEnding k w s).config = s.config := by
  unfold noticeEnding; dsimp only; split <;> simp
@[simp] theorem noticeEnding_restore (k : Nat) (w : EndReason) (s : State) : (noticeEnding k w s).restore = s.restore := by
  unfold noticeEnding; dsimp only; split <;> simp
@[simp] theorem noticeEnding_memory (k : Nat) (w : EndReason) (s : State) : (noticeEnding k w s).memory = s.memory := by
  unfold noticeEnding; dsimp only; split <;> simp
@[simp] theorem noticeEnding_pending (k : Nat) (w : EndReason) (s : State) : (noticeEnding k w s).pending = s.pending := by
  unfold noticeEnding; dsimp only; split <;> simp

@[simp] theorem endHoldQuietly_arbiter (k : Nat) (w : EndReason) (s : State) : (endHoldQuietly k w s).arbiter = s.arbiter := by
  simp [endHoldQuietly]
@[simp] theorem endHoldQuietly_period (k : Nat) (w : EndReason) (s : State) : (endHoldQuietly k w s).period = s.period := by
  simp [endHoldQuietly]
@[simp] theorem endHoldQuietly_journal (k : Nat) (w : EndReason) (s : State) : (endHoldQuietly k w s).journal = s.journal := by
  simp [endHoldQuietly]
@[simp] theorem endHoldQuietly_config (k : Nat) (w : EndReason) (s : State) : (endHoldQuietly k w s).config = s.config := by
  simp [endHoldQuietly]
@[simp] theorem endHoldQuietly_restore (k : Nat) (w : EndReason) (s : State) : (endHoldQuietly k w s).restore = s.restore := by
  simp [endHoldQuietly]
@[simp] theorem endHoldQuietly_memory (k : Nat) (w : EndReason) (s : State) : (endHoldQuietly k w s).memory = s.memory := by
  simp [endHoldQuietly]
@[simp] theorem endHoldQuietly_pending (k : Nat) (w : EndReason) (s : State) : (endHoldQuietly k w s).pending = s.pending := by
  simp [endHoldQuietly]

@[simp] theorem endHold_arbiter (k : Nat) (w : EndReason) (s : State) : (endHold k w s).arbiter = s.arbiter := by
  simp [endHold]
@[simp] theorem endHold_config (k : Nat) (w : EndReason) (s : State) : (endHold k w s).config = s.config := by
  simp [endHold]
@[simp] theorem endHold_restore (k : Nat) (w : EndReason) (s : State) : (endHold k w s).restore = s.restore := by
  simp [endHold]
@[simp] theorem endHold_memory (k : Nat) (w : EndReason) (s : State) : (endHold k w s).memory = s.memory := by
  simp [endHold]
@[simp] theorem endHold_pending (k : Nat) (w : EndReason) (s : State) : (endHold k w s).pending = s.pending := by
  simp [endHold]

@[simp] theorem settlementEnds_arbiter (k : Nat) (s : State) : (settlementEnds k s).arbiter = s.arbiter := by
  unfold settlementEnds; dsimp only; split
  · simp
  · split <;> simp
@[simp] theorem settlementEnds_config (k : Nat) (s : State) : (settlementEnds k s).config = s.config := by
  unfold settlementEnds; dsimp only; split
  · simp
  · split <;> simp
@[simp] theorem settlementEnds_restore (k : Nat) (s : State) : (settlementEnds k s).restore = s.restore := by
  unfold settlementEnds; dsimp only; split
  · simp
  · split <;> simp
@[simp] theorem settlementEnds_memory (k : Nat) (s : State) : (settlementEnds k s).memory = s.memory := by
  unfold settlementEnds; dsimp only; split
  · simp
  · split <;> simp
@[simp] theorem settlementEnds_pending (k : Nat) (s : State) : (settlementEnds k s).pending = s.pending := by
  unfold settlementEnds; dsimp only; split
  · simp
  · split <;> simp

@[simp] theorem markHold_lanes (k : Nat) (m : EndMark) (s : State) : (markHold k m s).lanes = s.lanes := rfl
@[simp] theorem markHold_arbiter (k : Nat) (m : EndMark) (s : State) : (markHold k m s).arbiter = s.arbiter := rfl
@[simp] theorem markHold_deadlines (k : Nat) (m : EndMark) (s : State) : (markHold k m s).deadlines = s.deadlines := rfl
@[simp] theorem markHold_period (k : Nat) (m : EndMark) (s : State) : (markHold k m s).period = s.period := rfl
@[simp] theorem markHold_journal (k : Nat) (m : EndMark) (s : State) : (markHold k m s).journal = s.journal := rfl
@[simp] theorem markHold_notices (k : Nat) (m : EndMark) (s : State) : (markHold k m s).notices = s.notices := rfl
@[simp] theorem markHold_config (k : Nat) (m : EndMark) (s : State) : (markHold k m s).config = s.config := rfl
@[simp] theorem markHold_restore (k : Nat) (m : EndMark) (s : State) : (markHold k m s).restore = s.restore := rfl
@[simp] theorem markHold_memory (k : Nat) (m : EndMark) (s : State) : (markHold k m s).memory = s.memory := rfl
@[simp] theorem markHold_pending (k : Nat) (m : EndMark) (s : State) : (markHold k m s).pending = s.pending := rfl

@[simp] theorem holdGone_arbiter (l : Lane) (h : Nat) (s : State) : (holdGone l h s).arbiter = s.arbiter := rfl
@[simp] theorem holdGone_engine (l : Lane) (h : Nat) (s : State) : (holdGone l h s).engine = s.engine := rfl
@[simp] theorem holdGone_deadlines (l : Lane) (h : Nat) (s : State) : (holdGone l h s).deadlines = s.deadlines := rfl
@[simp] theorem holdGone_period (l : Lane) (h : Nat) (s : State) : (holdGone l h s).period = s.period := rfl
@[simp] theorem holdGone_journal (l : Lane) (h : Nat) (s : State) : (holdGone l h s).journal = s.journal := rfl
@[simp] theorem holdGone_notices (l : Lane) (h : Nat) (s : State) : (holdGone l h s).notices = s.notices := rfl
@[simp] theorem holdGone_config (l : Lane) (h : Nat) (s : State) : (holdGone l h s).config = s.config := rfl
@[simp] theorem holdGone_restore (l : Lane) (h : Nat) (s : State) : (holdGone l h s).restore = s.restore := rfl
@[simp] theorem holdGone_memory (l : Lane) (h : Nat) (s : State) : (holdGone l h s).memory = s.memory := rfl
@[simp] theorem holdGone_pending (l : Lane) (h : Nat) (s : State) : (holdGone l h s).pending = s.pending := rfl

/-! ## Store fault -/

@[simp] theorem enterFault_arbiter (k : Option Nat) (s : State) : (enterFault k s).arbiter = s.arbiter := by
  simp [enterFault]
@[simp] theorem enterFault_deadlines (k : Option Nat) (s : State) : (enterFault k s).deadlines = s.deadlines := by
  simp [enterFault]
@[simp] theorem enterFault_period (k : Option Nat) (s : State) : (enterFault k s).period = s.period := by
  simp [enterFault]
@[simp] theorem enterFault_config (k : Option Nat) (s : State) : (enterFault k s).config = s.config := by
  simp [enterFault]
@[simp] theorem enterFault_restore (k : Option Nat) (s : State) : (enterFault k s).restore = s.restore := by
  simp [enterFault]
@[simp] theorem enterFault_memory (k : Option Nat) (s : State) : (enterFault k s).memory = s.memory := by
  simp [enterFault]
@[simp] theorem enterFault_pending (k : Option Nat) (s : State) : (enterFault k s).pending = s.pending := by
  simp [enterFault]

/-! ## Records taken -/

@[simp] theorem refreshNamed_lanes (b : RecordBody) (s : State) : (refreshNamed b s).lanes = s.lanes := by
  unfold refreshNamed; split <;> simp
@[simp] theorem refreshNamed_arbiter (b : RecordBody) (s : State) : (refreshNamed b s).arbiter = s.arbiter := by
  unfold refreshNamed; split <;> simp
@[simp] theorem refreshNamed_deadlines (b : RecordBody) (s : State) : (refreshNamed b s).deadlines = s.deadlines := by
  unfold refreshNamed; split <;> simp
@[simp] theorem refreshNamed_period (b : RecordBody) (s : State) : (refreshNamed b s).period = s.period := by
  unfold refreshNamed; split <;> simp
@[simp] theorem refreshNamed_journal (b : RecordBody) (s : State) : (refreshNamed b s).journal = s.journal := by
  unfold refreshNamed; split <;> simp
@[simp] theorem refreshNamed_notices (b : RecordBody) (s : State) : (refreshNamed b s).notices = s.notices := by
  unfold refreshNamed; split <;> simp
@[simp] theorem refreshNamed_config (b : RecordBody) (s : State) : (refreshNamed b s).config = s.config := by
  unfold refreshNamed; split <;> simp
@[simp] theorem refreshNamed_restore (b : RecordBody) (s : State) : (refreshNamed b s).restore = s.restore := by
  unfold refreshNamed; split <;> simp
@[simp] theorem refreshNamed_memory (b : RecordBody) (s : State) : (refreshNamed b s).memory = s.memory := by
  unfold refreshNamed; split <;> simp
@[simp] theorem refreshNamed_pending (b : RecordBody) (s : State) : (refreshNamed b s).pending = s.pending := by
  unfold refreshNamed; split <;> simp

@[simp] theorem applyRecord_lanes (b : RecordBody) (s : State) : (applyRecord b s).lanes = s.lanes := by
  simp [applyRecord]
@[simp] theorem applyRecord_arbiter (b : RecordBody) (s : State) : (applyRecord b s).arbiter = s.arbiter := by
  simp [applyRecord]
@[simp] theorem applyRecord_deadlines (b : RecordBody) (s : State) : (applyRecord b s).deadlines = s.deadlines := by
  simp [applyRecord]
@[simp] theorem applyRecord_period (b : RecordBody) (s : State) : (applyRecord b s).period = s.period := by
  simp [applyRecord]
@[simp] theorem applyRecord_journal (b : RecordBody) (s : State) : (applyRecord b s).journal = s.journal := by
  simp [applyRecord]
@[simp] theorem applyRecord_notices (b : RecordBody) (s : State) : (applyRecord b s).notices = s.notices := by
  simp [applyRecord]
@[simp] theorem applyRecord_config (b : RecordBody) (s : State) : (applyRecord b s).config = s.config := by
  simp [applyRecord]
@[simp] theorem applyRecord_restore (b : RecordBody) (s : State) : (applyRecord b s).restore = s.restore := by
  simp [applyRecord]
@[simp] theorem applyRecord_memory (b : RecordBody) (s : State) : (applyRecord b s).memory = s.memory := by
  simp [applyRecord]
@[simp] theorem applyRecord_pending (b : RecordBody) (s : State) : (applyRecord b s).pending = s.pending := by
  simp [applyRecord]

@[simp] theorem forgetRecord_lanes (b : RecordBody) (s : State) : (forgetRecord b s).lanes = s.lanes := rfl
@[simp] theorem forgetRecord_arbiter (b : RecordBody) (s : State) : (forgetRecord b s).arbiter = s.arbiter := rfl
@[simp] theorem forgetRecord_deadlines (b : RecordBody) (s : State) : (forgetRecord b s).deadlines = s.deadlines := rfl
@[simp] theorem forgetRecord_period (b : RecordBody) (s : State) : (forgetRecord b s).period = s.period := rfl
@[simp] theorem forgetRecord_journal (b : RecordBody) (s : State) : (forgetRecord b s).journal = s.journal := rfl
@[simp] theorem forgetRecord_notices (b : RecordBody) (s : State) : (forgetRecord b s).notices = s.notices := rfl
@[simp] theorem forgetRecord_config (b : RecordBody) (s : State) : (forgetRecord b s).config = s.config := rfl
@[simp] theorem forgetRecord_restore (b : RecordBody) (s : State) : (forgetRecord b s).restore = s.restore := rfl
@[simp] theorem forgetRecord_memory (b : RecordBody) (s : State) : (forgetRecord b s).memory = s.memory := rfl
@[simp] theorem forgetRecord_pending (b : RecordBody) (s : State) : (forgetRecord b s).pending = s.pending := rfl

@[simp] theorem countRecord_lanes (r : Record) (s : State) : (countRecord r s).lanes = s.lanes := rfl
@[simp] theorem countRecord_arbiter (r : Record) (s : State) : (countRecord r s).arbiter = s.arbiter := rfl
@[simp] theorem countRecord_deadlines (r : Record) (s : State) : (countRecord r s).deadlines = s.deadlines := rfl
@[simp] theorem countRecord_period (r : Record) (s : State) : (countRecord r s).period = s.period := rfl
@[simp] theorem countRecord_journal (r : Record) (s : State) : (countRecord r s).journal = s.journal := rfl
@[simp] theorem countRecord_notices (r : Record) (s : State) : (countRecord r s).notices = s.notices := rfl
@[simp] theorem countRecord_config (r : Record) (s : State) : (countRecord r s).config = s.config := rfl
@[simp] theorem countRecord_restore (r : Record) (s : State) : (countRecord r s).restore = s.restore := rfl
@[simp] theorem countRecord_memory (r : Record) (s : State) : (countRecord r s).memory = s.memory := rfl
@[simp] theorem countRecord_pending (r : Record) (s : State) : (countRecord r s).pending = s.pending := rfl

/-! ## The port -/

@[simp] theorem startWrite_lanes (op : PortOp) (a : Nat) (b : List Byte) (s : State) : (startWrite op a b s).lanes = s.lanes := rfl
@[simp] theorem startWrite_arbiter (op : PortOp) (a : Nat) (b : List Byte) (s : State) : (startWrite op a b s).arbiter = s.arbiter := rfl
@[simp] theorem startWrite_engine (op : PortOp) (a : Nat) (b : List Byte) (s : State) : (startWrite op a b s).engine = s.engine := rfl
@[simp] theorem startWrite_deadlines (op : PortOp) (a : Nat) (b : List Byte) (s : State) : (startWrite op a b s).deadlines = s.deadlines := rfl
@[simp] theorem startWrite_period (op : PortOp) (a : Nat) (b : List Byte) (s : State) : (startWrite op a b s).period = s.period := rfl
@[simp] theorem startWrite_notices (op : PortOp) (a : Nat) (b : List Byte) (s : State) : (startWrite op a b s).notices = s.notices := rfl
@[simp] theorem startWrite_config (op : PortOp) (a : Nat) (b : List Byte) (s : State) : (startWrite op a b s).config = s.config := rfl
@[simp] theorem startWrite_restore (op : PortOp) (a : Nat) (b : List Byte) (s : State) : (startWrite op a b s).restore = s.restore := rfl
@[simp] theorem startWrite_memory (op : PortOp) (a : Nat) (b : List Byte) (s : State) : (startWrite op a b s).memory = s.memory := rfl
@[simp] theorem startWrite_pending (op : PortOp) (a : Nat) (b : List Byte) (s : State) : (startWrite op a b s).pending = s.pending := rfl

@[simp] theorem holdPort_lanes (op : PortOp) (s : State) : (holdPort op s).lanes = s.lanes := rfl
@[simp] theorem holdPort_arbiter (op : PortOp) (s : State) : (holdPort op s).arbiter = s.arbiter := rfl
@[simp] theorem holdPort_engine (op : PortOp) (s : State) : (holdPort op s).engine = s.engine := rfl
@[simp] theorem holdPort_deadlines (op : PortOp) (s : State) : (holdPort op s).deadlines = s.deadlines := rfl
@[simp] theorem holdPort_period (op : PortOp) (s : State) : (holdPort op s).period = s.period := rfl
@[simp] theorem holdPort_notices (op : PortOp) (s : State) : (holdPort op s).notices = s.notices := rfl
@[simp] theorem holdPort_config (op : PortOp) (s : State) : (holdPort op s).config = s.config := rfl
@[simp] theorem holdPort_restore (op : PortOp) (s : State) : (holdPort op s).restore = s.restore := rfl
@[simp] theorem holdPort_memory (op : PortOp) (s : State) : (holdPort op s).memory = s.memory := rfl
@[simp] theorem holdPort_pending (op : PortOp) (s : State) : (holdPort op s).pending = s.pending := rfl

@[simp] theorem freePort_lanes (s : State) : (freePort s).lanes = s.lanes := rfl
@[simp] theorem freePort_arbiter (s : State) : (freePort s).arbiter = s.arbiter := rfl
@[simp] theorem freePort_engine (s : State) : (freePort s).engine = s.engine := rfl
@[simp] theorem freePort_deadlines (s : State) : (freePort s).deadlines = s.deadlines := rfl
@[simp] theorem freePort_period (s : State) : (freePort s).period = s.period := rfl
@[simp] theorem freePort_notices (s : State) : (freePort s).notices = s.notices := rfl
@[simp] theorem freePort_config (s : State) : (freePort s).config = s.config := rfl
@[simp] theorem freePort_restore (s : State) : (freePort s).restore = s.restore := rfl
@[simp] theorem freePort_memory (s : State) : (freePort s).memory = s.memory := rfl
@[simp] theorem freePort_pending (s : State) : (freePort s).pending = s.pending := rfl

/-! ## What the operations do -/

/-- The owner's reply (R154): the request is REPLYING, the reply slot holds the reply, the transmitter has it last. -/
theorem fillReply_lane (l : Lane) (r : Result) (b : List Byte) (s : State) (f : Frame)
    (h : s.lanes[l].request = .withOwner f) :
    (fillReply l r b s).lanes[l] =
      { s.lanes[l] with request := .replying f, tx := s.lanes[l].tx ++ [.reply],
                        reply := some { kind := f.kind, tag := f.tag, result := r, body := b } } := by
  rw [fillReply, State.mapLane_same, h]

/-- Every other lane is left alone. -/
theorem fillReply_other (l k : Lane) (r : Result) (b : List Byte) (s : State) (h : k ≠ l) :
    (fillReply l r b s).lanes[k] = s.lanes[k] := State.mapLane_other l k _ s h

/-- A placement on a queue that keeps the law of R171 keeps it. -/
theorem NoticeLane.place_law (n : Notice) (q : NoticeLane) (hl : q.queue.length ≤ 8)
    (ha : q.attention = !q.queue.isEmpty) :
    (q.place n).queue.length ≤ 8 ∧ (q.place n).attention = !(q.place n).queue.isEmpty := by
  unfold NoticeLane.place
  by_cases h : q.queue.length < 8
  · simp [h]
  · rw [if_neg h]
    by_cases hn : n.isLaneLost = true
    · rw [if_pos hn]
      have h8 : q.queue.length = 8 := by omega
      have hne : q.queue.isEmpty = false := by
        cases hq : q.queue with
        | nil => simp [hq] at h8
        | cons _ _ => rfl
      have hlen : (forcedInsertion q.queue n).length ≤ 8 := by
        unfold forcedInsertion
        split
        · simp; omega
        · rename_i hall
          have hex : ∃ m ∈ q.queue.reverse, (!m.isLaneLost) = true := by
            by_contra hc
            push Not at hc
            exact hall (List.all_eq_true.mpr fun m hm => by
              have := hc m (List.mem_reverse.mpr hm)
              simpa using this)
          obtain ⟨m, hm, hp⟩ := hex
          have := List.length_eraseP_of_mem (p := fun m => !Notice.isLaneLost m) hm hp
          simp only [List.length_append, List.length_reverse, this, List.length_singleton]
          omega
      refine ⟨hlen, ?_⟩
      have hne' : (forcedInsertion q.queue n).isEmpty = false := by
        unfold forcedInsertion; split <;> simp
      simp [ha, hne, hne']
    · rw [if_neg hn]
      exact ⟨hl, ha⟩

/-- A flag raised is set. -/
theorem raiseFlag_flag (c : EventClass) (s : State) : (raiseFlag c s).notices.flag c = true := by
  unfold raiseFlag
  split
  · assumption
  · have key : ∀ n : NoticeUnit, n.flags = s.notices.flags ||| flagBit c → n.flag c = true := by
      intro n hn
      unfold NoticeUnit.flag
      rw [hn]
      cases c <;> simp [flagBit, classIndex]
    dsimp only
    split
    · apply key
      unfold placeNotice reportPlacement
      simp only [Notice.isLaneLost, Bool.false_eq_true, if_false]
      split <;> simp [State.mapNoticeLane, State.mapNotices]
    · exact key _ rfl

/-- What entering FAULT leaves in the Journal Unit (R134, R135). -/
theorem enterFault_journal (k : Option Nat) (s : State) :
    (enterFault k s).journal.store = .fault ∧ (enterFault k s).journal.queue = [] ∧
      (enterFault k s).journal.save = none ∧ (enterFault k s).journal.lastDurable = s.journal.lastDurable ∧
      (enterFault k s).journal.port = s.journal.port := by
  simp [enterFault]

/-- The abandoned events entering FAULT hands to the engine, in sequence order (R134). -/
theorem enterFault_events (k : Option Nat) (s : State) :
    (enterFault k s).engine.journalEvents =
      s.engine.journalEvents ++ s.journal.waiting.map fun q => .abandoned q.record q.owner := by
  simp [enterFault]

/-- What a queued record is, and the number it takes (R125, R128). -/
theorem queueRecord_journal (l : Lane) (n : Nat) (b : RecordBody) (w : Owner) (s : State) :
    (queueRecord l n b w s).journal =
      { s.journal with
        queue := s.journal.queue ++
          [{ record := { sequence := s.journal.nextSeq, lane := l, period := n, body := b }, owner := w,
             writing := false }],
        nextSeq := s.journal.nextSeq + 1 } := rfl

/-- The report of R35 leaves the hold count equal to the count of open holds. -/
theorem reportHolds_count (s : State) : (reportHolds s).period.holdCount = s.engine.openHolds := by
  unfold reportHolds
  dsimp only
  split
  · unfold completeDrain
    dsimp only
    split
    · rfl
    · simp [closeFails]
  · rfl

end Sys2Proof.Machine
end

