-- ==== Sys2Proof/Tests/Slice0.lean ====
section
/-! SUPPORT. The model's own tests: ill-formed commands, the spec's check value, a few single steps, and for every
statement of the provers with hypotheses a state and operands that meet them. A function or predicate that a statement
introduces by an equation for every argument exists by `introduced_function` and `introduced_predicate`. -/

namespace Sys2Proof.Tests

open Sys2Proof Sys2Proof.Machine

/-! ## Well-formedness: an operand too wide for its field -/

theorem test_illFormed_expiry : ¬ (Instr.holdExpiryEvent 65536 0).wf := by decide
theorem test_illFormed_card : ¬ (Instr.balance 0 16777216).wf ∧ ¬ (Instr.openPurse 0 16777216).wf ∧
    ¬ (Instr.closePurse 0 16777216).wf ∧ ¬ (Instr.block 0 16777216).wf ∧ ¬ (Instr.unblock 0 16777216).wf := by decide
theorem test_illFormed_hold : ¬ (Instr.hold 0 16777216 1 1).wf ∧ ¬ (Instr.hold 0 1 16777216 1).wf ∧
    ¬ (Instr.hold 0 1 1 256).wf := by decide
theorem test_illFormed_capture : ¬ (Instr.capture 0 65536 1 0).wf ∧ ¬ (Instr.capture 0 1 16777216 0).wf ∧
    ¬ (Instr.capture 0 1 1 256).wf := by decide
theorem test_illFormed_handle : ¬ (Instr.release 0 65536).wf ∧ ¬ (Instr.extend 0 65536).wf := by decide
theorem test_illFormed_reverse : ¬ (Instr.reverse 0 4294967296).wf := by decide
theorem test_illFormed_cash : ¬ (Instr.topUp 0 16777216 1).wf ∧ ¬ (Instr.topUp 0 1 16777216).wf ∧
    ¬ (Instr.withdraw 0 16777216 1).wf ∧ ¬ (Instr.withdraw 0 1 16777216).wf := by decide
theorem test_illFormed_fund : ¬ (Instr.fundSponsor 0 256 1).wf ∧ ¬ (Instr.fundSponsor 0 1 4294967296).wf := by decide
theorem test_illFormed_reads : ¬ (Instr.readPurse 0 65536).wf ∧ ¬ (Instr.readTotals 0 256).wf ∧
    ¬ (Instr.readConfig 0 256).wf ∧ ¬ (Instr.readJournal 0 4294967296).wf := by decide
theorem test_illFormed_setRange : ¬ (Instr.setRange 0 256 0 1 0 0 0 0).wf ∧ ¬ (Instr.setRange 0 0 256 1 0 0 0 0).wf ∧
    ¬ (Instr.setRange 0 0 0 16777216 0 0 0 0).wf ∧ ¬ (Instr.setRange 0 0 0 1 65536 0 0 0).wf ∧
    ¬ (Instr.setRange 0 0 0 1 0 65536 0 0).wf ∧ ¬ (Instr.setRange 0 0 0 1 0 0 256 0).wf ∧
    ¬ (Instr.setRange 0 0 0 1 0 0 0 16777216).wf := by decide
theorem test_illFormed_setLane : ¬ (Instr.setLane 0 256 0 5 0 1).wf ∧ ¬ (Instr.setLane 0 0 256 5 0 1).wf ∧
    ¬ (Instr.setLane 0 0 0 65536 0 1).wf ∧ ¬ (Instr.setLane 0 0 0 5 256 1).wf ∧ ¬ (Instr.setLane 0 0 0 5 0 256).wf := by
  decide
theorem test_illFormed_settings : ¬ (Instr.setSponsorCount 0 256).wf ∧ ¬ (Instr.setCeiling 0 16777216).wf ∧
    ¬ (Instr.setLowMark 0 4294967296).wf ∧ ¬ (Instr.setClock 0 16777216).wf ∧ ¬ (Instr.setDrainLimit 0 65536).wf := by
  decide
theorem test_illFormed_schedule : ¬ (Instr.setSchedule 0 256 0 0).wf ∧ ¬ (Instr.setSchedule 0 0 16777216 0).wf ∧
    ¬ (Instr.setSchedule 0 0 0 256).wf := by decide
theorem test_illFormed_events : ¬ (Instr.setRoute 0 256 0).wf ∧ ¬ (Instr.setRoute 0 0 256).wf ∧
    ¬ (Instr.clearEvents 0 65536).wf := by decide
theorem test_illFormed_sequence : ¬ (Instr.captureDurable 4294967296).wf ∧ ¬ (Instr.captureAbandoned 4294967296).wf ∧
    ¬ (Instr.reversalDurable 4294967296).wf ∧ ¬ (Instr.reversalAbandoned 4294967296).wf ∧
    ¬ (Instr.officeRecordDurable 4294967296).wf ∧ ¬ (Instr.officeRecordAbandoned 4294967296).wf ∧
    ¬ (Instr.periodCloseDurable 4294967296).wf ∧ ¬ (Instr.periodCloseAbandoned 4294967296).wf := by decide

/-! ## The spec's own numbers -/

/-- R199: the check value of the ASCII string 123456789 is 29B1h. -/
theorem test_crcCheckValue : crc16 [0x31, 0x32, 0x33, 0x34, 0x35, 0x36, 0x37, 0x38, 0x39] = 0x29B1#16 := by decide +kernel

/-! ## Small states -/

/-- A part READY in period 5: lane 0 OFFICE, the others TILL; cards 100 to 109 map to slots 0 to 9 with a grant of 500, and
sponsor 0 of two pays. -/
def ready : State :=
  { State.reset with
    lanes := Vector.ofFn fun l => { LaneUnit.afterReset (LaneSettings.default l) with state := .active, receiver := .hunt },
    engine := { Engine.afterReset WorkingConfig.default with
      sponsorCount := 2, sponsors := [(0, ⟨1500, 0, 0⟩)],
      ranges := (Vector.replicate 8 RangeEntry.default).set 0 ⟨true, 100, 10, 500, some 0, 0⟩ },
    period := { PeriodControl.afterReset WorkingConfig.default with number := 5 },
    restore := { RestoreUnit.afterReset with part := .ready, stage := .idle } }

/-- The request `c` stands in the intake. -/
def asking (c : Instr) (s : State) : State :=
  match encodeRequest c with
  | some (l, k, body) =>
    { s with
      arbiter := { pointer := l, intake := some l },
      lanes := s.lanes.set l { s.lanes[l] with request := .withOwner ⟨kindCode k, 7, body⟩ } }
  | none => s

/-- The purse of card 103, last used in period 4. -/
def cardFrom (period : Nat) : CardPurse :=
  { CardPurse.free with
    state := .opened, cardNumber := 103, cashBalance := 1000, allowanceRemaining := 500, allowancePeriod := period }

def withCard (p : CardPurse) : State := { ready with engine := { ready.engine with cards := [(3, p)] } }

/-- A hold of 300 of allowance and 200 of cash in slot 0, generation 1, on card 103, by lane 1. -/
def heldOn (state : HoldState) : Hold :=
  { Hold.free with
    generation := 1, state := state, lane := 1, cardSlot := 3, sponsor := some 0, allowanceShare := 300,
    cashShare := 200, partsRemaining := 2, deadline := 900, period := 5 }

def withHold (h : Hold) : State :=
  { ready with
    engine := { ready.engine with
      cards := [(3, { cardFrom 5 with cashHeld := 200, allowanceHeld := 300, holdList := [512] })],
      sponsors := [(0, ⟨1500, 300, 0⟩)], holds := [(0, h)], freeList := (List.range 512).tail,
      laneHolds := (Vector.replicate 8 []).set 1 [512] },
    deadlines := ⟨10, [⟨900, 512⟩]⟩,
    period := { ready.period with holdCount := 1 } }

/-- The state with one journal event handed to the engine, and lane `l` waiting for its answer. -/
def handing (x : JournalEvent) (l : Lane) (s : State) : State :=
  { s with
    engine := { s.engine with journalEvents := [x] },
    lanes := s.lanes.set l { s.lanes[l] with request := .withOwner ⟨0x11, 7, []⟩ } }

/-- The state with a write under way. -/
def writing (op : PortOp) (w : StoreWrite) (s : State) : State :=
  { s with journal := { s.journal with port := some ⟨op, some w⟩ } }

/-! ## Single steps, their numbers worked out from the rules by hand -/

/-- The reply that a command puts in a lane's reply slot. -/
def replyOf (l : Lane) : Answer → Option ReplyFrame
  | .next t => t.lanes[l].reply
  | _ => none

/-- R39 to R41: 500 of allowance and 150 of cash, handle 512 (generation 1, slot 0), deadline 90 s from tick 0. -/
theorem test_holdReply :
    replyOf 1 (exec (.hold 1 103 650 2) (asking (.hold 1 103 650 2) (withCard (cardFrom 4)))) =
      some ⟨0x10, 7, .ok, [0x02, 0x00, 0x01, 0xF4, 0x00, 0x00, 0x96, 0x00, 0x00, 0x03, 0x84]⟩ := by decide +kernel

/-- R43, R44: what was released. -/
theorem test_releaseReply :
    replyOf 1 (exec (.release 1 512) (asking (.release 1 512) (withHold (heldOn .live)))) =
      some ⟨0x12, 7, .ok, [0x02, 0x00, 0x01, 0x2C, 0x00, 0x00, 0xC8, 0x00, 0x00, 0x00]⟩ := by decide +kernel

/-- R60, R61: 300 of allowance and 100 of cash charged, the hold LIVE with 100 of cash and one part left. -/
theorem test_captureReply :
    replyOf 1 (exec (.captureDurable 9)
        (handing (.durable ⟨9, 1, 5, .capture 3 ⟨.opened, 103, 900, 200, 5, 400⟩ (some ⟨0, 1200⟩) 300 100⟩
          (.capture 1 512 false)) 1 (withHold (heldOn .settling)))) =
      some ⟨0x11, 7, .ok, [0x00, 0x00, 0x00, 0x09, 0x01, 0x2C, 0x00, 0x00, 0x64,
        0x00, 0x00, 0x00, 0x00, 0x00, 0x00, 0x64, 0x01, 0x00, 0x00, 0x03, 0x84]⟩ := by decide +kernel

/-- R166: a PING whose frame arrives byte by byte on lane 3, with the check 5ED9h of 01h 07h. -/
theorem test_pingBytes :
    ∃ s, exec (.byteReceived 3 0xD9 true)
        { ready with lanes := ready.lanes.set 3 { ready.lanes[3] with receiver := .receiving [0x02, 0x01, 0x07, 0x5E] } } =
          .next s ∧
      replyOf 3 (exec .laneGrant s) =
        some ⟨0x01, 7, .ok, [0x04, 0x00, 0x00, 0x00, 0x00, 0x05, 0x00, 0x01, 0xFF, 0xFF, 0xFF, 0x00, 0x00, 0x00, 0x00,
          0x00]⟩ := ⟨_, rfl, by decide +kernel⟩

/-! ## The statements' hypotheses are met -/

theorem introduced_function {α β : Type} (f : α → β) : ∃ g : α → β, ∀ x, g x = f x := ⟨f, fun _ => rfl⟩

theorem introduced_predicate {α : Type} (p : α → Prop) : ∃ q : α → Prop, ∀ x, q x ↔ p x := ⟨p, fun _ => Iff.rfl⟩

/-- A command waits and its step answers a next state. -/
def ticking : State := { ready with pending := [.tick] }

theorem ticking_steps : ∃ t, step ticking = .next t := ⟨_, rfl⟩

theorem witness_stepKeepsDataForms :
    ticking.memoryCanonical ∧ ticking.tablesCanonical ∧ ticking.ringBounded ∧ ∃ t, step ticking = .next t :=
  ⟨by decide, by decide +kernel, by decide, ticking_steps⟩

/-- Two deadlines, the first due at the tick to come. -/
def timing : State := { withHold (heldOn .live) with deadlines := ⟨10, [⟨11, 512⟩, ⟨900, 513⟩]⟩, pending := [.tick] }

theorem witness_stepKeepsDataForms_deadlines :
    timing.deadlineOrder ∧ (∀ y ∈ timing.deadlines.list, y.deadline ≠ timing.now) ∧ ∃ t, step timing = .next t := by
  unfold State.deadlineOrder
  exact ⟨by decide, by decide, _, rfl⟩

theorem witness_stepKeepsNoticeLaw : ticking.noticeLaw ∧ ∃ t, step ticking = .next t :=
  ⟨by unfold State.noticeLaw; decide +kernel, ticking_steps⟩

theorem witness_stepKeepsDrainLaw : ticking.drainLaw ∧ ∃ t, step ticking = .next t :=
  ⟨by decide +kernel, ticking_steps⟩

theorem ticking_sponsors (n : Nat) : ticking.engine.sponsor n = if n = 0 then ⟨1500, 0, 0⟩ else SponsorPurse.zero := rfl

theorem ticking_handle (h : Nat) : ¬ ticking.engine.isOpen h := by
  have e : ticking.engine.hold (handleSlot h) = Hold.free := rfl
  simp only [Engine.isOpen, Engine.resolve, e]
  split <;> simp [Hold.free]

theorem ticking_journalLaw : ticking.journalLaw :=
  ⟨⟨by decide, by decide, ⟨rfl, by decide⟩, by simp [show ticking.journal.queue = [] from rfl], by decide, by decide⟩,
    ⟨trivial, by decide, by decide, by decide, by decide, by decide⟩, ⟨by decide, fun h => nomatch h⟩,
    by unfold State.closeLaw; decide,
    by unfold State.ownerLaw; exact ⟨by decide, by simp [show ticking.waitingLanes = [] from rfl]⟩,
    by simp [show ticking.engine.journalEvents = [] from rfl]⟩

theorem ticking_free : ticking.engine.freeList = List.range 512 := by
  simp only [ticking, ready, Engine.afterReset]

theorem ticking_holdLaw : ticking.holdLaw := by
  refine ⟨by rw [ticking_free]; exact List.nodup_range, fun k => ?_, fun k _ => rfl,
    fun l => ⟨?_, ?_, ?_, fun h => ?_⟩, fun slot => ?_, by decide, fun y => ?_, fun k _ => ⟨rfl, rfl⟩,
    fun k _ => ⟨rfl, rfl⟩⟩
  · rw [ticking_free]
    simp [show ticking.engine.hold k = Hold.free from rfl, Hold.free]
  · revert l; decide +kernel
  · revert l; decide +kernel
  · revert l; decide +kernel
  · have e : ticking.engine.laneHolds[l] = [] := by revert l; decide +kernel
    simp [e, ticking_handle]
  · have e : (ticking.engine.card slot).holdList = [] := rfl
    simp [e, ticking_handle]
  · simp [ticking_handle, show ticking.deadlines.list = [] from rfl]

theorem ticking_lawful : ticking.lawful := by
  refine ⟨by decide +kernel, by decide +kernel, by unfold State.slotLaw; decide +kernel,
    fun _ => ⟨ticking_journalLaw, ticking_holdLaw, ?_, ?_, ?_⟩⟩
  · refine ⟨by decide, fun h => ?_, by simp [show ticking.inFlight = [] from rfl]⟩
    have e : ticking.engine.resolve h ≠ .settling := fun h' => ticking_handle h (Or.inr h')
    simp [e, show ticking.inFlight = [] from rfl]
  · refine ⟨fun slot p hp => ?_, fun n => ?_⟩
    · subst hp
      exact ⟨rfl, rfl, rfl, rfl, Nat.zero_le _, Nat.zero_le _, fun h => absurd rfl h⟩
    · have e : ticking.engine.sponsorShares n = 0 := by
        have h : ∀ k, ticking.engine.hold k = Hold.free := fun k => rfl
        simp [Engine.sponsorShares, h, show Hold.free.state = .free from rfl]
      rw [ticking_sponsors, e]
      split <;> decide
  · refine ⟨by unfold Engine.mapOk; decide +kernel, fun slot p hp => ?_, fun n => ?_, fun k h => absurd rfl h,
      by simp [show ticking.inFlight = [] from rfl], by simp [show ticking.inFlight = [] from rfl]⟩
    · subst hp
      exact ⟨rfl, fun _ => rfl, fun h => by rcases h with h | h <;> exact absurd rfl h, fun h => nomatch h⟩
    · rw [ticking_sponsors]
      split <;> rfl

theorem ticking_capLaw : ticking.capLaw := by
  intro n
  have e : ticking.earlierRecords.take n = [] := by simp [show ticking.earlierRecords = [] from rfl]
  rw [e]
  refine ⟨fun slot => Nat.zero_le _, fun k => ?_⟩
  show (ticking.engine.sponsor k).balance ≤ _
  rw [ticking_sponsors]
  split <;> decide

theorem witness_stepKeepsDrainLaw_lawful :
    ticking.lawful ∧ ticking.ordinary ∧ ticking.capLaw ∧ (∀ answer, ticking.pending.head? ≠ some (.restoreImages answer)) ∧
      ∃ t, step ticking = .next t :=
  ⟨ticking_lawful, ⟨(fun _ _ h => by cases h), (fun _ _ _ _ _ h => by cases h)⟩, ticking_capLaw, (fun _ h => by cases h),
    ticking_steps⟩

theorem witness_stepKeepsSlotLaw : ticking.slotLaw ∧ ∃ t, step ticking = .next t :=
  ⟨by unfold State.slotLaw; decide +kernel, ticking_steps⟩

theorem witness_onlyWritesTouchStore :
    (writing (.staleImage 0) ⟨0x20000, voidUnit, 1, .running 2⟩ ready).writeCovers 0x2001F ∧
      ¬ (writing (.staleImage 0) ⟨0x20000, voidUnit, 1, .running 2⟩ ready).writeCovers 0x20020 ∧
      ∃ t, exec .tick (writing (.staleImage 0) ⟨0x20000, voidUnit, 1, .running 2⟩ ready) = .next t := by
  refine ⟨⟨_, _, rfl, by decide, by decide⟩, ?_, _, rfl⟩
  rintro ⟨op, w, h, _, h'⟩
  cases h
  exact absurd h' (by decide)

theorem witness_lockAndPeriodKept :
    ({ ready with config := { ready.config with lock := true } } : State).config.lock = true ∧
      ready.restore.part = .ready ∧ ready.journal.port = none ∧ (∀ cut, Instr.tick ≠ .powerOnReset cut) ∧
      Instr.tick ≠ .periodAdvance ∧ ¬ isReset .tick ∧
      ∃ t, exec .tick { ready with config := { ready.config with lock := true } } = .next t :=
  ⟨rfl, rfl, rfl, (fun _ h => by cases h), (by decide), (fun h => h), _, rfl⟩

theorem witness_cashMovesAtDurability :
    (withCard (cardFrom 4)).tablesCanonical ∧ ¬ (withCard (cardFrom 4)).movesCash .tick 3 ∧
      ∃ t, exec .tick (withCard (cardFrom 4)) = .next t :=
  ⟨by decide +kernel, (fun h => h), _, rfl⟩

theorem witness_cashMovesAtDurability_slots :
    (withCard (cardFrom 4)).tablesCanonical ∧ ¬ (withCard (cardFrom 4)).movesCash (.setSponsorCount 0 3) 4092 ∧
      ¬ (withCard (cardFrom 4)).movesCash (.setSponsorCount 0 3) 4094 ∧
      ¬ (writing (.staleImage 0) ⟨0x20000, voidUnit, 1, .running 2⟩ ready).movesCash
        (.storeWriteComplete .whole ⟨0, .silent⟩) 3 := by
  unfold State.movesCash
  decide +kernel

theorem witness_requestRoundTrip :
    (Instr.setRange 7 7 1 16777215 4096 10000 255 100000).wf ∧
      (∃ x, encodeRequest (.setRange 7 7 1 16777215 4096 10000 255 100000) = some x) :=
  ⟨by decide, _, rfl⟩

/-- A card after-state at the top of its fields. -/
def topCard : CardAfter := ⟨.blocked, 2 ^ 24 - 1, 2 ^ 21 - 1, 2 ^ 14 - 1, 2 ^ 32 - 1, 2 ^ 32 - 1⟩

theorem witness_unitsRoundTrip :
    Record.fits ⟨2 ^ 32 - 1, 7, 2 ^ 32 - 1, .capture 4095 topCard (some ⟨63, 2 ^ 27 - 2⟩) (2 ^ 14 - 1) (2 ^ 17 - 1)⟩ ∧
      Record.fits ⟨8192, 7, 2 ^ 32 - 1, .reversal 0 topCard none 0 0 1 true⟩ ∧
      Record.fits ⟨1, 0, 2 ^ 32 - 1, .topUp 4095 topCard (2 ^ 21 - 1)⟩ ∧
      Record.fits ⟨1, 0, 2 ^ 32 - 1, .change .closePurse 4095 topCard⟩ ∧
      Record.fits ⟨1, 0, 0, .fund ⟨63, 2 ^ 27 - 1⟩ (2 ^ 27 - 1)⟩ ∧
      Record.fits ⟨1, 0, 0, .periodClose (.schedule 5) (some 86399) ⟨2 ^ 32 - 1, 0, 0, 0, 0, true⟩⟩ ∧
      Image.fits (.card topCard (2 ^ 32 - 1)) ∧ Image.fits (.sponsor (2 ^ 27 - 1) (2 ^ 32 - 1)) := by
  simp [Record.fits, Image.fits, CardAfter.openFits, CardAfter.fits, SponsorAfter.fits, topCard]

theorem witness_ownerFillsReply :
    (asking (.readEvents 0) ready).Asks (.readEvents 0) ∧
      (asking (.readEvents 0) ready).lanes[(0 : Lane)].request = .withOwner ⟨0x61, 7, []⟩ := by decide +kernel

theorem witness_requestsRefusedFirst :
    (∀ k ∈ [RequestKind.hold, .openPurse, .ping, .release, .capture],
      kindOfCode (kindCode k) = some k ∧ (List.replicate (bodyLength k) (0 : Byte)).length = bodyLength k) ∧
      (asking (.balance 1 103) State.reset).Asks (.balance 1 103) ∧ State.reset.restore.part ≠ .ready ∧
      ¬ takenBeforeReady .balance ∧ (∃ x, encodeRequest (.balance 1 103) = some (1, .balance, x)) ∧
      (asking (.setCeiling 0 1) { ready with config := { ready.config with lock := true } }).AsksReady
        (.setCeiling 0 1) ∧ lockedKind .setCeiling :=
  ⟨by decide +kernel, by decide +kernel, by decide, (fun h => h), ⟨_, rfl⟩, by decide +kernel, trivial⟩

theorem witness_requestsRefusedFirst_arrival :
    (∀ k ∈ allKinds, kindCode k ≠ 0x77) ∧ ([0x01] : List Byte).length ≠ 7 ∧ LaneState.active ≠ .lost ∧
      ∀ k ∈ [RequestKind.hold, .readEvents, .ping, .reverse, .extend],
        kindOfCode (kindCode k) = some k ∧ (List.replicate (bodyLength k) (0 : Byte)).length = bodyLength k := by
  decide +kernel

/-- R165, second row, and R155, R157: an office kind at a LOST till lane is LANE_RECOVERING or NOT_PERMITTED (log entry 34); at a
lane that is not LOST it is NOT_PERMITTED. -/
theorem test_officeKindAtTillLane (body : List Byte) (h : body.length = bodyLength .setRange) :
    (arrivalRefusal .till .lost ⟨0x31, 7, body⟩ = some .laneRecovering ∨
      arrivalRefusal .till .lost ⟨0x31, 7, body⟩ = some .notPermitted) ∧
    arrivalRefusal .till .active ⟨0x31, 7, body⟩ = some .notPermitted :=
  ⟨arrivalRefusal_roleNotAllowed rfl h rfl, arrivalRefusal_notLost rfl h rfl (by decide)⟩

/-- Lane 3 with a receiver of this content. -/
def hearing (r : Receiver) (u : LaneUnit) : State := { ready with lanes := ready.lanes.set 3 { u with receiver := r } }

/-- A Lane Unit of role TILL with the reply, then the BUSY answer, in its transmitter. -/
def sending : LaneUnit :=
  { LaneUnit.afterReset (LaneSettings.default 3) with
    state := .active, request := .replying ⟨1, 7, []⟩, reply := some ⟨1, 7, .ok, []⟩, busy := some ⟨1, 8, .busy, []⟩,
    tx := [.reply, .busy] }

theorem witness_linesMoveLaneUnit :
    (∀ r ∈ [Receiver.closed, .hunt, .discarding, .receiving [], .receiving [2, 1, 7]],
      (hearing r sending).restore.inReset = false ∧
        (hearing r sending).lanes[(3 : Lane)] = { sending with receiver := r }) ∧
      2 ≤ (2 : Byte).toNat ∧ (50 : Byte).toNat ≤ 50 ∧ (1 : Byte).toNat < 2 ∧ 50 < (51 : Byte).toNat ∧
      [(1 : Byte), 7].length < (2 : Byte).toNat + 1 ∧ (2 : Byte).toNat = ([] : List Byte).length + 2 ∧
      checkBytes [1, 7] ≠ [0, 0] ∧ sending.tx = [.reply, .busy] ∧ sending.sent.tx = [.busy] := by decide +kernel

theorem witness_validFrameArrives :
    (hearing (.receiving [2, 1, 7, 0x5E]) sending).lanes[(3 : Lane)] =
        { sending with receiver := .receiving ((2 : Byte) :: 1 :: 7 :: [] ++ [0x5E]) } ∧
      checkBytes [1, 7] = [0x5E, 0xD9] ∧
      (∀ state ∈ [LaneState.idle, .active, .lost],
        arrivalRefusal .till state ⟨1, 7, []⟩ = none ∧ arrivalRefusal .till state ⟨0x77, 7, []⟩ = some .badRequest) := by
  decide +kernel

/-- Lane 3 in a lane state with a request of kind `k` waiting. -/
def waitingIn (state : LaneState) (k : RequestKind) : State :=
  hearing .hunt { LaneUnit.afterReset (LaneSettings.default 3) with
    state := state, request := .waiting ⟨kindCode k, 7, List.replicate (bodyLength k) 0⟩ }

theorem witness_grantHandsOn :
    ∀ x ∈ [(LaneState.lost, RequestKind.hold), (.active, .hold), (.lost, .balance), (.lost, .ping)],
      (waitingIn x.1 x.2).nextGrant = some (3, ⟨kindCode x.2, 7, List.replicate (bodyLength x.2) 0⟩) ∧
        (waitingIn x.1 x.2).lanes[(3 : Lane)].state = x.1 ∧ (waitingIn x.1 x.2).restore.inReset = false := by
  decide +kernel

theorem witness_silenceLosesLane :
    (hearing .hunt { sending with silence := .due 150 }).lanes[(3 : Lane)].state = .active ∧
      (hearing .hunt { sending with silence := .due 150 }).lanes[(3 : Lane)].silence = .due 150 := by decide +kernel

/-- The hypotheses of `setLaneWrites` for a SET_LANE of lane 0 on `s`. -/
abbrev SetLaneCase (n : Lane) (role : Role) (life silence limit : Nat) (s : State) : Prop :=
  s.AsksReady (.setLane 0 n.val (roleCode role) life silence limit) ∧ s.config.lock = false ∧
    5 ≤ life ∧ life ≤ 600 ∧ (silence = 0 ∨ 2 ≤ silence ∧ silence ≤ 120) ∧ 1 ≤ limit ∧ limit ≤ 64 ∧
    (∃ k : Lane, (if k = n then role else s.role k) = .office) ∧
    (role ≠ s.role n → s.engine.laneHolds[n] = [] ∧ ((0 : Lane) = n ∨ s.lanes[n].request = .empty))

theorem witness_setLaneWrites_till : SetLaneCase 1 .till 5 0 1 (asking (.setLane 0 1 1 5 0 1) ready) := by decide +kernel

theorem witness_setLaneWrites_off : SetLaneCase 1 .off 600 120 64 (asking (.setLane 0 1 0 600 120 64) ready) := by
  decide +kernel

/-- Lane 1 with a BUSY answer being sent and no request of its own. -/
def busySending : State :=
  { ready with lanes := ready.lanes.set 1 { ready.lanes[1] with busy := some ⟨1, 8, .busy, []⟩, tx := [.busy] } }

theorem witness_setLaneWrites_off_busy :
    SetLaneCase 1 .off 600 120 64 (asking (.setLane 0 1 0 600 120 64) busySending) ∧
      busySending.lanes[(1 : Lane)].tx.head? = some .busy ∧ ready.lanes[(1 : Lane)].tx.head? ≠ some .busy := by
  decide +kernel

theorem witness_setLaneWrites_office : SetLaneCase 1 .office 600 2 64 (asking (.setLane 0 1 2 600 2 64) ready) := by
  decide +kernel

theorem witness_setLaneWrites_fromOff :
    SetLaneCase 1 .till 90 15 32 (asking (.setLane 0 1 1 90 15 32)
      { ready with lanes := ready.lanes.set 1 (LaneUnit.afterReset ⟨.off, 90, 15, 32⟩) }) := by decide +kernel

theorem witness_setLaneWrites_fromOffice :
    SetLaneCase 1 .till 90 15 32 (asking (.setLane 0 1 1 90 15 32)
      { ready with lanes := ready.lanes.set 1 (LaneUnit.afterReset ⟨.office, 90, 15, 32⟩) }) := by decide +kernel

theorem witness_setLaneWrites_badValue :
    ∀ x ∈ [(8, 2, 5, 0, 1), (0, 3, 5, 0, 1), (0, 2, 4, 0, 1), (0, 2, 601, 0, 1), (0, 2, 5, 1, 1), (0, 2, 5, 121, 1),
        (0, 2, 5, 0, 0), (0, 2, 5, 0, 65)],
      (asking (.setLane 0 x.1 x.2.1 x.2.2.1 x.2.2.2.1 x.2.2.2.2) ready).AsksReady
        (.setLane 0 x.1 x.2.1 x.2.2.1 x.2.2.2.1 x.2.2.2.2) := by decide +kernel

theorem witness_setLaneWrites_refused :
    (asking (.setLane 0 0 1 5 0 1) ready).AsksReady (.setLane 0 0 (roleCode .till) 5 0 1) ∧
      (¬ ∃ k : Lane, (if k = 0 then .till else ready.role k) = .office) ∧
      (asking (.setLane 0 1 0 5 0 1) (withHold (heldOn .live))).AsksReady (.setLane 0 1 (roleCode .off) 5 0 1) ∧
      ready.role 1 = .till ∧ (withHold (heldOn .live)).engine.laneHolds[(1 : Lane)] ≠ [] := by decide +kernel

/-- Lane 1 LOST, its LANE_LOST notice placed. -/
def lostLane : State :=
  { ready with
    lanes := ready.lanes.set 1 { LaneUnit.afterReset (LaneSettings.default 1) with state := .lost, receiver := .hunt },
    notices := { ready.notices with lanes := ready.notices.lanes.set 1 ⟨[.laneLost 2 9], false, true⟩ } }

theorem witness_pollNoticeReturnsHead :
    (asking (.pollNotice 1) lostLane).Asks (.pollNotice 1) ∧ (asking (.pollNotice 2) lostLane).Asks (.pollNotice 2) ∧
      lostLane.notices.lanes[(1 : Lane)].queue = [.laneLost 2 9] ∧ lostLane.lanes[(1 : Lane)].state = .lost ∧
      lostLane.lanes[(1 : Lane)].noticeAwaited = false := by decide +kernel

theorem witness_noticesPlaced :
    ready.notices.flag .laneLost = false ∧ ready.notices.routes[classIndex .laneLost] = some 0 ∧
      ({ ready.notices with flags := flagBit .laneLost } : NoticeUnit).flag .laneLost = true ∧
      (List.replicate 7 (Notice.laneLost 1 0)).length < 8 ∧ (List.replicate 8 (Notice.laneLost 1 0)).length = 8 ∧
      (List.replicate 8 (Notice.laneLost 1 0)).all Notice.isLaneLost = true ∧
      List.replicate 7 (Notice.event .laneLost 0) ++ [.laneLost 1 0] =
        List.replicate 6 (.event .laneLost 0) ++ .event .laneLost 0 :: [.laneLost 1 0] := by decide +kernel

theorem witness_settingsWritten :
    ∀ c ∈ [Instr.setCeiling 0 2000000, .setCeiling 0 2000001, .setLowMark 0 100000000, .setLowMark 0 100000001,
        .setDrainLimit 0 10, .setDrainLimit 0 900, .setDrainLimit 0 9, .setDrainLimit 0 901, .setClock 0 86399,
        .setClock 0 86400, .setSchedule 0 5 86399 1, .setSchedule 0 0 86400 0, .setRoute 0 9 0xFF, .setRoute 0 0 7,
        .clearEvents 0 1023, .clearEvents 0 1024, .readEvents 0],
      (asking c ready).AsksReady c := by decide +kernel

theorem witness_settingsWritten_badValue :
    ∀ c ∈ [Instr.setSchedule 0 6 0 0, .setSchedule 0 0 0 2, .setRoute 0 10 0xFF, .setRoute 0 0 8, .setRoute 0 0 0xFE],
      (asking c ready).AsksReady c := by decide +kernel

theorem witness_configurationRequests :
    (∀ c ∈ [Instr.saveConfig 0, .lockConfig 0], (asking c ready).AsksReady c) ∧ ready.journal.store = .ok ∧
      (asking (.saveConfig 0) { ready with journal := { ready.journal with store := .fault } }).AsksReady (.saveConfig 0) ∧
      ∀ c ∈ [Instr.readConfig 0 0, .readConfig 0 1, .readConfig 0 4, .readConfig 0 5],
        (asking c State.reset).Asks c := by decide +kernel

theorem witness_refreshBringsPurseIntoPeriod :
    (withCard (cardFrom 4)).tablesCanonical ∧ ((withCard (cardFrom 4)).engine.card 3).state ≠ .free ∧
      ((withCard (cardFrom 4)).engine.card 3).allowancePeriod ≠ (withCard (cardFrom 4)).period.number ∧
      ((withCard (cardFrom 5)).engine.card 3).allowancePeriod = (withCard (cardFrom 5)).period.number ∧
      (ready.engine.card 3).state = .free := by decide +kernel

theorem witness_mapPlacesCards :
    slotOf ready.engine.ranges 100 = some 0 ∧ slotOf ready.engine.ranges 109 = some 9 ∧
      slotOf ready.engine.ranges 110 = none ∧ cardsApart ready.engine.ranges = true ∧
      mapsTo ready.engine.ranges 109 0 = true := by decide +kernel

theorem witness_mapPlacesCards_run :
    ready.engine.ranges[(0 : Fin 8)].enabled = true ∧ 109 < 100 + (10 - spanStart ready.engine.ranges 0) ∧
      spanStart ready.engine.ranges 1 = 10 ∧ (∀ j : Fin 8, j.val < 0 → ready.engine.ranges[j].enabled = false) ∧
      (∀ i : Fin 8, 0 < i → i.val < 1 → ready.engine.ranges[i].enabled = false) := by decide +kernel

/-- Cards 100 and 109 run in entry 0, card 110 in none: the clauses of `refreshBringsPurseIntoPeriod` and `holdPlaced` on a
card's entry. -/
theorem witness_cardInRun :
    ∀ runs : Nat → Fin 8 → Prop,
      (∀ card k, runs card k ↔ ready.engine.ranges[k].enabled = true ∧ ready.engine.ranges[k].firstCard ≤ card ∧
        card < ready.engine.ranges[k].firstCard + (ready.engine.ranges[k].slotEnd - spanStart ready.engine.ranges k)) →
      cardsApart ready.engine.ranges = true ∧ runs 100 0 ∧ runs 109 0 ∧ ∀ k, ¬ runs 110 k := by
  intro runs h
  simp only [h]
  decide +kernel

theorem witness_readsAnswer :
    (∀ c ∈ [Instr.balance 1 103, .balance 1 104, .readPurse 0 0, .readPurse 0 4093, .readPurse 0 4094, .readPurse 0 4095,
        .readPurse 0 4096, .readTotals 0 0, .readTotals 0 1, .readTotals 0 2, .readTotals 0 3, .readTotals 0 4],
      (asking c (withCard (cardFrom 4))).AsksReady c) ∧
      lookup (withCard (cardFrom 4)).engine 103 = some 3 ∧ lookup (withCard (cardFrom 4)).engine 104 = none ∧
      4093 + ready.engine.sponsorCount < 4096 := by decide +kernel

/-- The entry written by the SET_RANGE of `witness_setRangeWrites`. -/
def newEntry : RangeEntry := ⟨true, 16777215, 11, 10000, some 1, 100000⟩

theorem witness_setRangeWrites :
    (asking (.setRange 0 7 1 16777215 11 10000 1 100000) (withCard (cardFrom 4))).AsksReady
        (.setRange 0 7 (boolCode newEntry.enabled) newEntry.firstCard newEntry.slotEnd newEntry.grant
          (sponsorField newEntry.sponsor) newEntry.limit) ∧
      (∀ n ∈ newEntry.sponsor, n < ready.engine.sponsorCount ∧ n < 64) ∧
      lastCardOk (ready.engine.ranges.set 7 newEntry) 7 = true ∧
      slotEndsInOrder (ready.engine.ranges.set 7 newEntry) = true ∧
      clearOfSponsors (ready.engine.ranges.set 7 newEntry) ready.engine.sponsorCount = true ∧
      cardsApart (ready.engine.ranges.set 7 newEntry) = true ∧
      newEntry.mapsAs ready.engine.ranges[(7 : Fin 8)] = false ∧
      (∀ x ∈ (withCard (cardFrom 4)).engine.cards, slotOf (ready.engine.ranges.set 7 newEntry) x.2.cardNumber = some x.1) := by
  decide +kernel

theorem witness_setRangeWrites_badValue :
    ∀ c ∈ [Instr.setRange 0 8 1 1 0 0 0xFF 0, .setRange 0 7 2 1 0 0 0xFF 0, .setRange 0 7 1 0 0 0 0xFF 0,
        .setRange 0 7 1 1 4097 0 0xFF 0, .setRange 0 7 1 1 0 10001 0xFF 0, .setRange 0 7 1 1 0 0 0xFF 100001,
        .setRange 0 7 1 1 0 0 64 0, .setRange 0 7 1 1 0 0 2 0],
      (asking c ready).AsksReady c := by decide +kernel

/-- The entry `x` asked for in place 7 of the map, over a purse in slot 3. -/
abbrev AsksEntry (k : Fin 8) (x : RangeEntry) : Prop :=
  (asking (.setRange 0 k.val 1 x.firstCard x.slotEnd 0 0xFF 0) (withCard (cardFrom 4))).AsksReady
    (.setRange 0 k.val (boolCode x.enabled) x.firstCard x.slotEnd x.grant (sponsorField x.sponsor) x.limit)

theorem witness_setRangeWrites_refused :
    ∀ m : RangeEntry → Fin 8 → Vector RangeEntry 8, (∀ x k, m x k = ready.engine.ranges.set k.val x) →
    (∀ x, x = (⟨true, 16777215, 12, 0, none, 0⟩ : RangeEntry) → AsksEntry 7 x ∧ lastCardOk (m x 7) 7 = false) ∧
    (∀ x, x = (⟨true, 200, 9, 0, none, 0⟩ : RangeEntry) → AsksEntry 7 x ∧ lastCardOk (m x 7) 7 = true ∧
      slotEndsInOrder (m x 7) = false) ∧
    (∀ x, x = (⟨true, 200, 4095, 0, none, 0⟩ : RangeEntry) → AsksEntry 7 x ∧ lastCardOk (m x 7) 7 = true ∧
      slotEndsInOrder (m x 7) = true ∧
      clearOfSponsors (m x 7) 2 = false) ∧
    (∀ x, x = (⟨true, 109, 11, 0, none, 0⟩ : RangeEntry) → AsksEntry 7 x ∧ lastCardOk (m x 7) 7 = true ∧
      slotEndsInOrder (m x 7) = true ∧
      clearOfSponsors (m x 7) 2 = true ∧ cardsApart (m x 7) = false) ∧
    (∀ x, x = (⟨true, 99, 10, 0, none, 0⟩ : RangeEntry) → AsksEntry 0 x ∧ lastCardOk (m x 0) 0 = true ∧
      slotEndsInOrder (m x 0) = true ∧
      clearOfSponsors (m x 0) 2 = true ∧ cardsApart (m x 0) = true ∧ x.firstCard ≠ 100 ∧ slotOf (m x 0) 103 ≠ some 3) := by
  intro m hm
  refine ⟨?_, ?_, ?_, ?_, ?_⟩ <;> (intro x hx; subst hx; rw [hm]; decide +kernel)

theorem witness_setSponsorCountWrites :
    (∀ n ∈ [1, 2, 64], (asking (.setSponsorCount 0 n) ready).AsksReady (.setSponsorCount 0 n) ∧
      clearOfSponsors ready.engine.ranges n = true) ∧ ready.engine.sponsorInUse 1 = false ∧
      ready.engine.sponsorInUse 0 = true ∧ ready.engine.sponsorCount = 2 ∧ ready.tablesCanonical := by decide +kernel

/-- A slot that leaves the sponsor region reads the card number it last held (R2, R20). -/
theorem test_sponsorCountKeepsCardNumber :
    ∀ e ∈ [({ ready.engine with cards := [(4094, { CardPurse.free with cardNumber := 7 })] } : Engine)],
      (e.withSponsorCount 1).isCardSlot 4094 = true ∧
        (e.withSponsorCount 1).cards = [(4094, { CardPurse.free with cardNumber := 7 })] ∧
        (ready.engine.withSponsorCount 1).cards = ready.engine.cards := by decide +kernel

theorem witness_setSponsorCountWrites_refused :
    (∀ n ∈ [0, 64, 65], (asking (.setSponsorCount 0 n) ready).AsksReady (.setSponsorCount 0 n)) ∧
      clearOfSponsors (ready.engine.ranges.set 7 ⟨true, 200, 4033, 0, none, 0⟩) 64 = false ∧
      clearOfSponsors ready.engine.ranges 0 = true ∧ 0 < (ready.engine.sponsor 0).balance := by decide +kernel

theorem witness_holdPlaced :
    (asking (.hold 1 103 100000 15) (withCard { cardFrom 4 with cashBalance := 99500 })).AsksReady (.hold 1 103 100000 15) ∧
      (withCard { cardFrom 4 with cashBalance := 99500 }).tablesCanonical ∧
      lookup (withCard { cardFrom 4 with cashBalance := 99500 }).engine 103 = some 3 ∧
      ((withCard { cardFrom 4 with cashBalance := 99500 }).engine.entryFor 103).sponsor = some 0 ∧
      min (min 100000 500) 1500 = 500 ∧ 100000 - 500 ≤ 99500 ∧
      ready.engine.freeList = 0 :: ready.engine.freeList.tail ∧ ready.period.state = .opened ∧
      ready.engine.laneHolds[(1 : Lane)].length < ready.lanes[(1 : Lane)].settings.holdLimit := by decide +kernel

theorem witness_holdAndCaptureRefusals :
    (asking (.hold 1 103 1 1) lostLane).AsksReady (.hold 1 103 1 1) ∧ lostLane.lanes[(1 : Lane)].state = .lost ∧
      (∀ s ∈ [{ ready with journal := { ready.journal with store := .fault } },
          { ready with period := { ready.period with state := .freezing } }],
        (asking (.hold 1 103 1 1) s).AsksReady (.hold 1 103 1 1)) ∧
      (∀ x ∈ [(HoldState.free, (1 : Lane), 512, 1), (.settling, 1, 512, 1), (.live, 2, 512, 1), (.live, 1, 512, 501),
          (.live, 1, 512, 500), (.live, 1, 0, 100000)],
        (asking (.capture x.2.1 x.2.2.1 x.2.2.2 0) (withHold (heldOn x.1))).AsksReady
          (.capture x.2.1 x.2.2.1 x.2.2.2 (boolCode false)) ∧ (heldOn x.1).generation = 512 / 512) := by decide +kernel

/-- A HOLD of this amount on card 103 whose purse is `p`, by lane 1 under a hold limit, with a spend limit on the entry. -/
def holding (p : CardPurse) (amount holdLimit spendLimit : Nat) : State :=
  asking (.hold 1 103 amount 1)
    { withCard p with
      lanes := ready.lanes.set 1 { ready.lanes[1] with settings := ⟨.till, 90, 15, holdLimit⟩ },
      engine := { (withCard p).engine with
        ranges := ready.engine.ranges.set 0 ⟨true, 100, 10, 500, some 0, spendLimit⟩,
        laneHolds := ready.engine.laneHolds.set 1 [513] } }

theorem witness_holdRefusals :
    (∀ x ∈ [(0, 1), (100001, 1), (1, 0), (1, 16)],
      (asking (.hold 1 103 x.1 x.2) (withCard (cardFrom 4))).AsksReady (.hold 1 103 x.1 x.2)) ∧
      lookup ready.engine 103 = none ∧
      (∀ p ∈ [{ cardFrom 5 with state := .blocked }, { cardFrom 5 with closeQueued := true },
          { cardFrom 5 with holdList := [1, 2, 3, 4] }, cardFrom 4],
        (holding p 1500 2 0).AsksReady (.hold 1 103 1500 1) ∧ lookup (holding p 1500 2 0).engine 103 = some 3) ∧
      (holding (cardFrom 4) 1 1 0).AsksReady (.hold 1 103 1 1) ∧
      (holding (cardFrom 4) 1 1 0).lanes[(1 : Lane)].settings.holdLimit ≤
        (holding (cardFrom 4) 1 1 0).engine.laneHolds[(1 : Lane)].length ∧
      (holding (cardFrom 4) 1501 2 0).AsksReady (.hold 1 103 1501 1) ∧ 1000 < 1501 - 500 ∧
      (holding (cardFrom 4) 1500 2 1499).AsksReady (.hold 1 103 1500 1) ∧ 1500 - 500 ≤ 1000 ∧ 1499 < 0 + 1500 := by
  decide +kernel

theorem witness_captureRefusals :
    (asking (.capture 1 512 1 0) lostLane).AsksReady (.capture 1 512 1 0) ∧
      ∀ x ∈ [(0, 0), (100001, 0), (1, 2), (100000, 255)],
        (asking (.capture 1 512 x.1 x.2) (withHold (heldOn .live))).AsksReady (.capture 1 512 x.1 x.2) := by decide +kernel

theorem witness_holdEnds : (withHold (heldOn .live)).tablesCanonical ∧
    ({ withHold (heldOn .live) with period := { ready.period with state := .freezing } } : State).tablesCanonical := by
  decide +kernel

/-- A close of lane 2 drains, with one hold left and the store in this state. -/
def closing (store : StoreState) : State :=
  { withHold (heldOn .live) with
    period := { (withHold (heldOn .live)).period with
      state := .freezing, origin := some (.lane 2), drainTimer := .running 600 },
    journal := { ready.journal with store := store } }

theorem witness_holdEnds_closing :
    (∀ store ∈ [StoreState.ok, .fault], (closing store).tablesCanonical ∧ (closing store).period.state = .freezing ∧
      (closing store).journal.store = store ∧ (endHold 0 .expired (closing store)).engine.openHolds = 0) ∧
      (endHold 0 .expired (closing .ok)).period.state = .closeWrite ∧
      (endHold 0 .expired (closing .fault)).period.state = .opened := by decide +kernel

theorem witness_releaseAndExtend :
    (∀ c ∈ [Instr.release 1 512, .release 0 512, .extend 1 512],
      (asking c (withHold (heldOn .live))).AsksReady c) ∧
      (withHold (heldOn .live)).engine.hold (512 % 512) = heldOn .live ∧ ready.role 0 = .office ∧
      (asking (.extend 1 512) (withHold { heldOn .live with extensionsUsed := 2 })).AsksReady (.extend 1 512) := by
  decide +kernel

theorem witness_releaseAndExtend_refused :
    (∀ c ∈ [Instr.release 1 512, .extend 1 512], (asking c lostLane).AsksReady c) ∧
      (∀ x ∈ [(HoldState.free, (1 : Lane), 512), (.settling, 1, 512), (.live, 2, 512), (.settling, 2, 512), (.live, 1, 0)],
        ∀ c ∈ [Instr.release x.2.1 x.2.2, .extend x.2.1 x.2.2],
          (asking c (withHold (heldOn x.1))).AsksReady c ∧ ready.role x.2.1 ≠ .office ∧ (heldOn x.1).lane = 1) ∧
      (asking (.extend 1 512) { withHold (heldOn .live) with period := { ready.period with state := .freezing } }).AsksReady
        (.extend 1 512) ∧
      (asking (.extend 1 512) (withHold { heldOn .live with extensionsUsed := 3 })).AsksReady (.extend 1 512) := by
  decide +kernel

theorem witness_tickCountsAndRaises :
    ready.restore.inReset = false ∧ ready.period.clock = none ∧
      ({ ready with period := { ready.period with clock := some 0, clockTicks := 8 } } : State).period.clockTicks < 9 := by
  decide

theorem witness_holdsEndUnasked :
    (∀ x ∈ [HoldState.live, .settling, .free],
      ({ (withHold (heldOn x)).engine with expiries := [(512, 900)] } : Engine).expiries = [(512, 900)] ∧
        (withHold (heldOn x)).tablesCanonical ∧ ((withHold (heldOn x)).engine.hold (512 % 512)).deadline = 900) ∧
      (1 : Lane) ∈ ({ ready.engine with lostLanes := [1] } : Engine).lostLanes ∧
      (withHold (heldOn .live)).engine.resolve 512 = .live ∧
      (withHold (heldOn .settling)).engine.resolve 512 = .settling ∧ ready.role 1 ≠ .off := by decide +kernel

/-- A walk that ends a hold, and one that ends none. -/
theorem witness_holdsEndUnasked_walk :
    ∀ s ∈ [withHold (heldOn .live), closing .fault, withHold (heldOn .settling), ready],
      s.restore.inReset = false ∧ s.tablesCanonical ∧ s.engine.laneHolds[(1 : Lane)].Nodup := by decide +kernel

theorem witness_captureAccepted :
    (∀ amount ∈ [1, 500], (asking (.capture 1 512 amount 1) (withHold (heldOn .live))).AsksReady
        (.capture 1 512 amount (boolCode true)) ∧ amount ≤ (heldOn .live).allowanceShare + (heldOn .live).cashShare) ∧
      (withHold (heldOn .live)).tablesCanonical ∧ (withHold (heldOn .live)).journal.store = .ok := by decide +kernel

/-- A durable and an abandoned event of a CAPTURE record wait at the engine, each before the rest. -/
theorem witness_captureAccepted_earlier :
    ready.engine.journalEvents = [] ∧
      ∀ x ∈ [JournalEvent.durable ⟨9, 1, 5, .fund ⟨0, 2000⟩ 500⟩ (.request 0),
          .abandoned ⟨9, 1, 5, .fund ⟨0, 2000⟩ 500⟩ (.request 0)],
        (handing x 0 ready).engine.journalEvents = [x] := by decide +kernel

/-- A CAPTURE record of 300 and 100 against the hold of `heldOn`. -/
def captureRecord : Record := ⟨9, 1, 5, .capture 3 ⟨.opened, 103, 900, 200, 5, 400⟩ (some ⟨0, 1200⟩) 300 100⟩

theorem witness_captureAccepted_effects :
    captureRecord.body.cardSlot ≠ some 4 ∧ captureRecord.body.sponsor ≠ some 1 ∧
      captureRecord.body = .capture 3 ⟨.opened, 103, 900, 200, 5, 400⟩ (some ⟨0, 1200⟩) 300 100 ∧
      (some (⟨0, 1200⟩ : SponsorAfter)).map SponsorAfter.sponsor = some 0 := by decide

theorem witness_captureDurableCharges :
    (∀ h ∈ [heldOn .settling, { heldOn .settling with deadlinePassed := true },
        { heldOn .settling with endMark := .laneLost }, { heldOn .settling with endMark := .drained }],
      (∀ final, (handing (.durable captureRecord (.capture 1 512 final)) 1 (withHold h)).Hands
          (.durable captureRecord (.capture 1 512 final)) ∧
          (handing (.durable captureRecord (.capture 1 512 final)) 1 (withHold h)).tablesCanonical) ∧
        ¬ (h.partsRemaining ≤ 1 ∨ h.allowanceShare ≤ 300 ∧ h.cashShare ≤ 100)) ∧
      (ready.engine.sponsor 0).balance - 300 < ready.config.lowMark := by decide +kernel

/-- The capture ring entry of `captureRecord`. -/
def ringEntry : RingEntry := ⟨9, 1, 3, 103, some 0, 300, 100, 5, .notReversed, false⟩

def withRing (x : RingEntry) : State :=
  { withCard (cardFrom 5) with engine := { (withCard (cardFrom 5)).engine with ring := [x] } }

theorem witness_reverseAccepted :
    (∀ l ∈ [(0 : Lane), 1], (asking (.reverse l 9) (withRing ringEntry)).AsksReady (.reverse l 9) ∧
        (ready.role l = .till → ringEntry.lane = l ∧ ringEntry.period = ready.period.number)) ∧
      (withRing ringEntry).tablesCanonical ∧
      (withRing ringEntry).engine.ring.find? (fun y => y.receipt = 9) = some ringEntry ∧
      ((withRing ringEntry).engine.card 3).state ≠ .free ∧
      ((withRing ringEntry).engine.card 3).cardNumber = ringEntry.cardNumber ∧
      ringEntry.sponsor = ringEntry.sponsor.filter (fun n => n < ready.engine.sponsorCount) ∧
      ({ ringEntry with sponsor := some 2, allowancePart := 0 }).sponsor ≠
        ({ ringEntry with sponsor := some 2 }).sponsor.filter (fun n => n < ready.engine.sponsorCount) ∧
      ((withRing ringEntry).cardAhead 3).cashBalance + 100 ≤ 2000000 ∧
      (withRing ringEntry).sponsorAhead 0 + 300 ≤ 100000000 := by decide +kernel

theorem witness_reverseAccepted_refused :
    (∀ s ∈ [lostLane, { ready with period := { ready.period with state := .closeWrite } }, ready],
      (asking (.reverse 1 9) s).AsksReady (.reverse 1 9)) ∧
    (∀ x ∈ [((1 : Lane), { ringEntry with reversal := .done }), (1, { ringEntry with reversal := .queued }), (2, ringEntry),
        (1, { ringEntry with period := 4 }), (1, { ringEntry with closedMark := true }),
        (1, { ringEntry with cardSlot := 4094 }),
        (1, { ringEntry with cardSlot := 4 }), (1, { ringEntry with cardNumber := 104 }),
        (1, { ringEntry with sponsor := some 2 }),
        (1, { ringEntry with cashPart := 1999001 }), (1, { ringEntry with allowancePart := 99998501 })],
      (asking (.reverse x.1 9) (withRing x.2)).AsksReady (.reverse x.1 9) ∧ ready.role x.1 = .till ∧
        (withRing x.2).engine.ring.find? (fun y => y.receipt = 9) = some x.2) ∧
    ((withRing ringEntry).engine.card 4).state = .free ∧ (withRing ringEntry).engine.sponsorCount = 2 ∧
    2000000 < ((withRing ringEntry).cardAhead 3).cashBalance + 1999001 ∧
    100000000 < (withRing ringEntry).sponsorAhead 0 + 99998501 ∧
    (asking (.reverse 1 9) { withRing ringEntry with journal := { ready.journal with store := .fault } }).AsksReady
      (.reverse 1 9) := by decide +kernel

/-- R70: a REVERSE refused for the store after its purse of period 4 was refreshed leaves the purse of period 4. -/
theorem test_refusedReverse :
    ∀ s ∈ [({ withCard (cardFrom 4) with
        engine := { (withCard (cardFrom 4)).engine with ring := [ringEntry] },
        journal := { ready.journal with store := .fault } } : State)],
      ∃ t, exec (.reverse 1 9) (asking (.reverse 1 9) s) = .next t ∧ t.engine.card 3 = cardFrom 4 ∧
        t.lanes[(1 : Lane)].reply.map ReplyFrame.result = some .storeFault := by
  intro s hs
  cases List.mem_singleton.1 hs
  exact ⟨_, rfl, by decide +kernel⟩

/-- A REVERSAL record of receipt 9. -/
def reversalRecord : Record := ⟨12, 1, 5, .reversal 3 ⟨.opened, 103, 1100, 800, 5, 0⟩ (some ⟨0, 1800⟩) 300 100 9 true⟩

theorem witness_reversalDurableGivesBack :
    (handing (.durable reversalRecord (.reversal 1 9)) 1 (withRing ringEntry)).Hands
        (.durable reversalRecord (.reversal 1 9)) ∧
      (handing (.durable reversalRecord (.reversal 1 9)) 1 (withRing ringEntry)).tablesCanonical := by decide +kernel

/-- The records of the six card operations of the office, and one of a sponsor. -/
def officeBodies : List RecordBody :=
  [.topUp 3 (cardFrom 5).after 500, .withdraw 3 (cardFrom 5).after 500, .change .block 3 (cardFrom 5).after,
   .change .unblock 3 (cardFrom 5).after, .change .closePurse 3 (cardFrom 5).after,
   .change .openPurse 3 (cardFrom 5).after, .fund ⟨0, 2000⟩ 500]

theorem witness_recordsAbandoned :
    (∀ h ∈ [heldOn .settling, { heldOn .settling with deadlinePassed := true },
        { heldOn .settling with endMark := .laneLost }, { heldOn .settling with endMark := .drained }],
      (handing (.abandoned captureRecord (.capture 1 512 true)) 1 (withHold h)).Hands
        (.abandoned captureRecord (.capture 1 512 true))) ∧
      (handing (.abandoned reversalRecord (.reversal 1 9)) 1 (withRing ringEntry)).Hands
        (.abandoned reversalRecord (.reversal 1 9)) ∧
      ∀ b ∈ officeBodies, (handing (.abandoned ⟨9, 0, 5, b⟩ (.request 0)) 0 (withCard (cardFrom 5))).Hands
        (.abandoned ⟨9, 0, 5, b⟩ (.request 0)) ∧
        (handing (.abandoned ⟨9, 0, 5, b⟩ (.request 0)) 0 (withCard (cardFrom 5))).tablesCanonical := by decide +kernel

theorem witness_stateChangesAccepted :
    (asking (.openPurse 0 104) (withCard (cardFrom 5))).AsksReady (.openPurse 0 104) ∧
      slotOf ready.engine.ranges 104 = some 4 ∧ ((withCard (cardFrom 5)).engine.card 4).state = .free ∧
      (∀ c ∈ [Instr.closePurse 0 103, .block 0 103],
        (asking c (withCard { cardFrom 5 with cashBalance := 0 })).AsksReady c) ∧
      (asking (.unblock 0 103) (withCard { cardFrom 5 with state := .blocked })).AsksReady (.unblock 0 103) ∧
      lookup (withCard { cardFrom 5 with state := .blocked }).engine 103 = some 3 ∧
      lookup (withCard { cardFrom 5 with cashBalance := 0 }).engine 103 = some 3 ∧
      (withCard (cardFrom 5)).tablesCanonical ∧ ready.period.state ≠ .closeWrite ∧ ready.journal.store = .ok := by
  decide +kernel

/-- The office asks `c` of a purse `p` in slot 3, with the store and the period in these states. -/
def officeAsks (c : Instr) (p : CardPurse) (store : StoreState) (period : PeriodState) : State :=
  asking c { withCard p with
    journal := { ready.journal with store := store }, period := { ready.period with state := period } }

theorem witness_stateChangesAccepted_refused :
    (∀ c ∈ [Instr.openPurse 0 103, .closePurse 0 103, .block 0 103, .unblock 0 103],
      (∀ p ∈ [cardFrom 5, { cardFrom 5 with closeQueued := true }, { cardFrom 5 with state := .blocked },
          { cardFrom 5 with holdList := [1] }, { cardFrom 5 with cashBalance := 0, cashOutgoing := 1 },
          { cardFrom 5 with cashBalance := 0, pendingRecords := 1 },
          { CardPurse.free with pendingRecords := 1 }, CardPurse.free],
        (officeAsks c p .ok .opened).AsksReady c) ∧
      (officeAsks c (cardFrom 5) .ok .closeWrite).AsksReady c ∧
      (∀ p ∈ [{ cardFrom 5 with cashBalance := 0 }, { cardFrom 5 with state := .blocked }, CardPurse.free],
        (officeAsks c p .fault .opened).AsksReady c)) ∧
    slotOf ready.engine.ranges 110 = none ∧ (asking (.openPurse 0 110) ready).AsksReady (.openPurse 0 110) ∧
    slotOf ready.engine.ranges 103 = some 3 ∧ lookup ready.engine 103 = none ∧
    ∀ p ∈ [cardFrom 5, { cardFrom 5 with state := .blocked }],
      lookup (officeAsks (.block 0 103) p .ok .opened).engine 103 = some 3 := by decide +kernel

theorem witness_cashMovesReserved :
    (∀ amount ∈ [1, 1000], (asking (.withdraw 0 103 amount) (withCard (cardFrom 5))).AsksReady (.withdraw 0 103 amount)) ∧
      (∀ amount ∈ [1, 49000], (asking (.topUp 0 103 amount) (withCard (cardFrom 5))).AsksReady (.topUp 0 103 amount) ∧
        1000 + 0 + amount ≤ ready.config.ceiling) ∧
      lookup (withCard (cardFrom 5)).engine 103 = some 3 ∧
      (asking (.fundSponsor 0 0 99998500) ready).AsksReady (.fundSponsor 0 0 99998500) ∧
      (asking (.fundSponsor 0 1 100000000) ready).AsksReady (.fundSponsor 0 1 100000000) ∧
      ready.sponsorAhead 0 + 99998500 ≤ 100000000 ∧ ready.sponsorAhead 1 + 100000000 ≤ 100000000 := by decide +kernel

theorem witness_cashMovesReserved_refused :
    (∀ c ∈ [Instr.topUp 0 103 1, .withdraw 0 103 1, .fundSponsor 0 0 1],
      (officeAsks c (cardFrom 5) .ok .closeWrite).AsksReady c ∧ (officeAsks c (cardFrom 5) .fault .opened).AsksReady c) ∧
    (∀ c ∈ [Instr.topUp 0 103 0, .topUp 0 103 2000001, .withdraw 0 103 0, .withdraw 0 103 2000001, .topUp 0 104 1,
        .withdraw 0 104 1, .topUp 0 103 49001, .withdraw 0 103 1001, .fundSponsor 0 2 1, .fundSponsor 0 0 0,
        .fundSponsor 0 0 100000001, .fundSponsor 0 0 99998501],
      (officeAsks c (cardFrom 5) .ok .opened).AsksReady c) ∧
    (∀ c ∈ [Instr.topUp 0 103 1, .withdraw 0 103 1],
      (officeAsks c { cardFrom 5 with closeQueued := true } .ok .opened).AsksReady c) ∧
    lookup (withCard (cardFrom 5)).engine 103 = some 3 ∧ lookup (withCard (cardFrom 5)).engine 104 = none ∧
    ready.config.ceiling < 1000 + 0 + 49001 ∧ 100000000 < ready.sponsorAhead 0 + 99998501 := by decide +kernel

theorem witness_officeRecordDurableApplies :
    ∀ b ∈ officeBodies, (handing (.durable ⟨9, 0, 5, b⟩ (.request 0)) 0 (withCard (cardFrom 5))).Hands
        (.durable ⟨9, 0, 5, b⟩ (.request 0)) ∧
      (handing (.durable ⟨9, 0, 5, b⟩ (.request 0)) 0 (withCard (cardFrom 5))).tablesCanonical ∧
      (ready.engine.card 3).state = .free := by decide +kernel

theorem witness_clockAdvances :
    (∀ c ∈ [0, 86399], ({ ready.period with clock := some c, clockDue := 1 } : PeriodControl).clock = some c) ∧
      (∀ k : Fin 6, ready.period.schedule[k].enabled ≠ true) ∧
      (∀ j : Fin 6, j < 1 → ¬ ((ready.period.schedule.set 1 ⟨0, true⟩)[j].enabled = true)) ∧
      (ready.period.schedule.set 1 ⟨0, true⟩)[(1 : Fin 6)] = ⟨0, true⟩ ∧ (withHold (heldOn .live)).period.holdCount ≠ 0 := by
  decide +kernel

theorem witness_clockAdvances_noHold :
    ∀ store ∈ [StoreState.ok, .fault], ∀ s ∈ [({ ready with
        period := { ready.period with clock := some 86399, clockDue := 1, schedule := ready.period.schedule.set 1 ⟨0, true⟩ },
        journal := { ready.journal with store := store } } : State)],
      s.restore.inReset = false ∧ s.period.clock = some 86399 ∧ 0 < s.period.clockDue ∧ s.period.state = .opened ∧
        s.period.holdCount = 0 ∧ s.period.schedule[(1 : Fin 6)] = ⟨0, true⟩ ∧ s.journal.store = store ∧
        ∀ j : Fin 6, j < 1 → s.period.schedule[j].enabled = false := by decide +kernel

theorem witness_closePeriodStarts :
    (∀ s ∈ [ready, withHold (heldOn .live), { ready with journal := { ready.journal with store := .fault } },
        { ready with period := { ready.period with state := .freezing } }],
      (asking (.closePeriod 0) s).AsksReady (.closePeriod 0)) ∧
      ready.period.holdCount = 0 ∧ (withHold (heldOn .live)).period.holdCount ≠ 0 := by decide +kernel

/-- A FREEZING period with one hold, its drain timer stopped, and a drain event sent. -/
def draining (x : HoldState) : State :=
  { withHold (heldOn x) with
    period := { (withHold (heldOn x)).period with state := .freezing, drainTimer := .stopped },
    engine := { (withHold (heldOn x)).engine with drains := 1 } }

theorem witness_drainForced : ∀ x ∈ [HoldState.live, .settling],
    (draining x).restore.inReset = false ∧ (draining x).period.drainTimer = .stopped ∧ (draining x).engine.drains = 1 ∧
      (draining x).period.state = .freezing ∧ (draining x).tablesCanonical ∧
      (512 : Nat) ∈ (draining x).engine.laneHolds[(1 : Lane)] ∧
      (draining x).engine.resolve 512 = (if x = .live then .live else .settling) := by decide +kernel

/-- The walk over the lists of all lanes, with a hold to act on and with none. -/
theorem witness_drainForced_walk :
    ∀ s ∈ [draining .live, draining .settling, draining .free],
      (s.engine.laneHolds[(0 : Lane)] ++ s.engine.laneHolds[(1 : Lane)] ++ s.engine.laneHolds[(2 : Lane)] ++
        s.engine.laneHolds[(3 : Lane)] ++ s.engine.laneHolds[(4 : Lane)] ++ s.engine.laneHolds[(5 : Lane)] ++
        s.engine.laneHolds[(6 : Lane)] ++ s.engine.laneHolds[(7 : Lane)]).Nodup ∧ s.restore.inReset = false ∧
        s.engine.drains = 1 ∧ s.period.state = .freezing ∧ s.period.drainTimer = .stopped ∧ s.tablesCanonical := by
  decide +kernel

/-- The hold of `draining` with the timer in another state: its event comes from an earlier close. -/
def drainLate (timer : Timer) : State :=
  { draining .live with period := { (draining .live).period with drainTimer := timer } }

theorem witness_drainForced_late : ∀ timer ∈ [Timer.running 600, .due 10],
    (drainLate timer).restore.inReset = false ∧ 0 < (drainLate timer).engine.drains ∧
      (drainLate timer).period.drainTimer = timer ∧ timer ≠ .stopped := by decide +kernel

/-- R116: the late event ends no hold, the close's own does. -/
theorem test_lateDrain :
    (∃ t, exec .drainEvent (drainLate (.running 600)) = .next t ∧ t.engine.resolve 512 = .live) ∧
      ∃ t, exec .drainEvent (draining .live) = .next t ∧ t.engine.resolve 512 = .ended :=
  ⟨⟨_, rfl, by decide +kernel⟩, _, rfl, by decide +kernel⟩

/-- A PERIOD_CLOSE record. -/
def closeRecord : Record := ⟨9, 0, 6, .periodClose (.lane 0) none ⟨0, 0, 0, 0, 0, false⟩⟩

theorem witness_closeEnds :
    (∀ x ∈ [JournalEvent.durable closeRecord .periodControl, .abandoned closeRecord .periodControl],
      (handing x 0 ready).Hands x) ∧
      ({ ready.period with closeEnd := some .durable } : PeriodControl).closeEnd = some .durable := by decide +kernel

/-- A journal at sequence number `n`, its next `more` numbers not yet durable. -/
def journalAt (n more : Nat) (store : StoreState) : State :=
  { ready with journal := { ready.journal with lastDurable := n, nextSeq := n + 1 + more, store := store } }

theorem witness_storeRequestsWait :
    (∀ s ∈ [journalAt 8 0 .ok, journalAt 8 1 .ok], (asking (.sync 0) s).AsksReady (.sync 0)) ∧
      (∀ n ∈ [809, 9000, 808, 9001, 0],
        (asking (.readJournal 0 n) (journalAt 9000 0 .ok)).AsksReady (.readJournal 0 n)) ∧ 9000 ≤ 809 + 8191 ∧
      (∀ s ∈ [journalAt 8 0 .ok, journalAt 4294967230 0 .fault, journalAt 4294967231 0 .fault],
        (asking (.retryStore 0) s).AsksReady (.retryStore 0)) := by decide +kernel

theorem witness_portGranted :
    ready.restore.inReset = false ∧ ready.restore.part = .ready ∧ ready.journal.port = none ∧
      ready.journal.store = .ok ∧ ready.journal.exhaustionDue = false ∧ ready.journal.stale = [] ∧
      ready.journal.queue = [] ∧ ready.journal.save = none ∧ ready.journal.retry = none := by decide

theorem witness_portGranted_work :
    (∀ j ∈ [{ ready.journal with stale := [3] },
        { ready.journal with queue := [⟨captureRecord, .capture 1 512 true, false⟩] },
        { ready.journal with save := some [0] }, { ready.journal with reads := [⟨0, 9, false⟩] }],
      j.port = none ∧ j.store = .ok ∧ j.exhaustionDue = false) ∧
    (∀ j ∈ [{ ready.journal with store := .fault, retry := some [0] },
        { ready.journal with store := .fault, reads := [⟨0, 9, false⟩] }], j.port = none ∧ j.store = .fault) ∧
    3 + ready.engine.sponsorCount < 4096 ∧ 4096 ≤ 4094 + ready.engine.sponsorCount ∧ ready.untakenRecords = [] ∧
    ({ ready.restore with part := .formatting } : RestoreUnit).inReset = false := by decide +kernel

theorem witness_portGranted_exhausted :
    ∀ reads ∈ [[⟨0, 9, false⟩], ([] : List ReadWait)],
      ∀ s ∈ [({ ready with journal := { ready.journal with exhaustionDue := true, reads := reads } } : State)],
        s.restore.inReset = false ∧ s.journal.port = none ∧ s.restore.part = .ready ∧ s.journal.store = .ok ∧
          s.journal.exhaustionDue = true ∧ s.journal.reads = reads := by decide

theorem witness_portGranted_formatWaits :
    ∀ due ∈ [true, false], ∀ s ∈ [({ ready with journal := { ready.journal with exhaustionDue := due },
                                                restore := { ready.restore with part := .formatting } } : State)],
      s.restore.inReset = false ∧ s.journal.port = none ∧ s.restore.part = .formatting ∧
        s.journal.exhaustionDue = due := by decide

/-- A record's first write, at `attempt` and with its timer at `timer`. -/
def recordWriting (r : Record) (attempt : Nat) (timer : Timer) : State :=
  writing (.recordWrite r) ⟨ringAddress (ringSlot r.sequence), recordUnit r, attempt, timer⟩ ready

theorem witness_recordBecomesDurable :
    (recordWriting captureRecord 1 (.running 2)).memoryCanonical ∧
      (recordWriting captureRecord 1 (.running 2)).Writes (.recordWrite captureRecord)
        ⟨ringAddress 9, recordUnit captureRecord, 1, .running 2⟩ ∧
      imageSlots captureRecord.body = [3, 4095] ∧ imageSlots closeRecord.body = [] ∧
      (writing (.imageWrites captureRecord 4095 []) ⟨imageAddress 4095, voidUnit, 1, .running 2⟩ ready).Writes
        (.imageWrites captureRecord 4095 []) ⟨imageAddress 4095, voidUnit, 1, .running 2⟩ := by decide +kernel

/-- A write of a void unit to image slot 0. -/
def aWrite (attempt : Nat) (timer : Timer) : StoreWrite := ⟨0x20000, voidUnit, attempt, timer⟩

/-- Whatever operation the write belongs to, in every state that no pin reset holds. -/
theorem writing_writes (op : PortOp) (w : StoreWrite) (s : State) (h : s.restore.inReset = false) :
    (writing op w s).Writes op w := ⟨h, rfl⟩

theorem writing_succeeds (op : PortOp) (timer : Timer) (h : timer = .running 2 ∨ timer = .due ready.now) :
    (writing op (aWrite 1 timer) ready).Succeeds (aWrite 1 timer) 0 .whole .asStored := by
  refine ⟨by decide, fun e he => ?_, ?_⟩
  · rcases h with rfl | rfl <;> cases he
    rfl
  · rcases h with rfl | rfl <;> exact (by decide +kernel :
      readAnswer .asStored (writeEffect .whole (aWrite 1 (.running 2)) []) 0x20000 32 = voidUnit)

theorem writing_fails (op : PortOp) (n : Nat) :
    (writing op (aWrite n (.due 0)) ready).FailsBy (aWrite n (.due 0)) .nothing (.writeStatusTimeout .nothing) ∧
      (writing op (aWrite n (.due 1)) ready).FailsBy (aWrite n (.due 1)) .whole (.storeWriteComplete .whole ⟨0, .asStored⟩) ∧
      (writing op (aWrite n (.running 2)) ready).FailsBy (aWrite n (.running 2)) .whole
        (.storeWriteComplete .whole ⟨0, .silent⟩) :=
  ⟨.inl ⟨rfl, 0, rfl⟩, .inr ⟨0, .asStored, rfl, by decide, 
    .inl ⟨1, rfl, show (1 : Tick) ≠ ready.now by decide⟩⟩,
    .inr ⟨0, .silent, rfl, by decide, .inr (by
      exact (by decide +kernel : readAnswer .silent (writeEffect .whole (aWrite 0 (.running 2)) []) 0x20000 32 ≠ voidUnit))⟩⟩

theorem witness_recordBecomesDurable_records :
    (captureRecord.body.cardSlot = some 3 ∧ captureRecord.body.cardAfter ≠ none) ∧
      (RecordBody.fund ⟨63, 2000⟩ 500).cardSlot = none ∧ (RecordBody.fund ⟨63, 2000⟩ 500).sponsorAfter = some ⟨63, 2000⟩ ∧
      closeRecord.body.cardSlot = none ∧ closeRecord.body.sponsorAfter = none ∧
      captureRecord.body.sponsorAfter = some ⟨0, 1200⟩ ∧ captureRecord.body.cardSlot ≠ some (4095 - 0) := by decide

theorem witness_attemptsRepeat :
    (∀ n ∈ [1, 2], (recordWriting captureRecord n (.due 2)).Writes (.recordWrite captureRecord)
        ⟨ringAddress 9, recordUnit captureRecord, n, .due 2⟩ ∧ n < 3) ∧
      readAnswer .silent [] 0 (recordUnit captureRecord).length ≠ recordUnit captureRecord := by decide +kernel

theorem witness_attemptsRepeat_mark :
    (1 : Byte).getLsbD 0 = true ∧ ready.memoryCanonical ∧ 4 ≤ (aWrite 1 (.running 2)).bytes.length := by decide +kernel

theorem witness_storeEntersFault :
    (recordWriting captureRecord 3 (.due 2)).Writes (.recordWrite captureRecord)
        ⟨ringAddress 9, recordUnit captureRecord, 3, .due 2⟩ ∧
      (∃ q, ({ ready.journal with lastDurable := 8, queue := [⟨captureRecord, .capture 1 512 true, true⟩] } :
        JournalUnit).waiting = [q]) ∧
      ({ ready with journal := { ready.journal with exhaustionDue := true } } : State).restore.inReset = false :=
  ⟨by decide +kernel, ⟨_, rfl⟩, rfl⟩

theorem witness_storeEntersFault_stale : [3, 4095].Pairwise (· < ·) := by decide

/-- The first 15 bytes of a good header. -/
def goodHeader : Memory := writeBytes [] 0 (headerStart formatMark 1 1 ++ checkBytes (headerStart formatMark 1 1))

/-- The retry runs for the RETRY_STORE of lane 0, with a void slot noted or not. -/
def retrying (void : Option Nat) : State :=
  { ready with journal := { ready.journal with store := .fault, retry := some [0], voidSlot := void } }

theorem witness_retryRuns_header :
    (∀ void ∈ [none, some 8191], (retrying void).restore.inReset = false ∧ (retrying void).journal.retry = some [0] ∧
      (retrying void).journal.voidSlot = void) ∧
    (∀ h ∈ [readAnswer .asStored goodHeader 0 15],
      h.take 4 = [0x5A, 0x3C, 0x96, 0xC3] ∧ h.drop 13 = checkBytes (h.take 13)) ∧
    (∀ h ∈ [readAnswer .silent goodHeader 0 15], h.take 4 ≠ [0x5A, 0x3C, 0x96, 0xC3]) := by decide +kernel

theorem witness_retryRuns_writes (void : Option Nat) (op : PortOp) :
    (writing op (aWrite 1 (.running 2)) (retrying void)).journal.retry = some [0] ∧
      (writing op (aWrite 1 (.running 2)) (retrying void)).journal.voidSlot = void ∧
      (writing op (aWrite 1 (.running 2)) (retrying void)).Succeeds (aWrite 1 (.running 2)) 0 .whole .asStored ∧
      (writing op (aWrite 3 (.due 0)) (retrying void)).FailsBy (aWrite 3 (.due 0)) .nothing (.writeStatusTimeout .nothing) :=
  ⟨rfl, rfl, writing_succeeds op (.running 2) (.inl rfl), (writing_fails op 3).1⟩

/-- A CAPTURE record's unit in its ring slot. -/
def ringMemory : Memory := writeBytes [] (ringAddress 9) (recordUnit captureRecord)

theorem witness_journalReadJudged :
    readRecord (9 % 8192) (readAnswer .asStored ringMemory (0x40000 + 32 * (9 % 8192)) 32) = some captureRecord ∧
      captureRecord.sequence = 9 ∧ captureRecord.sequence ≠ 8201 ∧
      readRecord (9 % 8192) (readAnswer .silent ringMemory (0x40000 + 32 * (9 % 8192)) 32) = none := by decide +kernel

theorem witness_heldInReset :
    ({ ready with restore := { ready.restore with inReset := true } } : State).restore.inReset = true ∧
      ¬ isReset .tick := ⟨rfl, fun h => h⟩

/-- A good header with a good configuration block. -/
def configHeader : Memory :=
  writeBytes (writeBytes goodHeader configAddress (configBlock WorkingConfig.default)) configCheckAddress
    (checkBytes (configBlock WorkingConfig.default))

set_option maxRecDepth 100000 in
theorem witness_headerLoaded :
    (readAnswer .asStored [] 0 430).take 4 ≠ [0x5A, 0x3C, 0x96, 0xC3] ∧
      (∀ h ∈ [readAnswer .asStored (writeBytes [] 0 (formatMark ++ [2])) 0 430],
        h.take 4 = [0x5A, 0x3C, 0x96, 0xC3] ∧ (h.drop 13).take 2 ≠ checkBytes (h.take 13) ∧ (h.drop 4).take 1 ≠ [0x01]) ∧
      (∀ h ∈ [readAnswer .asStored goodHeader 0 430, readAnswer .asStored configHeader 0 430],
        h.take 13 = [0x5A, 0x3C, 0x96, 0xC3, 0x01] ++ beBytes 4 1 ++ beBytes 4 1 ∧
          (h.drop 13).take 2 = checkBytes (h.take 13)) ∧
      (∀ h ∈ [readAnswer .asStored configHeader 0 430],
        (h.drop 0x100).take 172 = configBlock WorkingConfig.default ∧
          (h.drop 0x1AC).take 2 = checkBytes ((h.drop 0x100).take 172)) ∧
      (∀ h ∈ [readAnswer .asStored goodHeader 0 430],
        (h.drop 0x1AC).take 2 ≠ checkBytes ((h.drop 0x100).take 172)) ∧
      (∀ h ∈ [readAnswer .silent goodHeader 0 430], h.take 4 ≠ [0x5A, 0x3C, 0x96, 0xC3]) ∧
      WorkingConfig.default.inRange ∧
      State.reset.restore.inReset = false ∧ State.reset.restore.part = .restoring ∧ State.reset.restore.stage = .header := by
  unfold WorkingConfig.inRange
  decide +kernel

/-- A unit of zeros spells no record. -/
theorem test_voidUnitIsNoRecord (k : Nat) : readRecord k voidUnit = none := by
  have h : unitCheckOk voidUnit = false := by decide +kernel
  simp [readRecord, h]

/-- On an empty ring N is 0, `e` runs from -8,190 in slot 2 up to 0 in slot 0, and over base 1 no slot is examined. -/
theorem witness_ringScanned (consistent : Prop) (unit : Nat → Option Record) (e : Nat → Int) (examined : Nat → Prop)
    (base : Nat) (hu : ∀ k, unit k = readRecord k (readAnswer .asStored [] (0x40000 + 32 * k) 32))
    (he : ∀ k, e k = if k = 0 then 0 else (k : Int) - 8192) (hx : ∀ k, examined k ↔ k < 8192 ∧ (base : Int) ≤ e k)
    (hc : consistent ↔ ¬ (0 < 0 ∧ 0 < base) ∧ ∀ k, examined k →
      (∃ r, unit k = some r ∧ (r.sequence : Int) = e k) ∨ k = (0 + 1) % 8192 ∧ unit k = none) :
    (∀ k, unit k = none) ∧ (∀ k < 8192, (0 : Int) - 8191 ≤ e k ∧ e k ≤ 0 ∧ e k % 8192 = k) ∧
      (1 ≤ base → consistent) ∧ (base = 0 → ¬ consistent) := by
  have hu : ∀ k, unit k = none := fun k => (hu k).trans (test_voidUnitIsNoRecord k)
  refine ⟨hu, fun k hk => ?_, fun hb => hc.2 ⟨by omega, fun k h => ?_⟩, fun hb h => ?_⟩
  · rw [he]
    split <;> omega
  · obtain ⟨h, h'⟩ := (hx k).1 h
    rw [he] at h'
    split at h' <;> omega
  · rcases (hc.1 h).2 0 ((hx 0).2 ⟨by decide, by rw [he, hb]; decide⟩) with ⟨r, h, _⟩ | ⟨h, _⟩
    · rw [hu] at h
      cases h
    · cases h

theorem witness_ringScanned_state (defaulted : Bool) (base : Nat) :
    ∃ s : State, s.restore.inReset = false ∧ s.restore.part = .restoring ∧ s.restore.stage = .ringScan defaulted ∧
      s.restore.ringBase = base ∧ s.memory = [] :=
  ⟨{ State.reset with restore := { RestoreUnit.afterReset with stage := .ringScan defaulted, ringBase := base } },
    rfl, rfl, rfl, rfl, rfl⟩

/-- A store in which every image slot below `n` holds the FREE image of a format. -/
def imagesTo : Nat → Memory
  | 0 => []
  | n + 1 => writeBytes (imagesTo n) (imageAddress n) (formatImageUnit 0)

theorem imagesTo_wf (n : Nat) : Memory.wf (imagesTo n) = true := by
  induction n with
  | zero => rfl
  | succ n ih => exact writeBytes_wf _ _ _ ih

theorem formatImageUnit_length : (formatImageUnit 0).length = 32 := by decide +kernel

theorem readBytes_imagesTo (n k : Nat) (h : k < n) : readBytes (imagesTo n) (imageAddress k) 32 = formatImageUnit 0 := by
  induction n with
  | zero => omega
  | succ n ih =>
    rcases Nat.lt_or_eq_of_le (Nat.le_of_lt_succ h) with hk | rfl
    · rw [← ih hk, readBytes_eq _ _ _ (imagesTo_wf _), readBytes_eq _ _ _ (imagesTo_wf _)]
      refine List.map_congr_left fun i hi => readByte_writeBytes_outside _ _ _ _ (Or.inl ?_)
      have := List.mem_range.1 hi
      simp only [imageAddress]
      omega
    · have := readBytes_writeBytes (imagesTo k) (imageAddress k) (formatImageUnit 0) (imagesTo_wf _)
      rwa [formatImageUnit_length] at this

/-- The image a format leaves. -/
def freeImage : Image := .card CardPurse.free.after 0

/-- The images of that store. -/
def formatted (k : Nat) : Option Image := readImage (readAnswer .asStored (imagesTo 4096) (imageAddress k) 32)

theorem formatted_eq (k : Nat) (h : k < 4096) : formatted k = some freeImage := by
  rw [formatted, readAnswer, readBytes_imagesTo _ _ h]
  decide +kernel

/-- A record that names slot 0, newer than its image. -/
def newerRecord : Record := ⟨1, 0, 1, .change .closePurse 0 CardPurse.free.after⟩

theorem newerRecord_carries (k : Nat) (j : Image) :
    newerRecord.Carries k j ↔ k = 0 ∧ j = .card CardPurse.free.after 1 := by
  constructor
  · rintro (⟨c, hk, hc, rfl⟩ | ⟨a, _, ha, _⟩)
    · cases hk
      cases hc
      exact ⟨rfl, rfl⟩
    · cases ha
  · rintro ⟨rfl, rfl⟩
    exact .inl ⟨_, rfl, rfl, rfl⟩

/-- No record: an image valid is taken, and nothing where it is not. -/
theorem slotTakes_noRecord (image : Nat → Option Image) :
    SlotTakes image [] fun k => (image k).map fun i => (i, false) := by
  refine fun k _ => ⟨fun j h => ?_, fun _ => ⟨fun i h => by simp [h], fun h => by simp [h]⟩⟩
  obtain ⟨r, h, _⟩ := h
  cases h

/-- One newer record: its after-state is taken for its slot, the images for every other. -/
theorem slotTakes_newer (image : Nat → Option Image) (h : image 0 = some (.card CardPurse.free.after 0)) :
    SlotTakes image [newerRecord] fun k =>
      if k = 0 then some (.card CardPurse.free.after 1, true) else (image k).map fun i => (i, false) := by
  refine fun k _ => ⟨fun j hj => ?_, fun hn => ?_⟩
  · obtain ⟨r, hr, hc, _⟩ := hj
    cases List.mem_singleton.1 hr
    obtain ⟨rfl, rfl⟩ := (newerRecord_carries k j).1 hc
    refine ⟨fun i hi hle => ?_, fun _ _ _ => rfl, fun _ => rfl⟩
    cases h.symm.trans hi
    exact absurd hle (by decide)
  · have hk : k ≠ 0 := fun hk => hn newerRecord (List.mem_singleton.2 rfl) _ ((newerRecord_carries k _).2 ⟨hk, rfl⟩)
    simp only [if_neg hk]
    exact ⟨fun i h => by simp [h], fun h => by simp [h]⟩

/-- A FREE image sits in every slot of a map. -/
theorem free_sits (e : Engine) (k q : Nat) : ¬ e.Misplaces k (.card CardPurse.free.after q) := by
  rintro (⟨_, _, h, _⟩ | ⟨c, q', h, hc, _⟩)
  · cases h
  · cases h
    exact hc rfl

theorem witness_imagesRestored_free :
    (∀ k < 4096, formatted k = some freeImage) ∧ SlotTakes formatted [] (fun k => (formatted k).map fun i => (i, false)) ∧
      (∀ k, ¬ State.reset.engine.Misplaces k freeImage) ∧ State.reset.tablesCanonical ∧
      State.reset.engine.sponsorCount ≤ 64 ∧ ([] : List Record).Pairwise (fun r r' => r.sequence < r'.sequence) :=
  ⟨formatted_eq, slotTakes_noRecord _, fun k => free_sits _ k 0, by decide, by decide, .nil⟩

theorem witness_imagesRestored_rewrite :
    SlotTakes formatted [newerRecord] (fun k =>
        if k = 0 then some (.card CardPurse.free.after 1, true) else (formatted k).map fun i => (i, false)) ∧
      (∀ k q, ¬ State.reset.engine.Misplaces k (.card CardPurse.free.after q)) ∧
      [newerRecord].Pairwise (fun r r' => r.sequence < r'.sequence) :=
  ⟨slotTakes_newer _ (formatted_eq 0 (by decide)), free_sits _, List.pairwise_singleton _ _⟩

/-- The image of slot 0 is OPEN for card 103, which no entry of the default map places. -/
theorem witness_imagesRestored_misplaced :
    readImage (readAnswer .asStored (writeBytes [] (imageAddress 0) (imageUnit 0 (.card (cardFrom 5).after 1)))
        (imageAddress 0) 32) = some (.card (cardFrom 5).after 1) ∧
      State.reset.engine.Misplaces 0 (.card (cardFrom 5).after 1) ∧
      State.reset.engine.Misplaces 4095 (.sponsor 1 1) :=
  ⟨by decide +kernel, .inr ⟨_, _, rfl, (by decide), .inr (by decide +kernel)⟩, .inl ⟨_, _, rfl, by decide, by decide⟩⟩

theorem witness_imagesRestored_invalid : ∀ k, readImage (readAnswer .asStored [] (imageAddress k) 32) = none :=
  fun _ => (by decide +kernel : readImage voidUnit = none)

/-- A restore whose rewrites go on, with `rest` of them left. -/
def rewriting (rest : List (Nat × List Byte)) : State :=
  { State.reset with restore := { RestoreUnit.afterReset with stage := .rewriting 1 [newerRecord] rest } }

theorem witness_imagesRestored_rewrites (rest : List (Nat × List Byte)) :
    (writing .restoreImage (aWrite 1 (.running 2)) (rewriting rest)).Writes .restoreImage (aWrite 1 (.running 2)) ∧
      (rewriting rest).restore.stage = .rewriting 1 [newerRecord] rest ∧
      (writing .restoreImage (aWrite 1 (.running 2)) (rewriting rest)).Succeeds (aWrite 1 (.running 2)) 0 .whole .asStored ∧
      (writing .restoreImage (aWrite 3 (.due 0)) (rewriting rest)).FailsBy (aWrite 3 (.due 0)) .nothing
        (.writeStatusTimeout .nothing) :=
  ⟨⟨rfl, rfl⟩, rfl, writing_succeeds .restoreImage (.running 2) (.inl rfl), (writing_fails .restoreImage 3).1⟩

theorem witness_formatRuns :
    (asking (.formatStore 0) State.reset).Asks (.formatStore 0) ∧ State.reset.restore.part = .restoring ∧
      (asking (.formatStore 0) { State.reset with restore := { RestoreUnit.afterReset with part := .unformatted } }).Asks
        (.formatStore 0) ∧
      (∀ s ∈ [journalAt 4294967230 0 .ok, journalAt 4294967231 0 .ok, journalAt 4294967231 0 .fault],
        (asking (.formatStore 0) s).AsksReady (.formatStore 0)) ∧
      (asking (.formatStore 0) { withHold (heldOn .live) with journal := (journalAt 4294967231 0 .fault).journal }).AsksReady
        (.formatStore 0) ∧ (withHold (heldOn .live)).engine.openHolds ≠ 0 ∧
      (writing .formatHeader ⟨0, [0x5A], 1, .running 2⟩ State.reset).Writes .formatHeader ⟨0, [0x5A], 1, .running 2⟩ ∧
      (writing .formatHeader ⟨0, [0x5A], 1, .running 2⟩ State.reset).memoryCanonical := by decide +kernel

/-- A format runs for the FORMAT_STORE of lane 0. -/
def formatting : State :=
  { State.reset with restore := { RestoreUnit.afterReset with part := .formatting, stage := .idle, format := some 0 } }

theorem witness_formatRuns_writes (op : PortOp) :
    (writing op (aWrite 1 (.running 2)) formatting).Writes op (aWrite 1 (.running 2)) ∧
      (writing op (aWrite 1 (.running 2)) formatting).restore.format = some 0 ∧
      (writing op (aWrite 1 (.running 2)) formatting).Succeeds (aWrite 1 (.running 2)) 0 .whole .asStored ∧
      (writing op (aWrite 3 (.due 0)) formatting).FailsBy (aWrite 3 (.due 0)) .nothing (.writeStatusTimeout .nothing) :=
  ⟨⟨rfl, rfl⟩, rfl, writing_succeeds op (.running 2) (.inl rfl), (writing_fails op 3).1⟩

theorem witness_formatRuns_cards :
    (writing .formatHeader (aWrite 1 (.running 2)) { formatting with engine := (withCard (cardFrom 4)).engine }).tablesCanonical ∧
      ((withCard (cardFrom 4)).engine.emptyCards 0 4096).cards = [(3, { CardPurse.free with cardNumber := 103 })] := by
  decide +kernel

/-- On an exhausted journal FORMAT_STORE is accepted while the store is still OK (R196), and the format's first write waits for the
exhaustion (log entry 14). -/
theorem test_formatBeforeExhaustion :
    (match exec (.formatStore 0) (asking (.formatStore 0) (journalAt 4294967231 0 .ok)) with
      | .next t => decide (t.restore.part = .formatting)
      | _ => false) = true ∧
    ∀ due ∈ [true, false],
      (match exec .storePortGrant { formatting with journal := { ready.journal with exhaustionDue := due } } with
        | .next t => t.journal.port.isNone
        | _ => false) = due := by decide +kernel

theorem witness_formatRuns_cut :
    (writing .formatHeader (aWrite 1 (.running 2)) formatting).memoryCanonical ∧
      4 ≤ (aWrite 1 (.running 2)).bytes.length ∧
      ∀ cut, ∃ t, exec (.pinReset cut) (writing .formatHeader (aWrite 1 (.running 2)) formatting) = .next t :=
  ⟨by decide, by decide +kernel, fun _ => ⟨_, rfl⟩⟩

theorem witness_formatRuns_refused :
    (asking (.formatStore 0) { journalAt 4294967231 0 .fault with period := { ready.period with state := .freezing } }).AsksReady
        (.formatStore 0) ∧ ready.engine.openHolds = 0 ∧ ready.period.state = .opened ∧
      (∀ part ∈ [PartState.restoreFailed, .formatting],
        (asking (.formatStore 0) { State.reset with restore := { RestoreUnit.afterReset with part := part } }).Asks
          (.formatStore 0)) := by decide +kernel

end Sys2Proof.Tests
end

section
/-! PROOF. The rules the statements about holds rest on: a request its owner takes, a handle resolved, a purse brought into the
period, and the tables after one change. -/

namespace Sys2Proof.Machine

/-! ## Commands taken -/

theorem exec_hold (l : Lane) (card amount parts : Nat) (s : State) :
    exec (.hold l card amount parts) s = execHold l card amount parts s := rfl

theorem exec_release (l : Lane) (handle : Nat) (s : State) : exec (.release l handle) s = execRelease l handle s := rfl

theorem exec_extend (l : Lane) (handle : Nat) (s : State) : exec (.extend l handle) s = execExtend l handle s := rfl

theorem exec_holdExpiryEvent (handle : Nat) (d : Tick) (s : State) :
    exec (.holdExpiryEvent handle d) s = execHoldExpiryEvent handle d s := rfl

theorem exec_laneLostEvent (l : Lane) (s : State) : exec (.laneLostEvent l) s = execLaneLostEvent l s := rfl

theorem running_of_released {f : State → Answer} {s : State} (h : s.restore.inReset = false) : running f s = f s := by
  simp [running, h]

theorem event_of_released {f : State → State} {s : State} (h : s.restore.inReset = false) :
    event f s = .next (f s) := running_of_released h

theorem takeRequest_of_asks {c : Instr} {owner : State → Answer} {s : State} (h : s.Asks c) :
    takeRequest c owner s = owner s.taken := by
  obtain ⟨released, granted⟩ := h
  simp [takeRequest, running_of_released released, granted, State.mapArbiter_taken]

theorem State.ready_taken {c : Instr} {s : State} (h : s.AsksReady c) : s.taken.ready = true := by
  simp [State.ready, h.2]

theorem readyRequest_of_asks {c : Instr} {l : Lane} {owner : State → State} {s : State} (h : s.AsksReady c) :
    readyRequest c l owner s = .next (owner s.taken) := by
  simp [readyRequest, request, takeRequest_of_asks h.1, State.ready_taken h]

theorem State.laneLost_of_lost {s : State} {l : Lane} (lost : s.lanes[l].state = .lost) : s.laneLost l = true :=
  decide_eq_true lost

theorem State.laneLost_of_heard {s : State} {l : Lane} (heard : s.lanes[l].state ≠ .lost) : s.laneLost l = false :=
  decide_eq_false heard

/-- A state whose blocks outside the engine, its lanes and what a report reaches are those of `s`. -/
theorem State.eq_of_otherBlocks {s t : State} (arbiter : t.arbiter = s.arbiter) (config : t.config = s.config)
    (restore : t.restore = s.restore) (memory : t.memory = s.memory) (pending : t.pending = s.pending) :
    t = { s with engine := t.engine, deadlines := t.deadlines, period := t.period, journal := t.journal,
                 notices := t.notices, lanes := t.lanes } := by
  cases s; cases t; simp_all

/-! ## Handles (R25) -/

/-- What a handle that names its hold resolves to. -/
def HoldState.resolved : HoldState → Resolved
  | .free => .ended
  | .live => .live
  | .settling => .settling

theorem Engine.resolve_of_named {e : Engine} {x : Nat} (gen : (e.hold (x % 512)).generation = x / 512) :
    e.resolve x = (e.hold (x % 512)).state.resolved := by
  have named : ¬ (e.hold (handleSlot x)).generation ≠ handleGeneration x := not_not.mpr gen
  rw [Engine.resolve, if_neg named]
  rfl

theorem Engine.resolve_eq_stale (e : Engine) (x : Nat) : e.resolve x = .stale ↔
    (e.hold (x % 512)).generation ≠ x / 512 := by
  refine ⟨fun stale gen => ?_, fun gen => if_pos gen⟩
  rw [Engine.resolve_of_named gen] at stale
  cases state : (e.hold (x % 512)).state <;> simp [HoldState.resolved, state] at stale

/-- A handle resolves to a state of its hold exactly where it names the hold and the hold is in that state. -/
theorem Engine.resolve_eq_resolved (e : Engine) (x : Nat) (state : HoldState) : e.resolve x = state.resolved ↔
    (e.hold (x % 512)).generation = x / 512 ∧ (e.hold (x % 512)).state = state := by
  by_cases gen : (e.hold (x % 512)).generation = x / 512
  · rw [Engine.resolve_of_named gen]
    cases (e.hold (x % 512)).state <;> cases state <;> simp [HoldState.resolved, gen]
  · rw [(e.resolve_eq_stale x).mpr gen]
    cases state <;> simp [HoldState.resolved, gen]

theorem Engine.resolve_eq_live (e : Engine) (x : Nat) : e.resolve x = .live ↔
    (e.hold (x % 512)).generation = x / 512 ∧ (e.hold (x % 512)).state = .live := e.resolve_eq_resolved x .live

theorem Engine.resolve_eq_settling (e : Engine) (x : Nat) : e.resolve x = .settling ↔
    (e.hold (x % 512)).generation = x / 512 ∧ (e.hold (x % 512)).state = .settling := e.resolve_eq_resolved x .settling

theorem Engine.resolve_eq_ended (e : Engine) (x : Nat) : e.resolve x = .ended ↔
    (e.hold (x % 512)).generation = x / 512 ∧ (e.hold (x % 512)).state = .free := e.resolve_eq_resolved x .free

/-- A handle resolves by its own slot alone. -/
theorem Engine.resolve_congr {e e' : Engine} {x : Nat} (h : e'.hold (x % 512) = e.hold (x % 512)) :
    e'.resolve x = e.resolve x := by
  unfold Engine.resolve handleSlot
  rw [h]

/-- Handle `x` names the hold that stands in slot `k`, whatever its state. -/
def Engine.Names (e : Engine) (x k : Nat) : Prop := x % 512 = k ∧ (e.hold k).generation = x / 512

/-- At most one handle names a slot. -/
theorem Engine.Names.unique {e : Engine} {x y k : Nat} (hx : e.Names x k) (hy : e.Names y k) : x = y := by
  obtain ⟨slotX, genX⟩ := hx
  obtain ⟨slotY, genY⟩ := hy
  omega

theorem Engine.names_of_resolve {e : Engine} {x : Nat} (h : e.resolve x ≠ .stale) : e.Names x (x % 512) :=
  ⟨rfl, not_not.mp (mt (e.resolve_eq_stale x).mpr h)⟩

theorem Engine.names_of_open {e : Engine} {x : Nat} (is_open : e.resolve x = .live ∨ e.resolve x = .settling) :
    e.Names x (x % 512) :=
  Engine.names_of_resolve fun stale => by simp [stale] at is_open

theorem Engine.resolve_of_not_names {e : Engine} {x : Nat} (h : ¬ e.Names x (x % 512)) : e.resolve x = .stale :=
  not_not.mp (mt Engine.names_of_resolve h)

/-- A hold that its handle names and that is neither LIVE nor SETTLING is FREE. -/
theorem Engine.free_of_closed {e : Engine} {x : Nat} (gen : (e.hold (x % 512)).generation = x / 512)
    (closed : ¬ (e.resolve x = .live ∨ e.resolve x = .settling)) : (e.hold (x % 512)).state = .free := by
  rw [Engine.resolve_eq_live, Engine.resolve_eq_settling] at closed
  cases state : (e.hold (x % 512)).state
  case free => rfl
  case live => exact absurd (.inl ⟨gen, state⟩) closed
  case settling => exact absurd (.inr ⟨gen, state⟩) closed

/-- A handle that is not stale is the one formed from its slot. -/
theorem Engine.handleOf_named {e : Engine} {x : Nat} (h : e.resolve x ≠ .stale) :
    handleOf (e.hold (x % 512)).generation (x % 512) = x := by
  have gen := (Engine.names_of_resolve h).2
  unfold handleOf
  omega

/-! ## The refresh (R8, R9) -/

/-- A card purse as a refresh in period `period` under the map `m` leaves it. -/
def CardPurse.inPeriod (period : Nat) (m : Vector RangeEntry 8) (p : CardPurse) : CardPurse :=
  if p.state ≠ .free ∧ p.allowancePeriod ≠ period then p.refreshed period (grantOf m p.cardNumber) else p

theorem refresh_card_same {slot : Nat} {s : State} (h : s.tablesCanonical) : (refresh slot s).engine.card slot =
    (s.engine.card slot).inPeriod s.period.number s.engine.ranges := by
  unfold CardPurse.inPeriod
  split
  next due => rw [refresh_of_due due]; exact Engine.card_mapCard_same _ h.1 _ _
  next current => rw [refresh_of_current current]

theorem refresh_card_other {slot j : Nat} (h : j ≠ slot) (s : State) :
    (refresh slot s).engine.card j = s.engine.card j := by
  unfold refresh
  dsimp only
  split
  · exact Engine.card_mapCard_other _ h _
  · rfl

/-- The refresh changes the table of card purses alone. -/
theorem refresh_eq (slot : Nat) (s : State) :
    refresh slot s = { s with engine := { s.engine with cards := (refresh slot s).engine.cards } } := by
  unfold refresh
  dsimp only
  split <;> rfl

theorem refresh_engine (slot : Nat) (s : State) :
    (refresh slot s).engine = { s.engine with cards := (refresh slot s).engine.cards } :=
  congrArg State.engine (refresh_eq slot s)

/-- The refresh looks at the card purses, the range map and the period number alone. -/
theorem refresh_cards_congr (slot : Nat) {s u : State} (cards : u.engine.cards = s.engine.cards)
    (ranges : u.engine.ranges = s.engine.ranges) (number : u.period.number = s.period.number) :
    (refresh slot u).engine.cards = (refresh slot s).engine.cards := by
  have card : u.engine.card slot = s.engine.card slot := congrArg (Table.get CardPurse.free slot) cards
  by_cases due : (s.engine.card slot).state ≠ .free ∧ (s.engine.card slot).allowancePeriod ≠ s.period.number
  · rw [refresh_of_due (s := s) due, refresh_of_due (s := u) (by rwa [card, number])]
    simp [cards, ranges, number, card]
  · rw [refresh_of_current (s := s) due, refresh_of_current (s := u) (by rwa [card, number]), cards]

@[simp] theorem refresh_hold (slot k : Nat) (s : State) : (refresh slot s).engine.hold k = s.engine.hold k := by
  rw [refresh_engine]; rfl
@[simp] theorem refresh_sponsor (slot n : Nat) (s : State) :
    (refresh slot s).engine.sponsor n = s.engine.sponsor n := by
  rw [refresh_engine]; rfl
@[simp] theorem refresh_ranges (slot : Nat) (s : State) : (refresh slot s).engine.ranges = s.engine.ranges := by
  rw [refresh_engine]
@[simp] theorem refresh_freeList (slot : Nat) (s : State) : (refresh slot s).engine.freeList = s.engine.freeList := by
  rw [refresh_engine]
@[simp] theorem refresh_laneHolds (slot : Nat) (s : State) : (refresh slot s).engine.laneHolds = s.engine.laneHolds := by
  rw [refresh_engine]

@[simp] theorem refresh_holds (slot : Nat) (s : State) : (refresh slot s).engine.holds = s.engine.holds := by
  rw [refresh_engine]
@[simp] theorem refresh_sponsors (slot : Nat) (s : State) : (refresh slot s).engine.sponsors = s.engine.sponsors := by
  rw [refresh_engine]

theorem refresh_tablesCanonical (slot : Nat) {s : State} (h : s.tablesCanonical) : (refresh slot s).tablesCanonical := by
  unfold refresh
  dsimp only
  split
  · exact ⟨Table.wf_put _ _ h.1, h.2⟩
  · exact h

/-! ## Tables after a change of one purse or hold -/

theorem Engine.wf_mapSponsor? {e : Engine} (h : Table.wf .zero e.sponsors = true) (n : Option Nat)
    (f : SponsorPurse → SponsorPurse) : Table.wf .zero (e.mapSponsor? n f).sponsors = true := by
  cases n with
  | none => exact h
  | some n => exact Table.wf_put _ _ h

theorem Engine.sponsor_mapSponsor?_named {e : Engine} (h : Table.wf .zero e.sponsors = true) {n : Option Nat} {k : Nat}
    (hn : n = some k) (f : SponsorPurse → SponsorPurse) : (e.mapSponsor? n f).sponsor k = f (e.sponsor k) := by
  subst hn
  exact Engine.sponsor_mapSponsor_same e h k f

theorem Engine.sponsor_mapSponsor?_other (e : Engine) {n : Option Nat} {k : Nat} (hn : n ≠ some k)
    (f : SponsorPurse → SponsorPurse) : (e.mapSponsor? n f).sponsor k = e.sponsor k := by
  cases n with
  | none => rfl
  | some j => exact Engine.sponsor_mapSponsor_other e (fun hk => hn (congrArg some hk.symm)) f

end Sys2Proof.Machine
end

section
/-! PROOF. What detaching a hold and marking it change, what a notice or a flag leaves in the Notice Unit, and what a report of the
hold count leaves (R33 to R35, R110 to R112, R169, R175, R176). -/

namespace Sys2Proof.Machine

/-! ## A hold and its purses as an ending leaves them -/

/-- A LIVE or SETTLING hold after an end for `reason` (R33). -/
def Hold.ended (reason : EndReason) (h : Hold) : Hold :=
  { h with state := .free, endReason := reason, allowanceShare := 0, cashShare := 0, endMark := .unmarked,
           deadlinePassed := false }

/-- A SETTLING hold after a walk that sets `mark` where no mark stands (R51, R115). -/
def Hold.marked (mark : EndMark) (h : Hold) : Hold :=
  { h with endMark := if h.endMark = .unmarked then mark else h.endMark }

theorem Hold.marked_eq (mark : EndMark) (h : Hold) :
    (if h.endMark = .unmarked then { h with endMark := mark } else h) = h.marked mark := by
  unfold Hold.marked
  split <;> rfl

/-- A card purse after the holds `h x` of the handles `x` in `here` have left it. -/
def CardPurse.released (h : Nat → Hold) (here : List Nat) (p : CardPurse) : CardPurse :=
  { p with
    cashHeld := p.cashHeld - (here.map fun x => (h x).cashShare).sum,
    allowanceHeld := p.allowanceHeld - (here.map fun x => (h x).allowanceShare).sum,
    holdList := p.holdList.diff here }

/-- A sponsor purse after the same. -/
def SponsorPurse.released (h : Nat → Hold) (here : List Nat) (p : SponsorPurse) : SponsorPurse :=
  { p with held := p.held - (here.map fun x => (h x).allowanceShare).sum }

@[simp] theorem CardPurse.released_nil (h : Nat → Hold) (p : CardPurse) : p.released h [] = p := rfl
@[simp] theorem SponsorPurse.released_nil (h : Nat → Hold) (p : SponsorPurse) : p.released h [] = p := rfl

theorem CardPurse.released_append (h : Nat → Hold) (xs ys : List Nat) (p : CardPurse) :
    p.released h (xs ++ ys) = (p.released h xs).released h ys := by
  simp [CardPurse.released, List.diff_append, Nat.sub_sub]

theorem SponsorPurse.released_append (h : Nat → Hold) (xs ys : List Nat) (p : SponsorPurse) :
    p.released h (xs ++ ys) = (p.released h xs).released h ys := by
  simp [SponsorPurse.released, Nat.sub_sub]

theorem CardPurse.released_congr {h h' : Nat → Hold} {here : List Nat} (same : ∀ x ∈ here, h x = h' x) (p : CardPurse) :
    p.released h here = p.released h' here := by
  have cash : (here.map fun x => (h x).cashShare) = here.map fun x => (h' x).cashShare :=
    List.map_congr_left fun x mem => by rw [same x mem]
  have allowance : (here.map fun x => (h x).allowanceShare) = here.map fun x => (h' x).allowanceShare :=
    List.map_congr_left fun x mem => by rw [same x mem]
  simp only [CardPurse.released, cash, allowance]

theorem SponsorPurse.released_congr {h h' : Nat → Hold} {here : List Nat} (same : ∀ x ∈ here, h x = h' x)
    (p : SponsorPurse) : p.released h here = p.released h' here := by
  have allowance : (here.map fun x => (h x).allowanceShare) = here.map fun x => (h' x).allowanceShare :=
    List.map_congr_left fun x mem => by rw [same x mem]
  simp only [SponsorPurse.released, allowance]

/-- A purse already refreshed in this period is not refreshed again, whatever has left it since. -/
theorem CardPurse.inPeriod_released_inPeriod (period : Nat) (m : Vector RangeEntry 8) (h : Nat → Hold) (here : List Nat)
    (p : CardPurse) : ((p.inPeriod period m).released h here).inPeriod period m = (p.inPeriod period m).released h here := by
  have current : ¬ (((p.inPeriod period m).released h here).state ≠ .free ∧
      ((p.inPeriod period m).released h here).allowancePeriod ≠ period) := by
    by_cases due : p.state ≠ .free ∧ p.allowancePeriod ≠ period
    · simp [CardPurse.inPeriod, due, CardPurse.released, CardPurse.refreshed]
    · simp [CardPurse.inPeriod, due, CardPurse.released]
  exact if_neg current

/-! ## Detaching a hold (R33, steps 1 to 6) -/

/-- A hold leaves a state by steps 1 to 6 of R33, its purse refreshed first (R9). -/
def State.detach (k : Nat) (reason : EndReason) (s : State) : State :=
  detachHold k reason (refresh (s.engine.hold k).cardSlot s)

theorem endHold_eq (k : Nat) (reason : EndReason) (s : State) :
    endHold k reason s = noticeEnding k reason (reportHolds (s.detach k reason)) := rfl

/-- What detaching a hold may change. -/
theorem State.detach_eq (k : Nat) (reason : EndReason) (s : State) :
    s.detach k reason = { s with
      engine := { s.engine with
        cards := (s.detach k reason).engine.cards, sponsors := (s.detach k reason).engine.sponsors,
        holds := (s.detach k reason).engine.holds, freeList := (s.detach k reason).engine.freeList,
        laneHolds := (s.detach k reason).engine.laneHolds },
      deadlines := { s.deadlines with list := (s.detach k reason).deadlines.list } } := by
  unfold State.detach detachHold
  rw [refresh_eq]
  dsimp only
  cases (s.engine.hold k).sponsor <;> simp [State.mapEngine, State.mapDeadlines, Engine.hold]

section
variable {k : Nat} {reason : EndReason} {s : State}

theorem State.detach_freeList : (s.detach k reason).engine.freeList = s.engine.freeList ++ [k] := by
  simp [State.detach, detachHold]

theorem State.detach_laneHolds : (s.detach k reason).engine.laneHolds =
    s.engine.laneHolds.set (s.engine.hold k).lane
      (s.engine.laneHolds[(s.engine.hold k).lane].erase (handleOf (s.engine.hold k).generation k)) := by
  simp [State.detach, detachHold]

theorem State.detach_deadlines : (s.detach k reason).deadlines =
    { s.deadlines with
      list := s.deadlines.list.filter fun y => y.handle ≠ handleOf (s.engine.hold k).generation k } := by
  simp [State.detach, detachHold, removeDeadline]

theorem State.detach_holds :
    (s.detach k reason).engine.holds = Table.put .free k ((s.engine.hold k).ended reason) s.engine.holds := by
  simp [State.detach, detachHold, Hold.ended]

theorem State.detach_hold_same (h : s.tablesCanonical) :
    (s.detach k reason).engine.hold k = (s.engine.hold k).ended reason := by
  rw [Engine.hold, State.detach_holds]
  exact Table.get_put_same _ _ h.2.2

theorem State.detach_hold_other {j : Nat} (h : j ≠ k) : (s.detach k reason).engine.hold j = s.engine.hold j := by
  rw [Engine.hold, State.detach_holds]
  exact Table.get_put_other _ h _

theorem State.detach_cards : (s.detach k reason).engine.cards =
    ((refresh (s.engine.hold k).cardSlot s).engine.mapCard (s.engine.hold k).cardSlot
      (CardPurse.released (fun _ => s.engine.hold k) [handleOf (s.engine.hold k).generation k])).cards := by
  simp [State.detach, detachHold, CardPurse.released]

theorem State.detach_card_same (h : s.tablesCanonical) :
    (s.detach k reason).engine.card (s.engine.hold k).cardSlot =
      ((s.engine.card (s.engine.hold k).cardSlot).inPeriod s.period.number s.engine.ranges).released
        (fun _ => s.engine.hold k) [handleOf (s.engine.hold k).generation k] := by
  rw [Engine.card, State.detach_cards, ← refresh_card_same h]
  exact Engine.card_mapCard_same _ (refresh_tablesCanonical _ h).1 _ _

theorem State.detach_card_other {j : Nat} (h : j ≠ (s.engine.hold k).cardSlot) :
    (s.detach k reason).engine.card j = s.engine.card j := by
  rw [Engine.card, State.detach_cards, ← refresh_card_other h s]
  exact Engine.card_mapCard_other _ h _

theorem State.detach_sponsors : (s.detach k reason).engine.sponsors =
    (s.engine.mapSponsor? (s.engine.hold k).sponsor
      (SponsorPurse.released (fun _ => s.engine.hold k) [handleOf (s.engine.hold k).generation k])).sponsors := by
  cases hn : (s.engine.hold k).sponsor <;>
    simp [State.detach, detachHold, SponsorPurse.released, Engine.mapSponsor?, hn]

theorem State.detach_sponsor_named (h : s.tablesCanonical) {n : Nat} (hn : (s.engine.hold k).sponsor = some n) :
    (s.detach k reason).engine.sponsor n =
      (s.engine.sponsor n).released (fun _ => s.engine.hold k) [handleOf (s.engine.hold k).generation k] := by
  rw [Engine.sponsor, State.detach_sponsors]
  exact Engine.sponsor_mapSponsor?_named h.2.1 hn _

theorem State.detach_sponsor_other {n : Nat} (hn : (s.engine.hold k).sponsor ≠ some n) :
    (s.detach k reason).engine.sponsor n = s.engine.sponsor n := by
  rw [Engine.sponsor, State.detach_sponsors]
  exact Engine.sponsor_mapSponsor?_other _ hn _

theorem State.detach_tablesCanonical (h : s.tablesCanonical) : (s.detach k reason).tablesCanonical := by
  refine ⟨?_, ?_, ?_⟩
  · rw [State.detach_cards]
    exact Table.wf_put _ _ (refresh_tablesCanonical _ h).1
  · rw [State.detach_sponsors]
    exact Engine.wf_mapSponsor? h.2.1 _ _
  · rw [State.detach_holds]
    exact Table.wf_put _ _ h.2.2

end

/-! ## Marking a hold (R51, R115) -/

theorem markHold_engine (k : Nat) (m : EndMark) (s : State) :
    (markHold k m s).engine = s.engine.mapHold k (Hold.marked m) := by
  have marks : (fun h : Hold => if h.endMark = .unmarked then { h with endMark := m } else h) = Hold.marked m :=
    funext (Hold.marked_eq m)
  simp only [markHold, marks, State.mapEngine_engine]

/-! ## Notices placed (R169, R176) -/

theorem placeNotice_notices (l : Lane) (x : Notice) (s : State) :
    (placeNotice l x s).notices = s.tells l x s.notices := by
  unfold placeNotice State.tells
  split <;> simp

/-- Only a LANE_LOST notice tells its Lane Unit that it is placed (R173). -/
theorem placeNotice_lanes_of_other {x : Notice} (h : x.isLaneLost = false) (l : Lane) (s : State) :
    (placeNotice l x s).lanes = s.lanes := by
  unfold placeNotice reportPlacement
  rw [if_neg (by simp [h])]
  split <;> rfl

theorem placeNotice_lanes_laneLost (l : Lane) (count : Nat) (tick : Tick) (s : State) :
    (placeNotice l (.laneLost count tick) s).lanes =
      s.lanes.set l { s.lanes[l] with noticeAwaited := false } := by
  unfold placeNotice reportPlacement
  rw [if_pos (by rfl)]
  split <;> rfl

@[simp] theorem raiseFlag_lanes (c : EventClass) (s : State) : (raiseFlag c s).lanes = s.lanes := by
  unfold raiseFlag
  split
  · rfl
  · dsimp only
    split
    · exact placeNotice_lanes_of_other rfl _ _
    · rfl

section
variable {c : EventClass} {s : State}

/-- A flag that is set already places no notice (R176). -/
theorem raiseFlag_notices_of_set (raised : s.notices.flag c = true) : (raiseFlag c s).notices = s.notices := by
  unfold raiseFlag
  rw [if_pos raised]

theorem raiseFlag_notices_unrouted (clear : s.notices.flag c ≠ true) (route : s.notices.routes[classIndex c] = none) :
    (raiseFlag c s).notices = { s.notices with flags := s.notices.flags ||| flagBit c } := by
  unfold raiseFlag
  simp [clear, route]

theorem raiseFlag_notices_routed (clear : s.notices.flag c ≠ true) {l : Lane}
    (route : s.notices.routes[classIndex c] = some l) : (raiseFlag c s).notices =
      s.tells l (.event c s.now) { s.notices with flags := s.notices.flags ||| flagBit c } := by
  unfold raiseFlag
  simp only [clear, State.mapNotices, route]
  exact placeNotice_notices _ _ _

end

theorem State.tells_congr {s t : State} (lanes : t.lanes = s.lanes) (l : Lane) (x : Notice) (n : NoticeUnit) :
    t.tells l x n = s.tells l x n := by
  unfold State.tells State.role
  rw [lanes]

/-- A flag raised looks at the notices, the roles and the tick count alone. -/
theorem raiseFlag_notices_congr (c : EventClass) {s t : State} (lanes : t.lanes = s.lanes)
    (notices : t.notices = s.notices) (tick : t.now = s.now) : (raiseFlag c t).notices = (raiseFlag c s).notices := by
  by_cases raised : s.notices.flag c = true
  · rw [raiseFlag_notices_of_set raised, raiseFlag_notices_of_set (notices ▸ raised), notices]
  · cases route : s.notices.routes[classIndex c] with
    | none =>
      rw [raiseFlag_notices_unrouted raised route, raiseFlag_notices_unrouted (notices ▸ raised) (notices ▸ route), notices]
    | some l =>
      rw [raiseFlag_notices_routed raised route, raiseFlag_notices_routed (notices ▸ raised) (notices ▸ route),
        State.tells_congr lanes, notices, tick]

/-! ## The report (R35, R110 to R112) -/

@[simp] theorem completeDrain_lanes (s : State) : (completeDrain s).lanes = s.lanes := by
  unfold completeDrain
  dsimp only
  split <;> simp [closeFails]

@[simp] theorem reportHolds_lanes (s : State) : (reportHolds s).lanes = s.lanes := by
  unfold reportHolds
  dsimp only
  split <;> simp

@[simp] theorem reportHolds_number (s : State) : (reportHolds s).period.number = s.period.number := by
  unfold reportHolds completeDrain
  dsimp only
  split
  · split <;> simp [closeFails]
  · rfl

/-- A report that completes no drain notes the count. -/
theorem reportHolds_open {s : State} (h : s.period.state ≠ .freezing ∨ s.engine.openHolds ≠ 0) :
    reportHolds s = { s with period := { s.period with holdCount := s.engine.openHolds } } := by
  unfold reportHolds
  exact if_neg fun drained => h.elim (· drained.1) (· drained.2)

theorem reportHolds_drained {s : State} (freezing : s.period.state = .freezing) (empty : s.engine.openHolds = 0) :
    reportHolds s = completeDrain { s with period := { s.period with holdCount := 0 } } := by
  unfold reportHolds
  simp only [State.mapPeriod, freezing, empty, and_self, if_true]

theorem completeDrain_ok {s : State} (ok : s.journal.store = .ok) : completeDrain s =
    queueRecord (originLane (s.period.origin.getD (.lane 0))) (nextPeriod s.period.number)
      (.periodClose (s.period.origin.getD (.lane 0)) s.period.clock s.closeFigures) .periodControl
      { s with period := { s.period with state := .closeWrite, drainTimer := .stopped } } :=
  if_pos (decide_eq_true ok)

theorem completeDrain_fault {s : State} (fault : s.journal.store = .fault) : completeDrain s = raiseFlag .closeFailed
    { s with period := { s.period with state := .opened, origin := none, drainTimer := .stopped } } :=
  if_neg (by simp [State.storeOk, fault])

/-- The report of a state leaves what `State.Reports` says of it. -/
theorem reportHolds_reports (s : State) : s.Reports s.engine.openHolds (reportHolds s).period (reportHolds s).journal
    (reportHolds s).notices := by
  refine ⟨fun stays => ?_, fun freezing empty ok => ?_, fun freezing empty fault => ?_⟩
  · rw [reportHolds_open stays]
    exact ⟨rfl, rfl, rfl⟩
  · rw [reportHolds_drained freezing empty, completeDrain_ok (s := { s with period := { s.period with holdCount := 0 } }) ok]
    refine ⟨rfl, rfl, fun origin lane named lane_eq => ?_⟩
    have lane_of : originLane origin = lane := by
      obtain rfl | ⟨rfl, j, rfl⟩ := lane_eq <;> rfl
    simp only [named, Option.getD_some, lane_of]
    rfl
  · rw [reportHolds_drained freezing empty,
      completeDrain_fault (s := { s with period := { s.period with holdCount := 0 } }) fault, raiseFlag_period,
      raiseFlag_journal]
    exact ⟨rfl, rfl, raiseFlag_notices_congr _ rfl rfl rfl⟩

end Sys2Proof.Machine
end

section
/-! PROOF. HOLD that passes every check (R36 to R41): the entry of its card, the checks, and the placement. -/

namespace Sys2Proof.Machine

/-! ## The entry of a card (R11) -/

theorem mapsTo_iff (m : Vector RangeEntry 8) (card : Nat) (k : Fin 8) : mapsTo m card k = true ↔
    m[k].enabled = true ∧ m[k].firstCard ≤ card ∧ card < m[k].firstCard + spanSize m k := by
  simp [mapsTo]

/-- Where the cards of the entries are apart, two entries that map one card are the same. -/
theorem mapsTo_unique {m : Vector RangeEntry 8} (apart : cardsApart m = true) {card : Nat} {j k : Fin 8}
    (hj : mapsTo m card j = true) (hk : mapsTo m card k = true) : j = k := by
  obtain ⟨enabledJ, fromJ, belowJ⟩ := (mapsTo_iff m card j).mp hj
  obtain ⟨enabledK, fromK, belowK⟩ := (mapsTo_iff m card k).mp hk
  have pair := List.all_eq_true.mp (List.all_eq_true.mp apart j (List.mem_finRange j)) k (List.mem_finRange k)
  simp only [enabledJ, enabledK, Bool.or_eq_true, decide_eq_true_eq, Bool.not_true, Bool.false_eq_true, or_false] at pair
  omega

theorem entryOf_of_mapsTo {m : Vector RangeEntry 8} (apart : cardsApart m = true) {card : Nat} {k : Fin 8}
    (hk : mapsTo m card k = true) : entryOf m card = some k := by
  cases found : entryOf m card with
  | none => exact absurd hk (List.find?_eq_none.mp found k (List.mem_finRange k))
  | some j => rw [mapsTo_unique apart (List.find?_some found) hk]

theorem Engine.entryFor_of_mapsTo {e : Engine} (apart : cardsApart e.ranges = true) {card : Nat} {k : Fin 8}
    (hk : mapsTo e.ranges card k = true) : e.entryFor card = e.ranges[k] := by
  simp [Engine.entryFor, entryOf_of_mapsTo apart hk]

@[simp] theorem refresh_entryFor (slot : Nat) (s : State) (card : Nat) :
    (refresh slot s).engine.entryFor card = s.engine.entryFor card := by
  rw [refresh_engine]
  rfl

/-! ## The placement (R41) -/

/-- The engine after hold `h` is placed in slot `k`, the free list left at `rest`, under this handle. -/
def Engine.placed (k : Nat) (rest : List Nat) (handle : Nat) (h : Hold) (e : Engine) : Engine :=
  (((({ e with freeList := rest } : Engine).mapHold k fun _ => h).mapCard h.cardSlot fun p =>
      { p with cashHeld := p.cashHeld + h.cashShare, allowanceHeld := p.allowanceHeld + h.allowanceShare,
               holdList := p.holdList ++ [handle] }).mapSponsor? h.sponsor fun p =>
    { p with held := p.held + h.allowanceShare }).mapLaneHolds h.lane fun hs => hs ++ [handle]

section
variable {k : Nat} {rest : List Nat} {handle : Nat} {h : Hold} {e : Engine}

/-- What the placement may change of an engine that differs from `e₀` in its card purses alone. -/
theorem Engine.placed_eq {e₀ : Engine} (cards : e = { e₀ with cards := e.cards }) : e.placed k rest handle h =
    { e₀ with
      cards := (e.placed k rest handle h).cards, sponsors := (e.placed k rest handle h).sponsors,
      holds := (e.placed k rest handle h).holds, freeList := rest,
      laneHolds := e₀.laneHolds.set h.lane (e₀.laneHolds[h.lane] ++ [handle]) } := by
  generalize e.cards = c at cards
  subst cards
  unfold Engine.placed
  cases h.sponsor <;> rfl

theorem Engine.placed_freeList : (e.placed k rest handle h).freeList = rest := by
  rw [Engine.placed_eq (e₀ := e) rfl]

theorem Engine.placed_hold_same (canonical : Table.wf .free e.holds = true) :
    (e.placed k rest handle h).hold k = h := by
  simp only [Engine.placed, Engine.hold_mapLaneHolds, Engine.hold_mapSponsor?, Engine.hold_mapCard]
  exact Engine.hold_mapHold_same { e with freeList := rest } canonical k fun _ => h

theorem Engine.placed_hold_other {j : Nat} (other : j ≠ k) : (e.placed k rest handle h).hold j = e.hold j := by
  simp only [Engine.placed, Engine.hold_mapLaneHolds, Engine.hold_mapSponsor?, Engine.hold_mapCard]
  exact Engine.hold_mapHold_other { e with freeList := rest } other fun _ => h

theorem Engine.placed_card_same (canonical : Table.wf .free e.cards = true) :
    (e.placed k rest handle h).card h.cardSlot =
      { e.card h.cardSlot with
        cashHeld := (e.card h.cardSlot).cashHeld + h.cashShare,
        allowanceHeld := (e.card h.cardSlot).allowanceHeld + h.allowanceShare,
        holdList := (e.card h.cardSlot).holdList ++ [handle] } := by
  simp only [Engine.placed, Engine.card_mapLaneHolds, Engine.card_mapSponsor?]
  exact Engine.card_mapCard_same (({ e with freeList := rest } : Engine).mapHold k fun _ => h) canonical h.cardSlot _

theorem Engine.placed_card_other {j : Nat} (other : j ≠ h.cardSlot) :
    (e.placed k rest handle h).card j = e.card j := by
  simp only [Engine.placed, Engine.card_mapLaneHolds, Engine.card_mapSponsor?]
  exact Engine.card_mapCard_other _ other _

theorem Engine.placed_sponsor_named (canonical : Table.wf .zero e.sponsors = true) {n : Nat} (named : h.sponsor = some n) :
    (e.placed k rest handle h).sponsor n =
      { e.sponsor n with held := (e.sponsor n).held + h.allowanceShare } := by
  simp only [Engine.placed, Engine.sponsor_mapLaneHolds]
  exact Engine.sponsor_mapSponsor?_named (by exact canonical) named _

theorem Engine.placed_sponsor_other {n : Nat} (other : h.sponsor ≠ some n) :
    (e.placed k rest handle h).sponsor n = e.sponsor n := by
  simp only [Engine.placed, Engine.sponsor_mapLaneHolds]
  exact Engine.sponsor_mapSponsor?_other _ other _

end

/-- In an OPEN period the placement reports a count that drains nothing, and the lane is told handle, shares and deadline. -/
theorem placeHold_of_opened {l : Lane} {slot a c parts k : Nat} {sponsor : Option Nat} {rest : List Nat} {s : State}
    {d : Tick} {handle : Nat} {h : Hold} (opened : s.period.state = .opened)
    (deadline : d = s.now + BitVec.ofNat 32 (10 * s.lanes[l].settings.holdLifetime))
    (handle_eq : handle = ((s.engine.hold k).generation + 1) % 128 * 512 + k)
    (hold_eq : h = (s.engine.hold k).place l slot sponsor a c parts d s.period.number) :
    placeHold l slot sponsor a c parts k rest s = fillReply l .ok
      (beBytes 2 handle ++ beBytes 2 a ++ beBytes 3 c ++ beBytes 4 d.toNat)
      { s with
        engine := s.engine.placed k rest handle h,
        period := { s.period with holdCount := 512 - rest.length },
        deadlines := { s.deadlines with list := insertDeadline s.now ⟨d, handle⟩ s.deadlines.list } } := by
  subst deadline handle_eq hold_eq
  have report := reportHolds_open (.inl (by simp [opened])) (s := { s with
    engine := s.engine.placed k rest (((s.engine.hold k).generation + 1) % 128 * 512 + k)
      ((s.engine.hold k).place l slot sponsor a c parts (ticksFrom s.now s.lanes[l].settings.holdLifetime) s.period.number),
    deadlines := { s.deadlines with
      list := insertDeadline s.now
        ⟨ticksFrom s.now s.lanes[l].settings.holdLifetime, ((s.engine.hold k).generation + 1) % 128 * 512 + k⟩
        s.deadlines.list } })
  simp only [Engine.openHolds, Engine.placed_freeList] at report
  exact congrArg (fillReply l .ok _) report

/-! ## The checks (R36 to R40) -/

/-- The allowance share of R39, over the sponsor's available balance where the entry names a sponsor. -/
theorem allowanceShareOf_eq (e : Engine) (p : CardPurse) (sponsor : Option Nat) (amount : Nat) :
    allowanceShareOf e p sponsor amount = min (min amount (p.allowanceRemaining - p.allowanceHeld))
      ((sponsor.map fun n => (e.sponsor n).balance - (e.sponsor n).held).getD amount) := by
  cases sponsor with
  | none => simp [allowanceShareOf, CardPurse.allowanceAvailable]
  | some n => rfl

/-- A HOLD that passes R36 and R37 goes on to the refreshed purse. -/
theorem engineHold_of_checks {l : Lane} {card amount parts slot : Nat} {s : State} (ready : s.ready = true)
    (recovered : s.lanes[l].state ≠ .lost) (ok : s.journal.store = .ok) (opened : s.period.state = .opened)
    (amount_pos : 1 ≤ amount) (amount_le : amount ≤ 100000) (parts_pos : 1 ≤ parts) (parts_le : parts ≤ 15)
    (found : lookup s.engine card = some slot) (unblocked : (s.engine.card slot).state ≠ .blocked)
    (kept : (s.engine.card slot).closeQueued = false) :
    engineHold l card amount parts s = holdOnPurse l slot amount parts (refresh slot s) := by
  have not_lost : s.laneLost l = false := State.laneLost_of_heard recovered
  have parts_ok : parts ≠ 0 ∧ ¬ 15 < parts := by omega
  simp [engineHold, ready, not_lost, State.storeOk, ok, opened, saleAmountOk, amount_pos, amount_le, parts_ok, found,
    unblocked, kept]

/-- A HOLD that passes R38 to R40 on its purse `p` under its entry `x` is placed in the slot at the head of the free list. -/
theorem holdOnPurse_of_checks {l : Lane} {slot amount parts k a : Nat} {rest : List Nat} {s : State} {p : CardPurse}
    {x : RangeEntry} (purse : p = s.engine.card slot) (entry : x = s.engine.entryFor p.cardNumber)
    (purse_room : p.holdList.length < 4) (lane_room : s.engine.laneHolds[l].length < s.lanes[l].settings.holdLimit)
    (share : a = allowanceShareOf s.engine p x.sponsor amount)
    (covered : amount - a ≤ p.cashBalance - p.cashHeld - p.cashOutgoing)
    (within : x.limit = 0 ∨ p.spent + p.cashHeld + p.allowanceHeld + amount ≤ x.limit)
    (free : s.engine.freeList = k :: rest) :
    holdOnPurse l slot amount parts s = .next (placeHold l slot x.sponsor a (amount - a) parts k rest s) := by
  subst purse entry share
  unfold holdOnPurse
  dsimp only
  rw [if_neg (by omega), if_neg (by omega), if_neg (by simpa [CardPurse.cashAvailable] using covered),
    if_neg (by omega), free]

/-! ## The statement -/

/-- Settles O30: the entry by `mapsTo_unique`, the placement by the checks one after another and the tables as
`Engine.placed` leaves them. -/
theorem holdPlaced : Obligations.holdPlaced := by
  unfold Obligations.holdPlaced
  refine ⟨fun e card k apart enabled from_first below => ?_, ?_⟩
  · exact Engine.entryFor_of_mapsTo apart ((mapsTo_iff _ _ _).mpr ⟨enabled, from_first, below⟩)
  intro l card amount parts slot k rest s p x a handle d asks canonical recovered ok opened amount_pos amount_le parts_pos
    parts_le found unblocked kept purse entry purse_room lane_room share covered within free handle_eq deadline
  let r := (refresh slot s).taken
  have r_canonical : r.tablesCanonical := refresh_tablesCanonical slot canonical
  let h := (s.engine.hold k).place l slot x.sponsor a (amount - a) parts d s.period.number
  have placed : exec (.hold l card amount parts) s =
      .next (placeHold l slot x.sponsor a (amount - a) parts k rest r) := by
    rw [exec_hold, execHold, takeRequest_of_asks asks.1,
      engineHold_of_checks (State.ready_taken asks) recovered ok opened amount_pos amount_le parts_pos parts_le found
        unblocked kept, refresh_taken]
    exact holdOnPurse_of_checks purse (by simpa using entry) purse_room (by simpa using lane_room)
      (by simpa [allowanceShareOf_eq] using share) covered within (by simpa using free)
  have answer := placeHold_of_opened (s := r) (l := l) (slot := slot) (a := a) (c := amount - a) (parts := parts)
    (sponsor := x.sponsor) (rest := rest) (d := d) (h := h) (by simpa [r] using opened)
    (by simpa [r, State.now] using deadline) (by simpa [r] using handle_eq) (by simp [r, h])
  refine ⟨r.engine.placed k rest handle h, ?_, ?_, Engine.placed_hold_same r_canonical.2.2, fun j other => ?_, ?_,
    fun j other => ?_, fun n named => ?_, fun n other => ?_⟩
  · rw [placed, answer]
    simp only [r]
    rw [refresh_eq]
    rfl
  · exact Engine.placed_eq (refresh_engine slot s)
  · rw [Engine.placed_hold_other other]
    exact refresh_hold slot j s
  · rw [purse]
    exact Engine.placed_card_same r_canonical.1
  · rw [Engine.placed_card_other other]
    exact refresh_card_other other s
  · rw [Engine.placed_sponsor_named r_canonical.2.1 named]
    simp only [r, State.taken_engine, refresh_sponsor]
    rfl
  · rw [Engine.placed_sponsor_other other]
    exact refresh_sponsor slot n s

end Sys2Proof.Machine
end

section
/-! PROOF. RELEASE and EXTEND (R43, R44, R46, R47): what each answers by the state of the hold its handle names, and its
refusals in their order. -/

namespace Sys2Proof.Machine

/-! ## A handle that names no open hold (R25, R27) -/

theorem holdGone_stale {l : Lane} {handle : Nat} {s : State}
    (stale : (s.engine.hold (handle % 512)).generation ≠ handle / 512) :
    holdGone l handle s = fillReply l .holdGone (beBytes 1 0 ++ beBytes 4 0) s := by
  simp [holdGone, (s.engine.resolve_eq_stale handle).mpr stale, endReasonCode, receiptField]

theorem holdGone_ended {l : Lane} {handle : Nat} {s : State}
    (named : (s.engine.hold (handle % 512)).generation = handle / 512) :
    holdGone l handle s = fillReply l .holdGone
      (beBytes 1 (endReasonCode (s.engine.hold (handle % 512)).endReason) ++
        beBytes 4 (receiptField (s.engine.hold (handle % 512)).lastReceipt)) s := by
  have not_stale : s.engine.resolve handle ≠ .stale := fun stale => (s.engine.resolve_eq_stale handle).mp stale named
  simp [holdGone, not_stale, handleSlot]

/-! ## RELEASE -/

section
variable {l : Lane} {handle : Nat} {s : State}

theorem engineRelease_lost (lost : s.laneLost l = true) :
    engineRelease l handle s = refuse l .laneRecovering s := if_pos lost

theorem engineRelease_gone (heard : s.laneLost l = false)
    (gone : s.engine.resolve handle = .stale ∨ s.engine.resolve handle = .ended) :
    engineRelease l handle s = holdGone l handle s := by
  obtain stale | ended := gone
  · simp [engineRelease, heard, stale]
  · simp [engineRelease, heard, ended]

theorem engineRelease_settling (heard : s.laneLost l = false) (settling : s.engine.resolve handle = .settling) :
    engineRelease l handle s = refuse l .holdBusy s := by
  simp [engineRelease, heard, settling]

theorem engineRelease_notOwner (heard : s.laneLost l = false) (live : s.engine.resolve handle = .live)
    (till : s.role l ≠ .office) (other : (s.engine.hold (handle % 512)).lane ≠ l) :
    engineRelease l handle s = refuse l .notOwner s := by
  simp [engineRelease, heard, live, till, handleSlot, other]

theorem engineRelease_owned (heard : s.laneLost l = false) (live : s.engine.resolve handle = .live)
    (owned : s.role l = .office ∨ (s.engine.hold (handle % 512)).lane = l) :
    engineRelease l handle s = releaseHold l handle s := by
  have may : ¬ (s.role l ≠ .office ∧ (s.engine.hold (handle % 512)).lane ≠ l) := by tauto
  simp only [engineRelease, heard, live, handleSlot, Bool.false_eq_true, if_false]
  exact if_neg may

/-! ## EXTEND -/

theorem engineExtend_lost (lost : s.laneLost l = true) :
    engineExtend l handle s = refuse l .laneRecovering s := if_pos lost

theorem engineExtend_gone (heard : s.laneLost l = false)
    (gone : s.engine.resolve handle = .stale ∨ s.engine.resolve handle = .ended) :
    engineExtend l handle s = holdGone l handle s := by
  obtain stale | ended := gone
  · simp [engineExtend, heard, stale]
  · simp [engineExtend, heard, ended]

/-- The checks of R46 on a hold that is open, in their order. -/
theorem engineExtend_open (heard : s.laneLost l = false)
    (is_open : s.engine.resolve handle = .live ∨ s.engine.resolve handle = .settling) :
    engineExtend l handle s =
      if (s.engine.hold (handle % 512)).lane ≠ l then refuse l .notOwner s
      else if s.engine.resolve handle ≠ .live then refuse l .holdBusy s
      else if s.period.state ≠ .opened then refuse l .periodClosing s
      else if 3 ≤ (s.engine.hold (handle % 512)).extensionsUsed then refuse l .extendLimit s
      else extendHold l handle s := by
  obtain live | settling := is_open
  · simp only [engineExtend, heard, live, handleSlot, Bool.false_eq_true, if_false]
    rfl
  · simp only [engineExtend, heard, settling, handleSlot, Bool.false_eq_true, if_false]
    rfl

theorem engineExtend_owned (heard : s.laneLost l = false) (live : s.engine.resolve handle = .live)
    (owned : (s.engine.hold (handle % 512)).lane = l) (opened : s.period.state = .opened)
    (used : (s.engine.hold (handle % 512)).extensionsUsed < 3) :
    engineExtend l handle s = extendHold l handle s := by
  simp [engineExtend_open heard (.inl live), owned, live, opened, Nat.not_le.mpr used]

end

/-- A LIVE hold extended (R47): the purse refreshed, the deadline and the extensions of the hold, and its entry moved. -/
theorem extendHold_eq {l : Lane} {handle : Nat} {s : State} {h : Hold} {d : Tick}
    (hold : h = s.engine.hold (handle % 512))
    (deadline : d = s.now + BitVec.ofNat 32 (10 * s.lanes[l].settings.holdLifetime)) :
    extendHold l handle s = fillReply l .ok
      (beBytes 2 handle ++ beBytes 4 d.toNat ++ beBytes 1 (2 - h.extensionsUsed))
      { s with
        engine := (refresh h.cardSlot s).engine.mapHold (handle % 512)
          fun h' => { h' with deadline := d, extensionsUsed := h.extensionsUsed + 1 },
        deadlines := { s.deadlines with list := (insertDeadline s.now ⟨d, handle⟩
          (s.deadlines.list.filter fun y => y.handle ≠ handle)) } } := by
  have used : 3 - (h.extensionsUsed + 1) = 2 - h.extensionsUsed := by omega
  subst hold deadline
  unfold extendHold
  dsimp only [handleSlot]
  rw [← used, refresh_eq]
  rfl

/-! ## The statement -/

section
variable {l : Lane} {handle : Nat} {s : State}

theorem release_ends (asks : s.AsksReady (.release l handle)) (heard : s.lanes[l].state ≠ .lost)
    (named : (s.engine.hold (handle % 512)).generation = handle / 512)
    (live : (s.engine.hold (handle % 512)).state = .live)
    (owned : s.role l = .office ∨ (s.engine.hold (handle % 512)).lane = l) :
    exec (.release l handle) s = .next (releaseHold l handle s.taken) := by
  rw [exec_release, execRelease, readyRequest_of_asks asks,
    engineRelease_owned (s := s.taken) (State.laneLost_of_heard heard)
      ((Engine.resolve_eq_live _ _).mpr ⟨named, live⟩) owned]

theorem extend_moves_deadline {h : Hold} {d : Tick} (asks : s.AsksReady (.extend l handle)) (canonical : s.tablesCanonical)
    (heard : s.lanes[l].state ≠ .lost) (hold : h = s.engine.hold (handle % 512)) (named : h.generation = handle / 512)
    (live : h.state = .live) (owned : h.lane = l) (opened : s.period.state = .opened) (used : h.extensionsUsed < 3)
    (deadline : d = s.now + BitVec.ofNat 32 (10 * s.lanes[l].settings.holdLifetime)) :
    ∃ e : Engine, exec (.extend l handle) s = .next (fillReply l .ok
        (beBytes 2 handle ++ beBytes 4 d.toNat ++ beBytes 1 (2 - h.extensionsUsed))
        { s.taken with
          engine := e,
          deadlines := { s.deadlines with list := (insertDeadline s.now ⟨d, handle⟩
            (s.deadlines.list.filter fun y => y.handle ≠ handle)) } }) ∧
      e = { s.engine with cards := (refresh h.cardSlot s).engine.cards, holds := e.holds } ∧
      e.hold (handle % 512) = { h with deadline := d, extensionsUsed := h.extensionsUsed + 1 } ∧
      ∀ j, j ≠ handle % 512 → e.hold j = s.engine.hold j := by
  have extends_hold : engineExtend l handle s.taken = extendHold l handle s.taken :=
    engineExtend_owned (State.laneLost_of_heard heard) ((Engine.resolve_eq_live _ _).mpr ⟨hold ▸ named, hold ▸ live⟩)
      (hold ▸ owned) opened (hold ▸ used)
  refine ⟨(refresh h.cardSlot s).engine.mapHold (handle % 512)
    fun h' => { h' with deadline := d, extensionsUsed := h.extensionsUsed + 1 }, ?_, ?_, ?_, fun j other => ?_⟩
  · rw [exec_extend, execExtend, readyRequest_of_asks asks, extends_hold, extendHold_eq (s := s.taken) hold deadline,
      refresh_taken]
    rfl
  · rw [refresh_engine]
    rfl
  · rw [Engine.hold_mapHold_same _ (refresh_tablesCanonical _ canonical).2.2]
    simp [← hold]
  · rw [Engine.hold_mapHold_other _ other]
    exact refresh_hold _ _ _

/-- The refusals that RELEASE and EXTEND share: from a LOST lane, and on a handle that names no open hold. -/
theorem release_extend_refused {c : Instr} (asks : s.AsksReady c) (command : c = .release l handle ∨ c = .extend l handle) :
    (s.lanes[l].state = .lost → exec c s = .next (fillReply l .laneRecovering [] s.taken)) ∧
    (s.lanes[l].state ≠ .lost → s.engine.resolve handle = .stale ∨ s.engine.resolve handle = .ended →
      exec c s = .next (holdGone l handle s.taken)) := by
  refine ⟨fun lost => ?_, fun heard gone => ?_⟩
  · have lost' : s.taken.laneLost l = true := State.laneLost_of_lost lost
    obtain rfl | rfl := command
    · rw [exec_release, execRelease, readyRequest_of_asks asks, engineRelease_lost lost', refuse]
    · rw [exec_extend, execExtend, readyRequest_of_asks asks, engineExtend_lost lost', refuse]
  · have heard' : s.taken.laneLost l = false := State.laneLost_of_heard heard
    obtain rfl | rfl := command
    · rw [exec_release, execRelease, readyRequest_of_asks asks, engineRelease_gone heard' gone]
    · rw [exec_extend, execExtend, readyRequest_of_asks asks, engineExtend_gone heard' gone]

/-- RELEASE of an open hold refused (R43). -/
theorem release_open_refused (asks : s.AsksReady (.release l handle)) (heard : s.lanes[l].state ≠ .lost)
    (named : (s.engine.hold (handle % 512)).generation = handle / 512) :
    ((s.engine.hold (handle % 512)).state = .settling →
      exec (.release l handle) s = .next (fillReply l .holdBusy [] s.taken)) ∧
    ((s.engine.hold (handle % 512)).state = .live → s.role l ≠ .office → (s.engine.hold (handle % 512)).lane ≠ l →
      exec (.release l handle) s = .next (fillReply l .notOwner [] s.taken)) := by
  have heard' : s.taken.laneLost l = false := State.laneLost_of_heard heard
  refine ⟨fun settling => ?_, fun live till other => ?_⟩
  · rw [exec_release, execRelease, readyRequest_of_asks asks,
      engineRelease_settling heard' ((Engine.resolve_eq_settling _ _).mpr ⟨named, settling⟩), refuse]
  · rw [exec_release, execRelease, readyRequest_of_asks asks,
      engineRelease_notOwner heard' ((Engine.resolve_eq_live _ _).mpr ⟨named, live⟩) till other, refuse]

/-- EXTEND of an open hold refused (R46). -/
theorem extend_open_refused {h : Hold} (asks : s.AsksReady (.extend l handle)) (heard : s.lanes[l].state ≠ .lost)
    (hold : h = s.engine.hold (handle % 512)) (named : h.generation = handle / 512) (is_open : h.state ≠ .free) :
    (h.lane ≠ l → exec (.extend l handle) s = .next (fillReply l .notOwner [] s.taken)) ∧
    (h.lane = l → h.state = .settling → exec (.extend l handle) s = .next (fillReply l .holdBusy [] s.taken)) ∧
    (h.lane = l → h.state = .live → s.period.state ≠ .opened →
      exec (.extend l handle) s = .next (fillReply l .periodClosing [] s.taken)) ∧
    (h.lane = l → h.state = .live → s.period.state = .opened → 3 ≤ h.extensionsUsed →
      exec (.extend l handle) s = .next (fillReply l .extendLimit [] s.taken)) := by
  subst hold
  have live_iff : s.engine.resolve handle = .live ↔ (s.engine.hold (handle % 512)).state = .live := by
    simp [Engine.resolve_eq_live, named]
  have resolved : s.engine.resolve handle = .live ∨ s.engine.resolve handle = .settling := by
    rw [Engine.resolve_eq_live, Engine.resolve_eq_settling]
    cases state : (s.engine.hold (handle % 512)).state
    case free => exact absurd state is_open
    case live => exact .inl ⟨named, rfl⟩
    case settling => exact .inr ⟨named, rfl⟩
  rw [exec_extend, execExtend, readyRequest_of_asks asks,
    engineExtend_open (s := s.taken) (State.laneLost_of_heard heard) resolved]
  simp only [State.taken_engine, State.taken_period, ne_eq, live_iff]
  refine ⟨fun other => ?_, fun owned settling => ?_, fun owned live closing => ?_, fun owned live opened used => ?_⟩
  · simp [other, refuse]
  · simp [owned, settling, refuse]
  · simp [owned, live, closing, refuse]
  · simp [owned, live, opened, used, refuse]

end

/-- Settles O33: `release_ends` and `extend_moves_deadline` on a LIVE hold, the refusals one check after another. -/
theorem releaseAndExtend : Obligations.releaseAndExtend := by
  unfold Obligations.releaseAndExtend
  refine ⟨fun l handle s h heard hold named live => ⟨fun asks owned => ?_, fun d asks canonical owned opened used deadline =>
    extend_moves_deadline asks canonical heard hold named live owned opened used deadline⟩, ?_⟩
  · subst hold
    exact release_ends asks heard named live owned
  intro c l handle s h refused asks command hold refused_iff
  subst hold
  obtain ⟨lost_refused, gone_refused⟩ := release_extend_refused asks command
  simp only [refused_iff]
  refine ⟨lost_refused, fun heard => ⟨fun stale => ?_, fun named ended => ?_, ?_, ?_⟩⟩
  · rw [gone_refused heard (.inl ((Engine.resolve_eq_stale _ _).mpr stale)), holdGone_stale (s := s.taken) stale]
  · rw [gone_refused heard (.inr ((Engine.resolve_eq_ended _ _).mpr ⟨named, ended⟩)), holdGone_ended (s := s.taken) named]
    rfl
  · rintro named rfl
    exact release_open_refused asks heard named
  · rintro named rfl is_open
    exact extend_open_refused asks heard rfl named is_open

end Sys2Proof.Machine
end

section
/-! PROOF. Walks over hold lists (R50, R51, R115): what one hold of a walk does to the engine and the deadline list, and what the
whole walk leaves, for any function that acts on each hold as R50, R51 or R115 says. -/

namespace Sys2Proof.Machine

/-! ## A hold as a walk leaves it -/

/-- What a walk makes of a hold its list names: a LIVE one ends, a SETTLING one is marked, a FREE one stays. -/
def Hold.walked (reason : EndReason) (mark : EndMark) (h : Hold) : Hold :=
  match h.state with
  | .live => h.ended reason
  | .settling => h.marked mark
  | .free => h

section
variable {reason : EndReason} {mark : EndMark} {h : Hold}

theorem Hold.walked_live (live : h.state = .live) : h.walked reason mark = h.ended reason := by
  simp [Hold.walked, live]

theorem Hold.walked_settling (settling : h.state = .settling) : h.walked reason mark = h.marked mark := by
  simp [Hold.walked, settling]

theorem Hold.walked_free (free : h.state = .free) : h.walked reason mark = h := by
  simp [Hold.walked, free]

@[simp] theorem Hold.walked_generation : (h.walked reason mark).generation = h.generation := by
  unfold Hold.walked
  split <;> rfl

/-- A second visit of the walk changes nothing more. -/
theorem Hold.walked_walked : (h.walked reason mark).walked reason mark = h.walked reason mark := by
  cases state : h.state
  case free => rw [Hold.walked_free state, Hold.walked_free state]
  case live => rw [Hold.walked_live state, Hold.walked_free rfl]
  case settling =>
    rw [Hold.walked_settling state, Hold.walked_settling (h := h.marked mark) state]
    simp only [Hold.marked]
    split <;> simp_all

end

/-! ## The holds of a list that are LIVE, and those that are open -/

def Engine.liveOf (e : Engine) (handles : List Nat) : List Nat := handles.filter fun x => e.resolve x = .live
def Engine.openOf (e : Engine) (handles : List Nat) : List Nat :=
  handles.filter fun x => e.resolve x = .live ∨ e.resolve x = .settling

theorem Engine.mem_liveOf {e : Engine} {handles : List Nat} {x : Nat} :
    x ∈ e.liveOf handles ↔ x ∈ handles ∧ e.resolve x = .live := by
  simp [Engine.liveOf]

theorem Engine.mem_openOf {e : Engine} {handles : List Nat} {x : Nat} :
    x ∈ e.openOf handles ↔ x ∈ handles ∧ (e.resolve x = .live ∨ e.resolve x = .settling) := by
  simp [Engine.openOf]

theorem Engine.liveOf_subset_openOf {e : Engine} {handles : List Nat} {x : Nat} (mem : x ∈ e.liveOf handles) :
    x ∈ e.openOf handles := by
  obtain ⟨listed, live⟩ := Engine.mem_liveOf.mp mem
  exact Engine.mem_openOf.mpr ⟨listed, .inl live⟩

theorem Engine.liveOf_append (e : Engine) (xs ys : List Nat) : e.liveOf (xs ++ ys) = e.liveOf xs ++ e.liveOf ys :=
  List.filter_append xs ys

theorem Engine.liveOf_live {e : Engine} {x : Nat} (live : e.resolve x = .live) : e.liveOf [x] = [x] := by
  simp [Engine.liveOf, live]

theorem Engine.liveOf_notLive {e : Engine} {x : Nat} (other : e.resolve x ≠ .live) : e.liveOf [x] = [] := by
  simp [Engine.liveOf, other]

/-! ## One hold of a walk -/

/-- From `s` to `t` a walk acts on the hold of handle `x`: a LIVE one is detached for `reason`, a SETTLING one gets `mark`, its
purse refreshed first (R9); for any other handle nothing happens at the engine and the Deadline Unit. -/
structure State.WalkStep (reason : EndReason) (mark : EndMark) (x : Nat) (s t : State) : Prop where
  number : t.period.number = s.period.number
  live : s.engine.resolve x = .live →
    t.engine = (s.detach (x % 512) reason).engine ∧ t.deadlines = (s.detach (x % 512) reason).deadlines
  settling : s.engine.resolve x = .settling →
    t.engine = (refresh (s.engine.hold (x % 512)).cardSlot s).engine.mapHold (x % 512) (Hold.marked mark) ∧
      t.deadlines = s.deadlines
  gone : s.engine.resolve x = .stale ∨ s.engine.resolve x = .ended → t.engine = s.engine ∧ t.deadlines = s.deadlines

section
variable {reason : EndReason} {mark : EndMark} {x : Nat} {s t : State}

/-- A fact about the engine and the Deadline Unit after a step, from the three ways a step can go. -/
theorem State.WalkStep.cases {P : Engine → DeadlineUnit → Prop} (step : State.WalkStep reason mark x s t)
    (live : s.engine.resolve x = .live → P (s.detach (x % 512) reason).engine (s.detach (x % 512) reason).deadlines)
    (settling : s.engine.resolve x = .settling →
      P ((refresh (s.engine.hold (x % 512)).cardSlot s).engine.mapHold (x % 512) (Hold.marked mark)) s.deadlines)
    (gone : s.engine.resolve x = .stale ∨ s.engine.resolve x = .ended → P s.engine s.deadlines) :
    P t.engine t.deadlines := by
  cases resolved : s.engine.resolve x with
  | live =>
    obtain ⟨engine, deadlines⟩ := step.live resolved
    exact engine ▸ deadlines ▸ live resolved
  | settling =>
    obtain ⟨engine, deadlines⟩ := step.settling resolved
    exact engine ▸ deadlines ▸ settling resolved
  | stale =>
    obtain ⟨engine, deadlines⟩ := step.gone (.inl resolved)
    exact engine ▸ deadlines ▸ gone (.inl resolved)
  | ended =>
    obtain ⟨engine, deadlines⟩ := step.gone (.inr resolved)
    exact engine ▸ deadlines ▸ gone (.inr resolved)

theorem State.WalkStep.ranges (step : State.WalkStep reason mark x s t) : t.engine.ranges = s.engine.ranges :=
  step.cases (P := fun e _ => e.ranges = s.engine.ranges) (fun _ => by rw [State.detach_eq]) (fun _ => by simp)
    fun _ => rfl

theorem State.WalkStep.canonical (step : State.WalkStep reason mark x s t) (h : s.tablesCanonical) :
    t.tablesCanonical :=
  step.cases (P := fun e _ => Table.wf .free e.cards = true ∧ Table.wf .zero e.sponsors = true ∧
      Table.wf .free e.holds = true) (fun _ => State.detach_tablesCanonical h)
    (fun _ => by
      obtain ⟨cards, sponsors, holds⟩ := refresh_tablesCanonical (s.engine.hold (x % 512)).cardSlot h
      exact ⟨cards, sponsors, Table.wf_put _ _ holds⟩)
    fun _ => h

/-- The hold the handle names is walked; every other is as it was. -/
theorem State.WalkStep.hold (step : State.WalkStep reason mark x s t) (h : s.tablesCanonical) (k : Nat) :
    (s.engine.Names x k → t.engine.hold k = (s.engine.hold k).walked reason mark) ∧
      (¬ s.engine.Names x k → t.engine.hold k = s.engine.hold k) := by
  refine step.cases (P := fun e _ => (s.engine.Names x k → e.hold k = (s.engine.hold k).walked reason mark) ∧
    (¬ s.engine.Names x k → e.hold k = s.engine.hold k)) (fun live => ?_) (fun settling => ?_) fun gone => ?_
  · obtain ⟨gen, state⟩ := (s.engine.resolve_eq_live x).mp live
    refine ⟨fun ⟨slot, _⟩ => ?_, fun other => State.detach_hold_other fun slot => other ⟨slot.symm, slot ▸ gen⟩⟩
    subst slot
    rw [State.detach_hold_same h, Hold.walked_live state]
  · obtain ⟨gen, state⟩ := (s.engine.resolve_eq_settling x).mp settling
    refine ⟨fun ⟨slot, _⟩ => ?_, fun other => ?_⟩
    · subst slot
      rw [Engine.hold_mapHold_same _ (refresh_tablesCanonical _ h).2.2, refresh_hold, Hold.walked_settling state]
    · rw [Engine.hold_mapHold_other _ fun slot => other ⟨slot.symm, slot ▸ gen⟩, refresh_hold]
  · refine ⟨fun ⟨slot, gen⟩ => ?_, fun _ => rfl⟩
    subst slot
    obtain stale | ended := gone
    · exact absurd gen ((s.engine.resolve_eq_stale x).mp stale)
    · rw [Hold.walked_free ((s.engine.resolve_eq_ended x).mp ended).2]

/-- A step that ends no hold leaves the sponsors, the lists and the deadline list as they are. -/
theorem State.WalkStep.kept (step : State.WalkStep reason mark x s t) (other : s.engine.resolve x ≠ .live) :
    t.engine = { s.engine with cards := t.engine.cards, holds := t.engine.holds } ∧ t.deadlines = s.deadlines := by
  refine step.cases (P := fun e d => e = { s.engine with cards := e.cards, holds := e.holds } ∧ d = s.deadlines)
    (fun live => absurd live other) (fun _ => ⟨?_, rfl⟩) fun _ => ⟨rfl, rfl⟩
  rw [refresh_engine]
  rfl

theorem State.WalkStep.freeList (step : State.WalkStep reason mark x s t) :
    t.engine.freeList = s.engine.freeList ++ (s.engine.liveOf [x]).map fun x => x % 512 := by
  by_cases live : s.engine.resolve x = .live
  · rw [(step.live live).1, Engine.liveOf_live live]
    exact State.detach_freeList
  · rw [(step.kept live).1, Engine.liveOf_notLive live]
    simp

theorem State.WalkStep.laneHolds (step : State.WalkStep reason mark x s t) (l : Lane) :
    t.engine.laneHolds[l] = s.engine.laneHolds[l].diff
      ((s.engine.liveOf [x]).filter fun x => (s.engine.hold (x % 512)).lane = l) := by
  by_cases live : s.engine.resolve x = .live
  · rw [Engine.liveOf_live live]
    simp only [(step.live live).1, State.detach_laneHolds, Engine.handleOf_named (e := s.engine) (x := x) (by simp [live])]
    by_cases own : (s.engine.hold (x % 512)).lane = l
    · subst own
      simp
    · have apart : ((s.engine.hold (x % 512)).lane).val ≠ l.val := fun same => own (Fin.ext same)
      simp [own, apart]
  · rw [Engine.liveOf_notLive live]
    have lists : t.engine.laneHolds = s.engine.laneHolds := by rw [(step.kept live).1]
    simp [lists]

theorem State.WalkStep.deadlines (step : State.WalkStep reason mark x s t) : t.deadlines =
    { s.deadlines with list := s.deadlines.list.filter fun y => y.handle ∉ s.engine.liveOf [x] } := by
  by_cases live : s.engine.resolve x = .live
  · rw [(step.live live).2, State.detach_deadlines, Engine.handleOf_named (by simp [live]), Engine.liveOf_live live]
    simp
  · rw [(step.kept live).2, Engine.liveOf_notLive live]
    simp

theorem State.WalkStep.sponsor (step : State.WalkStep reason mark x s t) (h : s.tablesCanonical) (n : Nat) :
    t.engine.sponsor n = (s.engine.sponsor n).released (fun x => s.engine.hold (x % 512))
      ((s.engine.liveOf [x]).filter fun x => (s.engine.hold (x % 512)).sponsor = some n) := by
  by_cases live : s.engine.resolve x = .live
  · rw [(step.live live).1, Engine.liveOf_live live]
    by_cases named : (s.engine.hold (x % 512)).sponsor = some n
    · rw [State.detach_sponsor_named h named]
      simp [named, SponsorPurse.released]
    · rw [State.detach_sponsor_other named]
      simp [named]
  · rw [(step.kept live).1, Engine.liveOf_notLive live]
    rfl

/-- The card purse of an open hold is refreshed, and the shares of one that ends leave it. -/
theorem State.WalkStep.card_touched (step : State.WalkStep reason mark x s t) (h : s.tablesCanonical)
    (is_open : s.engine.resolve x = .live ∨ s.engine.resolve x = .settling) :
    t.engine.card (s.engine.hold (x % 512)).cardSlot =
      ((s.engine.card (s.engine.hold (x % 512)).cardSlot).inPeriod s.period.number s.engine.ranges).released
        (fun x => s.engine.hold (x % 512)) (s.engine.liveOf [x]) := by
  obtain live | settling := is_open
  · rw [(step.live live).1, Engine.liveOf_live live, State.detach_card_same h, Engine.handleOf_named (by simp [live])]
    rfl
  · rw [(step.settling settling).1, Engine.liveOf_notLive (by simp [settling]), Engine.card_mapHold, refresh_card_same h]
    rfl

theorem State.WalkStep.card_untouched (step : State.WalkStep reason mark x s t) {slot : Nat}
    (apart : s.engine.resolve x = .live ∨ s.engine.resolve x = .settling → (s.engine.hold (x % 512)).cardSlot ≠ slot) :
    t.engine.card slot = s.engine.card slot :=
  step.cases (P := fun e _ => e.card slot = s.engine.card slot)
    (fun live => State.detach_card_other (apart (.inl live)).symm)
    (fun settling => (Engine.card_mapHold _ _ _ _).trans (refresh_card_other (apart (.inr settling)).symm s))
    fun _ => rfl

end

/-! ## A card purse along a walk -/

/-- `p` is the card purse in `slot` after a walk from `s` over `handles`: refreshed where the walk touches an open hold of it, the
shares of those that end gone from it; as it was where the walk touches none. -/
def State.CardWalked (s : State) (handles : List Nat) (slot : Nat) (p : CardPurse) : Prop :=
  ((∃ x ∈ s.engine.openOf handles, (s.engine.hold (x % 512)).cardSlot = slot) →
    p = ((s.engine.card slot).inPeriod s.period.number s.engine.ranges).released (fun x => s.engine.hold (x % 512))
      ((s.engine.liveOf handles).filter fun x => (s.engine.hold (x % 512)).cardSlot = slot)) ∧
  ((∀ x ∈ s.engine.openOf handles, (s.engine.hold (x % 512)).cardSlot ≠ slot) → p = s.engine.card slot)

section
variable {s : State} {xs : List Nat} {slot x : Nat} {p : CardPurse}

theorem State.CardWalked.nil : s.CardWalked [] slot (s.engine.card slot) := ⟨by simp [Engine.openOf], fun _ => rfl⟩

/-- The next hold is open and of this purse. -/
theorem State.CardWalked.touch (walked : s.CardWalked xs slot p)
    (is_open : s.engine.resolve x = .live ∨ s.engine.resolve x = .settling)
    (at_slot : (s.engine.hold (x % 512)).cardSlot = slot) :
    s.CardWalked (xs ++ [x]) slot ((p.inPeriod s.period.number s.engine.ranges).released
      (fun x => s.engine.hold (x % 512)) (s.engine.liveOf [x])) := by
  obtain ⟨touched, untouched⟩ := walked
  have all_here : ((s.engine.liveOf [x]).filter fun x => (s.engine.hold (x % 512)).cardSlot = slot) =
      s.engine.liveOf [x] :=
    List.filter_eq_self.mpr fun y mem => by
      obtain rfl := List.mem_singleton.mp (Engine.mem_liveOf.mp mem).1
      exact decide_eq_true at_slot
  refine ⟨fun _ => ?_, fun nowhere => absurd at_slot (nowhere x (Engine.mem_openOf.mpr ⟨by simp, is_open⟩))⟩
  rw [Engine.liveOf_append, List.filter_append, CardPurse.released_append, all_here]
  congr 1
  by_cases before : ∃ y ∈ s.engine.openOf xs, (s.engine.hold (y % 512)).cardSlot = slot
  · rw [touched before, CardPurse.inPeriod_released_inPeriod]
  · push Not at before
    rw [untouched before, List.filter_eq_nil_iff.mpr fun y mem => by
      simpa using before y (Engine.liveOf_subset_openOf mem), CardPurse.released_nil]

/-- The next hold is not open, or not of this purse. -/
theorem State.CardWalked.pass (walked : s.CardWalked xs slot p)
    (apart : ¬ ((s.engine.resolve x = .live ∨ s.engine.resolve x = .settling) ∧
      (s.engine.hold (x % 512)).cardSlot = slot)) : s.CardWalked (xs ++ [x]) slot p := by
  obtain ⟨touched, untouched⟩ := walked
  have none_here : ((s.engine.liveOf [x]).filter fun x => (s.engine.hold (x % 512)).cardSlot = slot) = [] :=
    List.filter_eq_nil_iff.mpr fun y mem at_slot => by
      obtain ⟨single, live⟩ := Engine.mem_liveOf.mp mem
      obtain rfl := List.mem_singleton.mp single
      exact apart ⟨.inl live, of_decide_eq_true at_slot⟩
  unfold State.CardWalked
  rw [Engine.liveOf_append, List.filter_append, none_here, List.append_nil]
  refine ⟨fun ⟨y, mem, at_slot⟩ => touched ⟨y, ?_, at_slot⟩, fun nowhere => untouched fun y mem => nowhere y ?_⟩
  · obtain ⟨listed, is_open⟩ := Engine.mem_openOf.mp mem
    obtain before | rfl : y ∈ xs ∨ y = x := by simpa using listed
    · exact Engine.mem_openOf.mpr ⟨before, is_open⟩
    · exact absurd ⟨is_open, at_slot⟩ apart
  · obtain ⟨listed, is_open⟩ := Engine.mem_openOf.mp mem
    exact Engine.mem_openOf.mpr ⟨List.mem_append_left _ listed, is_open⟩

end

/-! ## The whole walk -/

/-- A walk acts on the holds of `handles` in their order. -/
def walk (f : Nat → State → State) (handles : List Nat) (s : State) : State := handles.foldl (fun s x => f x s) s

theorem walk_append_singleton (f : Nat → State → State) (xs : List Nat) (x : Nat) (s : State) :
    walk f (xs ++ [x]) s = f x (walk f xs s) := by
  simp [walk]

/-- An induction along a walk, from its first hold to its last. -/
theorem walk_induction {f : Nat → State → State} {s : State} {P : List Nat → State → Prop} (nil : P [] s)
    (snoc : ∀ xs x, P xs (walk f xs s) → P (xs ++ [x]) (f x (walk f xs s))) (handles : List Nat) :
    P handles (walk f handles s) := by
  induction handles using List.reverseRecOn with
  | nil => exact nil
  | append_singleton xs x ih =>
    rw [walk_append_singleton]
    exact snoc xs x ih

/-- The same for a list with no handle twice. -/
theorem walk_induction_nodup {f : Nat → State → State} {s : State} {P : List Nat → State → Prop} (nil : P [] s)
    (snoc : ∀ xs x, x ∉ xs → P xs (walk f xs s) → P (xs ++ [x]) (f x (walk f xs s))) {handles : List Nat}
    (once : handles.Nodup) : P handles (walk f handles s) := by
  refine walk_induction (P := fun xs t => xs.Nodup → P xs t) (fun _ => nil) (fun xs x ih nodup => ?_) handles once
  have apart := List.nodup_append.mp nodup
  exact snoc xs x (fun mem => apart.2.2 x mem x (List.mem_singleton_self x) rfl) (ih apart.1)

section
variable {f : Nat → State → State} {reason : EndReason} {mark : EndMark} {s : State}
  (acts : ∀ x s, State.WalkStep reason mark x s (f x s))
include acts

theorem walk_number (handles : List Nat) : (walk f handles s).period.number = s.period.number :=
  walk_induction (P := fun _ t => t.period.number = s.period.number) rfl
    (fun _ _ ih => (acts _ _).number.trans ih) handles

theorem walk_ranges (handles : List Nat) : (walk f handles s).engine.ranges = s.engine.ranges :=
  walk_induction (P := fun _ t => t.engine.ranges = s.engine.ranges) rfl
    (fun _ _ ih => (acts _ _).ranges.trans ih) handles

variable (canonical : s.tablesCanonical)
include canonical

theorem walk_canonical (handles : List Nat) : (walk f handles s).tablesCanonical :=
  walk_induction (P := fun _ t => t.tablesCanonical) canonical (fun _ _ ih => (acts _ _).canonical ih) handles

/-- After a walk the holds its handles name are walked, once or more often, and every other hold is as it was. -/
theorem walk_hold (handles : List Nat) (k : Nat) :
    ((∃ x ∈ handles, s.engine.Names x k) →
      (walk f handles s).engine.hold k = (s.engine.hold k).walked reason mark) ∧
    ((∀ x ∈ handles, ¬ s.engine.Names x k) → (walk f handles s).engine.hold k = s.engine.hold k) := by
  refine walk_induction (P := fun xs t =>
    ((∃ x ∈ xs, s.engine.Names x k) → t.engine.hold k = (s.engine.hold k).walked reason mark) ∧
    ((∀ x ∈ xs, ¬ s.engine.Names x k) → t.engine.hold k = s.engine.hold k)) ⟨by simp, fun _ => rfl⟩ ?_ handles
  intro xs x ⟨walked, same⟩
  obtain ⟨step_named, step_other⟩ := (acts x (walk f xs s)).hold (walk_canonical acts canonical xs) k
  have generation : ((walk f xs s).engine.hold k).generation = (s.engine.hold k).generation := by
    by_cases before : ∃ y ∈ xs, s.engine.Names y k
    · rw [walked before, Hold.walked_generation]
    · rw [same (by simpa using before)]
  have names : (walk f xs s).engine.Names x k ↔ s.engine.Names x k := by simp only [Engine.Names, generation]
  by_cases last : s.engine.Names x k
  · refine ⟨fun _ => ?_, fun nowhere => absurd last (nowhere x (by simp))⟩
    rw [step_named (names.mpr last)]
    by_cases before : ∃ y ∈ xs, s.engine.Names y k
    · rw [walked before, Hold.walked_walked]
    · rw [same (by simpa using before)]
  · rw [step_other (mt names.mp last)]
    refine ⟨fun ⟨y, mem, named⟩ => walked ⟨y, ?_, named⟩, fun nowhere => same fun y mem => nowhere y (by simp [mem])⟩
    obtain before | rfl : y ∈ xs ∨ y = x := by simpa using mem
    · exact before
    · exact absurd named last

/-- A walk that has not come to handle `x` leaves what it names as it was. -/
theorem walk_hold_ahead {xs : List Nat} {x : Nat} (ahead : x ∉ xs) (named : s.engine.Names x (x % 512)) :
    (walk f xs s).engine.hold (x % 512) = s.engine.hold (x % 512) :=
  (walk_hold acts canonical xs _).2 fun _ mem other => ahead (other.unique named ▸ mem)

theorem walk_generation (handles : List Nat) (k : Nat) :
    ((walk f handles s).engine.hold k).generation = (s.engine.hold k).generation := by
  obtain ⟨walked, same⟩ := walk_hold acts canonical handles k
  by_cases named : ∃ x ∈ handles, s.engine.Names x k
  · rw [walked named, Hold.walked_generation]
  · rw [same (by simpa using named)]

theorem walk_resolve_ahead {xs : List Nat} {x : Nat} (ahead : x ∉ xs) :
    (walk f xs s).engine.resolve x = s.engine.resolve x := by
  by_cases named : s.engine.Names x (x % 512)
  · exact Engine.resolve_congr (walk_hold_ahead acts canonical ahead named)
  · have named' : ¬ (walk f xs s).engine.Names x (x % 512) := by
      simpa only [Engine.Names, walk_generation acts canonical xs] using named
    rw [Engine.resolve_of_not_names named, Engine.resolve_of_not_names named']

theorem walk_liveOf_ahead {xs : List Nat} {x : Nat} (ahead : x ∉ xs) :
    (walk f xs s).engine.liveOf [x] = s.engine.liveOf [x] := by
  refine List.filter_congr fun y single => ?_
  obtain rfl := List.mem_singleton.mp single
  rw [walk_resolve_ahead acts canonical ahead]

/-- A LIVE hold the walk has not come to is as it was. -/
theorem walk_hold_live {xs : List Nat} {x y : Nat} (ahead : x ∉ xs) (mem : y ∈ s.engine.liveOf [x]) :
    (walk f xs s).engine.hold (y % 512) = s.engine.hold (y % 512) := by
  obtain ⟨single, live⟩ := Engine.mem_liveOf.mp mem
  obtain rfl := List.mem_singleton.mp single
  exact walk_hold_ahead acts canonical ahead (Engine.names_of_resolve (by simp [live]))

/-- What a walk reads of a LIVE hold it has not come to. -/
theorem walk_filter_ahead {xs : List Nat} {x : Nat} (ahead : x ∉ xs) (p : Hold → Bool) :
    ((walk f xs s).engine.liveOf [x]).filter (fun x => p ((walk f xs s).engine.hold (x % 512))) =
      (s.engine.liveOf [x]).filter fun x => p (s.engine.hold (x % 512)) := by
  rw [walk_liveOf_ahead acts canonical ahead]
  exact List.filter_congr fun y mem => by rw [walk_hold_live acts canonical ahead mem]

variable {handles : List Nat} (once : handles.Nodup)
include once

theorem walk_freeList : (walk f handles s).engine.freeList =
    s.engine.freeList ++ (s.engine.liveOf handles).map fun x => x % 512 := by
  refine walk_induction_nodup (P := fun xs t => t.engine.freeList =
    s.engine.freeList ++ (s.engine.liveOf xs).map fun x => x % 512) (by simp [Engine.liveOf]) (fun xs x ahead ih => ?_) once
  rw [(acts _ _).freeList, ih, walk_liveOf_ahead acts canonical ahead, Engine.liveOf_append, List.map_append,
    List.append_assoc]

theorem walk_laneHolds (l : Lane) : (walk f handles s).engine.laneHolds[l] =
    s.engine.laneHolds[l].diff ((s.engine.liveOf handles).filter fun x => (s.engine.hold (x % 512)).lane = l) := by
  refine walk_induction_nodup (P := fun xs t => t.engine.laneHolds[l] =
    s.engine.laneHolds[l].diff ((s.engine.liveOf xs).filter fun x => (s.engine.hold (x % 512)).lane = l))
    (by simp [Engine.liveOf]) (fun xs x ahead ih => ?_) once
  rw [(acts _ _).laneHolds, ih, walk_filter_ahead acts canonical ahead fun h => h.lane = l, Engine.liveOf_append,
    List.filter_append, List.diff_append]

theorem walk_deadlines : (walk f handles s).deadlines =
    { s.deadlines with list := s.deadlines.list.filter fun y => y.handle ∉ s.engine.liveOf handles } := by
  refine walk_induction_nodup (P := fun xs t => t.deadlines =
    { s.deadlines with list := s.deadlines.list.filter fun y => y.handle ∉ s.engine.liveOf xs })
    (by simp [Engine.liveOf]) (fun xs x ahead ih => ?_) once
  rw [(acts _ _).deadlines, ih, walk_liveOf_ahead acts canonical ahead, Engine.liveOf_append]
  simp [List.filter_filter, Bool.and_comm]

theorem walk_sponsor (n : Nat) : (walk f handles s).engine.sponsor n =
    (s.engine.sponsor n).released (fun x => s.engine.hold (x % 512))
      ((s.engine.liveOf handles).filter fun x => (s.engine.hold (x % 512)).sponsor = some n) := by
  refine walk_induction_nodup (P := fun xs t => t.engine.sponsor n =
    (s.engine.sponsor n).released (fun x => s.engine.hold (x % 512))
      ((s.engine.liveOf xs).filter fun x => (s.engine.hold (x % 512)).sponsor = some n))
    (by simp [Engine.liveOf]) (fun xs x ahead ih => ?_) once
  rw [(acts _ _).sponsor (walk_canonical acts canonical xs), ih,
    walk_filter_ahead acts canonical ahead fun h => h.sponsor = some n, Engine.liveOf_append, List.filter_append,
    SponsorPurse.released_append]
  exact SponsorPurse.released_congr (fun y mem => walk_hold_live acts canonical ahead (List.mem_of_mem_filter mem)) _

theorem walk_card (slot : Nat) : s.CardWalked handles slot ((walk f handles s).engine.card slot) := by
  refine walk_induction_nodup (P := fun xs t => s.CardWalked xs slot (t.engine.card slot)) State.CardWalked.nil ?_ once
  intro xs x ahead walked
  have resolved := walk_resolve_ahead acts canonical ahead
  by_cases here : (s.engine.resolve x = .live ∨ s.engine.resolve x = .settling) ∧
      (s.engine.hold (x % 512)).cardSlot = slot
  · obtain ⟨is_open, at_slot⟩ := here
    have step := (acts x (walk f xs s)).card_touched (walk_canonical acts canonical xs) (by rwa [resolved])
    rw [walk_hold_ahead acts canonical ahead (Engine.names_of_open is_open), at_slot, walk_number acts, walk_ranges acts,
      walk_liveOf_ahead acts canonical ahead,
      CardPurse.released_congr fun y mem => walk_hold_live acts canonical ahead mem] at step
    rw [step]
    exact walked.touch is_open at_slot
  · have step := (acts x (walk f xs s)).card_untouched (slot := slot) fun is_open at_slot => by
      rw [resolved] at is_open
      rw [walk_hold_ahead acts canonical ahead (Engine.names_of_open is_open)] at at_slot
      exact here ⟨is_open, at_slot⟩
    rw [step]
    exact walked.pass here

/-- A walk over a list without a handle twice is what `State.Walks` says (R50, R51, R115). -/
theorem walk_walks : s.Walks handles reason mark (walk f handles s) := by
  intro ended touched h hold ended_eq touched_eq
  obtain rfl : h = fun x => s.engine.hold (x % 512) := funext hold
  change ended = s.engine.liveOf handles at ended_eq
  change touched = s.engine.openOf handles at touched_eq
  subst ended_eq touched_eq
  refine ⟨walk_freeList acts canonical once, walk_laneHolds acts canonical once, walk_deadlines acts canonical once,
    fun x mem => ?_, fun x mem not_ended => ?_, fun k apart => ?_, fun slot p here here_eq p_touched p_untouched => ?_,
    fun n here here_eq => ?_⟩
  · obtain ⟨listed, live⟩ := Engine.mem_liveOf.mp mem
    rw [(walk_hold acts canonical handles _).1 ⟨x, listed, Engine.names_of_resolve (by simp [live])⟩,
      Hold.walked_live ((Engine.resolve_eq_live _ _).mp live).2]
    rfl
  · obtain ⟨listed, is_open⟩ := Engine.mem_openOf.mp mem
    have settling := is_open.resolve_left fun live => not_ended (Engine.mem_liveOf.mpr ⟨listed, live⟩)
    rw [(walk_hold acts canonical handles _).1 ⟨x, listed, Engine.names_of_resolve (by simp [settling])⟩,
      Hold.walked_settling ((Engine.resolve_eq_settling _ _).mp settling).2]
    rfl
  · obtain ⟨walked, same⟩ := walk_hold acts canonical handles k
    by_cases named : ∃ x ∈ handles, s.engine.Names x k
    · obtain ⟨x, listed, slot, gen⟩ := named
      subst slot
      have closed : ¬ (s.engine.resolve x = .live ∨ s.engine.resolve x = .settling) := fun is_open =>
        apart x (Engine.mem_openOf.mpr ⟨listed, is_open⟩) rfl
      rw [walked ⟨x, listed, rfl, gen⟩, Hold.walked_free (Engine.free_of_closed gen closed)]
    · exact same (by simpa using named)
  · subst here_eq
    obtain ⟨card_touched, card_untouched⟩ := walk_card acts canonical once slot
    by_cases touch : ∃ x ∈ s.engine.openOf handles, (s.engine.hold (x % 512)).cardSlot = slot
    · rw [card_touched touch, p_touched touch, refresh_card_same canonical]
      rfl
    · push Not at touch
      rw [card_untouched touch, p_untouched touch, List.filter_eq_nil_iff.mpr fun y mem => by
        simpa using touch y (Engine.liveOf_subset_openOf mem)]
      rfl
  · subst here_eq
    exact walk_sponsor acts canonical once n

end

end Sys2Proof.Machine
end

section
/-! PROOF. Expiry events and lane-lost events (R48 to R51): what an ending and a lost lane's walk report to Period Control, and
the two events whole. -/

namespace Sys2Proof.Machine

/-! ## What an ending leaves alone -/

/-- From `s` to `t` nothing changes that a report or a notice reads beside Period Control, the journal and the notices. -/
structure State.ReportFrame (s t : State) : Prop where
  lanes : t.lanes = s.lanes
  now : t.now = s.now
  journalEvents : t.engine.journalEvents = s.engine.journalEvents
  totals : t.engine.totals = s.engine.totals
  partialMark : t.engine.partialMark = s.engine.partialMark

/-- From `s` to `t` holds have ended or been marked: at the engine the purses, the holds and the lists may differ, the tick count
and the lanes stand. -/
structure State.HoldFrame (s t : State) : Prop where
  lanes : t.lanes = s.lanes
  arbiter : t.arbiter = s.arbiter
  config : t.config = s.config
  restore : t.restore = s.restore
  memory : t.memory = s.memory
  pending : t.pending = s.pending
  now : t.now = s.now
  engine : t.engine = { s.engine with
    cards := t.engine.cards, sponsors := t.engine.sponsors, holds := t.engine.holds, freeList := t.engine.freeList,
    laneHolds := t.engine.laneHolds }

theorem State.HoldFrame.refl (s : State) : s.HoldFrame s := ⟨rfl, rfl, rfl, rfl, rfl, rfl, rfl, rfl⟩

theorem State.HoldFrame.trans {s t u : State} (first : s.HoldFrame t) (second : t.HoldFrame u) : s.HoldFrame u where
  lanes := second.lanes.trans first.lanes
  arbiter := second.arbiter.trans first.arbiter
  config := second.config.trans first.config
  restore := second.restore.trans first.restore
  memory := second.memory.trans first.memory
  pending := second.pending.trans first.pending
  now := second.now.trans first.now
  engine := by rw [second.engine, first.engine]

theorem State.HoldFrame.reportFrame {s t : State} (frame : s.HoldFrame t) : s.ReportFrame t where
  lanes := frame.lanes
  now := frame.now
  journalEvents := by rw [frame.engine]
  totals := by rw [frame.engine]
  partialMark := by rw [frame.engine]

theorem State.detach_frame (k : Nat) (reason : EndReason) (s : State) : s.HoldFrame (s.detach k reason) := by
  rw [State.detach_eq]
  exact ⟨rfl, rfl, rfl, rfl, rfl, rfl, rfl, rfl⟩

theorem endHold_laneLost_eq (k : Nat) (s : State) : endHold k .laneLost s = reportHolds (s.detach k .laneLost) :=
  endHold_eq k .laneLost s

theorem reportHolds_frame (s : State) : s.HoldFrame (reportHolds s) := by
  constructor <;> simp [State.now]

/-! ## Reports one after another -/

theorem State.ReportFrame.closeFigures {s t : State} (frame : s.ReportFrame t) (journal : t.journal = s.journal) :
    t.closeFigures = s.closeFigures := by
  simp only [State.closeFigures, State.totalsAhead, State.earlierRecords, State.untakenRecords, frame.journalEvents,
    frame.totals, frame.partialMark, journal]

/-- A report made where Period Control has at most noted another count says the same of the state before. -/
theorem State.Reports.of_frame {s t : State} {c count : Nat} {period : PeriodControl} {journal : JournalUnit}
    {notices : NoticeUnit} (report : t.Reports count period journal notices) (frame : s.ReportFrame t)
    (period_eq : t.period = { s.period with holdCount := c }) (journal_eq : t.journal = s.journal)
    (notices_eq : t.notices = s.notices) : s.Reports count period journal notices := by
  have flag := raiseFlag_notices_congr .closeFailed frame.lanes notices_eq frame.now
  simpa only [State.Reports, period_eq, journal_eq, notices_eq, frame.closeFigures journal_eq, flag] using report

/-- A second report of no more holds leaves what it alone would have left: a drain that the first completed stays completed. -/
theorem State.Reports.trans {s t : State} {c count : Nat} {period : PeriodControl} {journal : JournalUnit}
    {notices : NoticeUnit} (first : s.Reports c t.period t.journal t.notices)
    (second : t.Reports count period journal notices) (frame : s.ReportFrame t) (fewer : count ≤ c) :
    s.Reports count period journal notices := by
  obtain ⟨stays, completes, fails⟩ := first
  by_cases drained : s.period.state = .freezing ∧ c = 0
  · obtain ⟨freezing, rfl⟩ := drained
    obtain rfl : count = 0 := Nat.le_zero.mp fewer
    have closed : t.period.state ≠ .freezing := by
      cases store : s.journal.store
      case ok => simp [(completes freezing rfl store).1]
      case fault => simp [(fails freezing rfl store).1]
    obtain ⟨period_eq, journal_eq, notices_eq⟩ := second.1 (.inl closed)
    refine ⟨fun h => absurd freezing (h.resolve_right (not_not.mpr rfl)), fun _ _ ok => ?_, fun _ _ fault => ?_⟩
    · obtain ⟨t_period, t_notices, t_journal⟩ := completes freezing rfl ok
      rw [period_eq, journal_eq, notices_eq, t_period]
      exact ⟨rfl, t_notices, t_journal⟩
    · obtain ⟨t_period, t_journal, t_notices⟩ := fails freezing rfl fault
      rw [period_eq, journal_eq, notices_eq, t_period]
      exact ⟨rfl, t_journal, t_notices⟩
  · obtain ⟨period_eq, journal_eq, notices_eq⟩ := stays (not_and_or.mp drained)
    exact second.of_frame frame period_eq journal_eq notices_eq

/-- A LIVE hold that ends LANE_LOST reports the count it leaves (R33, R35), and places no notice (R34). -/
theorem endHold_laneLost_reports (k : Nat) (s : State) : s.Reports (endHold k .laneLost s).engine.openHolds
    (endHold k .laneLost s).period (endHold k .laneLost s).journal (endHold k .laneLost s).notices := by
  rw [endHold_laneLost_eq, reportHolds_engine]
  exact (reportHolds_reports (s.detach k .laneLost)).of_frame (State.detach_frame k .laneLost s).reportFrame
    (c := s.period.holdCount) (by rw [State.detach_eq]) (by rw [State.detach_eq]) (by rw [State.detach_eq])

/-! ## The walk of a lost lane (R50, R51) -/

section
variable {x : Nat} {s : State}

theorem loseHold_live (live : s.engine.resolve x = .live) : loseHold x s = endHold (x % 512) .laneLost s := by
  simp [loseHold, live, handleSlot]

theorem loseHold_settling (settling : s.engine.resolve x = .settling) :
    loseHold x s = markHold (x % 512) .laneLost (refresh (s.engine.hold (x % 512)).cardSlot s) := by
  simp [loseHold, settling, handleSlot]

theorem loseHold_gone (gone : s.engine.resolve x = .stale ∨ s.engine.resolve x = .ended) : loseHold x s = s := by
  obtain stale | ended := gone
  · simp [loseHold, stale]
  · simp [loseHold, ended]

/-- Only the ending of a LIVE hold reaches Period Control, the journal or the notices. -/
theorem loseHold_notLive (other : s.engine.resolve x ≠ .live) : (loseHold x s).period = s.period ∧
    (loseHold x s).journal = s.journal ∧ (loseHold x s).notices = s.notices := by
  cases resolved : s.engine.resolve x with
  | live => exact absurd resolved other
  | settling => simp [loseHold_settling resolved]
  | stale => simp [loseHold_gone (.inl resolved)]
  | ended => simp [loseHold_gone (.inr resolved)]

end

theorem loseHold_walkStep (x : Nat) (s : State) : State.WalkStep .laneLost .laneLost x s (loseHold x s) where
  number := by
    by_cases live : s.engine.resolve x = .live
    · rw [loseHold_live live, endHold_laneLost_eq, reportHolds_number, State.detach_eq]
    · rw [(loseHold_notLive live).1]
  live live := by
    rw [loseHold_live live, endHold_laneLost_eq, reportHolds_engine, reportHolds_deadlines]
    exact ⟨rfl, rfl⟩
  settling settling := by
    rw [loseHold_settling settling, markHold_engine]
    simp
  gone gone := by
    rw [loseHold_gone gone]
    exact ⟨rfl, rfl⟩

theorem loseHold_frame (x : Nat) (s : State) : s.HoldFrame (loseHold x s) := by
  cases resolved : s.engine.resolve x with
  | live =>
    rw [loseHold_live resolved, endHold_laneLost_eq]
    exact (State.detach_frame _ _ s).trans (reportHolds_frame _)
  | settling =>
    rw [loseHold_settling resolved]
    constructor
    case engine => rw [markHold_engine, refresh_engine]; rfl
    all_goals simp [State.now]
  | stale => rw [loseHold_gone (.inl resolved)]; exact .refl s
  | ended => rw [loseHold_gone (.inr resolved)]; exact .refl s

theorem walk_loseHold_frame (handles : List Nat) (s : State) : s.HoldFrame (walk loseHold handles s) :=
  walk_induction (P := fun _ t => s.HoldFrame t) (.refl s) (fun _ x frame => frame.trans (loseHold_frame x _)) handles

/-- What the walk of a lost lane tells Period Control: nothing where it ends no hold, else the count it leaves. -/
theorem walk_loseHold_reports {s : State} (canonical : s.tablesCanonical) {handles : List Nat} (once : handles.Nodup) :
    (s.engine.liveOf handles = [] → (walk loseHold handles s).period = s.period ∧
      (walk loseHold handles s).journal = s.journal ∧ (walk loseHold handles s).notices = s.notices) ∧
    (s.engine.liveOf handles ≠ [] → s.Reports (walk loseHold handles s).engine.openHolds
      (walk loseHold handles s).period (walk loseHold handles s).journal (walk loseHold handles s).notices) := by
  refine walk_induction_nodup (P := fun xs t =>
    (s.engine.liveOf xs = [] → t.period = s.period ∧ t.journal = s.journal ∧ t.notices = s.notices) ∧
    (s.engine.liveOf xs ≠ [] → s.Reports t.engine.openHolds t.period t.journal t.notices))
    ⟨fun _ => ⟨rfl, rfl, rfl⟩, fun ends => absurd rfl ends⟩ ?_ once
  intro xs x ahead ⟨silent, reported⟩
  have frame := (walk_loseHold_frame xs s).reportFrame
  have resolved := walk_resolve_ahead loseHold_walkStep canonical ahead
  have freed := (loseHold_walkStep x (walk loseHold xs s)).freeList
  rw [Engine.liveOf_append]
  by_cases live : s.engine.resolve x = .live
  · rw [Engine.liveOf_live live]
    refine ⟨fun silent => absurd silent (by simp), fun _ => ?_⟩
    have last := endHold_laneLost_reports (x % 512) (walk loseHold xs s)
    rw [← loseHold_live (resolved.trans live)] at last
    by_cases before : s.engine.liveOf xs = []
    · obtain ⟨period, journal, notices⟩ := silent before
      exact last.of_frame frame (c := s.period.holdCount) period journal notices
    · refine (reported before).trans last frame ?_
      simp only [Engine.openHolds, freed, List.length_append]
      omega
  · obtain ⟨period, journal, notices⟩ := loseHold_notLive (resolved.trans_ne live)
    rw [Engine.liveOf_notLive (resolved.trans_ne live), List.map_nil, List.append_nil] at freed
    rw [Engine.liveOf_notLive live, List.append_nil, period, journal, notices, Engine.openHolds, freed]
    exact ⟨silent, reported⟩

/-! ## Expiry events (R48, R49) -/

section
variable {handle : Nat} {d : Tick} {s : State}

theorem exec_expiry {rest : List (Nat × Tick)} (released : s.restore.inReset = false)
    (raised : s.engine.expiries = (handle, d) :: rest) : exec (.holdExpiryEvent handle d) s =
      .next (expireHold handle d { s with engine := { s.engine with expiries := rest } }) := by
  rw [exec_holdExpiryEvent, execHoldExpiryEvent, event_of_released released]
  simp only [raised, if_true]
  rfl

theorem expireHold_live (live : s.engine.resolve handle = .live)
    (due : (s.engine.hold (handle % 512)).deadline = d) :
    expireHold handle d s = endHold (handle % 512) .expired s := by
  simp [expireHold, live, handleSlot, due]

theorem expireHold_settling (settling : s.engine.resolve handle = .settling)
    (due : (s.engine.hold (handle % 512)).deadline = d) (unmarked : (s.engine.hold (handle % 512)).deadlinePassed = false) :
    expireHold handle d s = markDeadlinePassed handle s := by
  simp [expireHold, settling, handleSlot, due, unmarked]

/-- An event that finds its hold ended, moved to another deadline or marked already is discarded. -/
theorem expireHold_discarded (late : (s.engine.hold (handle % 512)).generation ≠ handle / 512 ∨
      (s.engine.hold (handle % 512)).state = .free ∨ (s.engine.hold (handle % 512)).deadline ≠ d ∨
      (s.engine.hold (handle % 512)).state = .settling ∧ (s.engine.hold (handle % 512)).deadlinePassed = true) :
    expireHold handle d s = s := by
  cases resolved : s.engine.resolve handle with
  | live =>
    obtain ⟨gen, state⟩ := (Engine.resolve_eq_live _ _).mp resolved
    have moved : (s.engine.hold (handle % 512)).deadline ≠ d := by simpa [gen, state] using late
    simp [expireHold, resolved, handleSlot, moved]
  | settling =>
    obtain ⟨gen, state⟩ := (Engine.resolve_eq_settling _ _).mp resolved
    have moved : (s.engine.hold (handle % 512)).deadline ≠ d ∨ (s.engine.hold (handle % 512)).deadlinePassed = true := by
      simpa [gen, state] using late
    obtain moved | marked := moved
    · simp [expireHold, resolved, handleSlot, moved]
    · simp [expireHold, resolved, handleSlot, marked]
  | stale => simp [expireHold, resolved]
  | ended => simp [expireHold, resolved]

/-- The deadline-passed mark of a SETTLING hold (R49): its purse refreshed, the hold marked, its entry gone. -/
theorem markDeadlinePassed_eq : markDeadlinePassed handle s =
    { s with
      engine := (refresh (s.engine.hold (handle % 512)).cardSlot s).engine.mapHold (handle % 512)
        fun h => { h with deadlinePassed := true },
      deadlines := { s.deadlines with list := s.deadlines.list.filter fun y => y.handle ≠ handle } } := by
  unfold markDeadlinePassed
  dsimp only [handleSlot]
  rw [refresh_eq]
  rfl

end

/-! ## Lane-lost events (R50, R51) -/

/-- A LANE_LOST notice placed is the last of its queue, whatever the queue held (R169, R170). -/
theorem NoticeLane.place_laneLost_last {x : Notice} (lost : x.isLaneLost = true) (q : NoticeLane) :
    (q.place x).queue.getLast? = some x := by
  unfold NoticeLane.place
  by_cases room : q.queue.length < 8
  · rw [if_pos room]
    simp
  · rw [if_neg room, if_pos lost]
    unfold forcedInsertion
    split <;> simp

theorem State.tells_laneLost_last {s : State} {l : Lane} (on : s.role l ≠ .off) {x : Notice} (lost : x.isLaneLost = true)
    (n : NoticeUnit) : (s.tells l x n).lanes[l].queue.getLast? = some x := by
  simp [State.tells, on, NoticeLane.place_laneLost_last lost]

/-- The engine has taken a lane-lost event of lane `l`. -/
def State.lossTaken (l : Lane) (s : State) : State :=
  { s with engine := { s.engine with lostLanes := s.engine.lostLanes.erase l } }

theorem State.lossTaken_reportFrame (l : Lane) (s : State) : s.ReportFrame (s.lossTaken l) := ⟨rfl, rfl, rfl, rfl, rfl⟩

theorem refresh_lossTaken (l : Lane) (slot : Nat) (s : State) :
    (refresh slot (s.lossTaken l)).engine.card slot = (refresh slot s).engine.card slot :=
  congrArg (Table.get CardPurse.free slot) (refresh_cards_congr slot rfl rfl rfl)

theorem State.Walks.of_lossTaken {l : Lane} {s t : State} {handles : List Nat} {reason : EndReason} {mark : EndMark}
    (walks : (s.lossTaken l).Walks handles reason mark t) : s.Walks handles reason mark t := by
  intro ended touched h hold ended_eq touched_eq
  have all := walks ended touched h hold ended_eq touched_eq
  simp only [refresh_lossTaken] at all
  exact all

theorem exec_laneLost {l : Lane} {s : State} (released : s.restore.inReset = false) (sent : l ∈ s.engine.lostLanes) :
    exec (.laneLostEvent l) s = .next (loseLane l (s.lossTaken l)) := by
  rw [exec_laneLostEvent, execLaneLostEvent, event_of_released released, if_pos sent]
  rfl

theorem loseLane_eq (l : Lane) (s : State) : loseLane l s =
    placeNotice l (.laneLost (s.engine.liveOf s.engine.laneHolds[l]).length s.now)
      (walk loseHold s.engine.laneHolds[l] s) := by
  rw [← (walk_loseHold_frame s.engine.laneHolds[l] s).now]
  rfl

section
variable {l : Lane} {s : State}

theorem loseLane_engine : (loseLane l s).engine = (walk loseHold s.engine.laneHolds[l] s).engine := by
  rw [loseLane_eq, placeNotice_engine]

/-- All that the loss of a lane may change: its Lane Unit waits for no notice any more (R173). -/
theorem loseLane_blocks : loseLane l s = { s with
    engine := (loseLane l s).engine, deadlines := (loseLane l s).deadlines, period := (loseLane l s).period,
    journal := (loseLane l s).journal, notices := (loseLane l s).notices,
    lanes := s.lanes.set l { s.lanes[l] with noticeAwaited := false } } := by
  have frame := walk_loseHold_frame s.engine.laneHolds[l] s
  have lanes : (loseLane l s).lanes = s.lanes.set l { s.lanes[l] with noticeAwaited := false } := by
    rw [loseLane_eq, placeNotice_lanes_laneLost]
    simp only [frame.lanes]
  rw [← lanes]
  exact State.eq_of_otherBlocks (by rw [loseLane_eq, placeNotice_arbiter, frame.arbiter])
    (by rw [loseLane_eq, placeNotice_config, frame.config]) (by rw [loseLane_eq, placeNotice_restore, frame.restore])
    (by rw [loseLane_eq, placeNotice_memory, frame.memory]) (by rw [loseLane_eq, placeNotice_pending, frame.pending])

/-- The LANE_LOST notice is the last placed (R51). -/
theorem loseLane_notices : (loseLane l s).notices =
    s.tells l (.laneLost (s.engine.liveOf s.engine.laneHolds[l]).length s.now)
      (walk loseHold s.engine.laneHolds[l] s).notices := by
  rw [loseLane_eq, placeNotice_notices, State.tells_congr (walk_loseHold_frame _ s).lanes]

theorem loseLane_live (canonical : s.tablesCanonical) {x : Nat} (listed : x ∈ s.engine.laneHolds[l])
    (live : s.engine.resolve x = .live) :
    (loseLane l s).engine.hold (x % 512) = (s.engine.hold (x % 512)).ended .laneLost := by
  rw [loseLane_engine, ← Hold.walked_live ((Engine.resolve_eq_live _ _).mp live).2]
  exact (walk_hold loseHold_walkStep canonical _ _).1 ⟨x, listed, Engine.names_of_resolve (by simp [live])⟩

theorem loseLane_settling (canonical : s.tablesCanonical) {x : Nat} (listed : x ∈ s.engine.laneHolds[l])
    (settling : s.engine.resolve x = .settling) :
    (loseLane l s).engine.hold (x % 512) = (s.engine.hold (x % 512)).marked .laneLost := by
  rw [loseLane_engine, ← Hold.walked_settling ((Engine.resolve_eq_settling _ _).mp settling).2]
  exact (walk_hold loseHold_walkStep canonical _ _).1 ⟨x, listed, Engine.names_of_resolve (by simp [settling])⟩

theorem loseLane_walks (canonical : s.tablesCanonical) (once : s.engine.laneHolds[l].Nodup) :
    s.Walks s.engine.laneHolds[l] .laneLost .laneLost (loseLane l s) := by
  have walks := walk_walks loseHold_walkStep canonical once
  rw [loseLane_eq]
  simpa only [State.Walks, placeNotice_engine, placeNotice_deadlines] using walks

theorem loseLane_reports (canonical : s.tablesCanonical) (once : s.engine.laneHolds[l].Nodup) :
    ∃ reported : NoticeUnit,
      (s.engine.liveOf s.engine.laneHolds[l] = [] → (loseLane l s).period = s.period ∧
        (loseLane l s).journal = s.journal ∧ reported = s.notices) ∧
      (s.engine.liveOf s.engine.laneHolds[l] ≠ [] →
        s.Reports (loseLane l s).engine.openHolds (loseLane l s).period (loseLane l s).journal reported) ∧
      (loseLane l s).notices =
        s.tells l (.laneLost (s.engine.liveOf s.engine.laneHolds[l]).length s.now) reported := by
  obtain ⟨silent, reports⟩ := walk_loseHold_reports canonical once
  refine ⟨(walk loseHold s.engine.laneHolds[l] s).notices, ?_, ?_, loseLane_notices⟩
  · simpa only [loseLane_eq, placeNotice_period, placeNotice_journal] using silent
  · simpa only [loseLane_eq, placeNotice_engine, placeNotice_period, placeNotice_journal] using reports

end

/-! ## The statement -/

/-- An expiry event of a SETTLING hold marks it, and takes its entry from the deadline list (R49). -/
theorem expiry_marks_settling {handle : Nat} {d : Tick} {rest : List (Nat × Tick)} {s : State} {h : Hold}
    (released : s.restore.inReset = false) (raised : s.engine.expiries = (handle, d) :: rest)
    (hold : h = s.engine.hold (handle % 512)) (canonical : s.tablesCanonical) (named : h.generation = handle / 512)
    (settling : h.state = .settling) (due : h.deadline = d) (unmarked : h.deadlinePassed = false) :
    ∃ e : Engine, exec (.holdExpiryEvent handle d) s = .next { s with
        engine := e,
        deadlines := { s.deadlines with list := s.deadlines.list.filter fun y => y.handle ≠ handle } } ∧
      e = { s.engine with expiries := rest, cards := (refresh h.cardSlot s).engine.cards, holds := e.holds } ∧
      e.hold (handle % 512) = { h with deadlinePassed := true } ∧
      ∀ j, j ≠ handle % 512 → e.hold j = s.engine.hold j := by
  subst hold
  let u : State := { s with engine := { s.engine with expiries := rest } }
  let slot := (s.engine.hold (handle % 512)).cardSlot
  have cards : (refresh slot u).engine.cards = (refresh slot s).engine.cards := refresh_cards_congr slot rfl rfl rfl
  refine ⟨(refresh slot u).engine.mapHold (handle % 512) fun h => { h with deadlinePassed := true }, ?_, ?_, ?_,
    fun j other => ?_⟩
  · rw [exec_expiry released raised,
      expireHold_settling (s := u) ((Engine.resolve_eq_settling _ _).mpr ⟨named, settling⟩) due unmarked,
      markDeadlinePassed_eq]
    rfl
  · rw [refresh_engine, cards]
    rfl
  · rw [Engine.hold_mapHold_same _ (refresh_tablesCanonical (s := u) _ canonical).2.2, refresh_hold]
    rfl
  · rw [Engine.hold_mapHold_other _ other, refresh_hold]
    rfl

/-- Settles O35: the expiry event by how its handle resolves, the lane-lost event by the laws of a walk and the reports of its
endings, taken over from the state with the event just taken. -/
theorem holdsEndUnasked : Obligations.holdsEndUnasked := by
  unfold Obligations.holdsEndUnasked
  refine ⟨fun handle d rest s u h released raised taken hold => ⟨fun named live due => ?_,
    expiry_marks_settling released raised hold, fun late => ?_⟩, fun l s released canonical sent =>
    ⟨loseLane l (s.lossTaken l), exec_laneLost released sent, loseLane_blocks, ?_, fun x listed live => ?_,
      fun x listed settling => ?_, fun on => ?_, fun ended once ended_eq => ⟨?_, ?_⟩⟩⟩
  · subst hold taken
    exact (exec_expiry released raised).trans (congrArg Host.Outcome.next
      (expireHold_live ((Engine.resolve_eq_live _ _).mpr ⟨named, live⟩) due))
  · subst hold taken
    exact (exec_expiry released raised).trans (congrArg Host.Outcome.next (expireHold_discarded late))
  · rw [loseLane_engine, (walk_loseHold_frame _ (s.lossTaken l)).engine]
    rfl
  · have ended := loseLane_live (s := s.lossTaken l) canonical listed live
    exact ⟨congrArg Hold.state ended, congrArg Hold.endReason ended⟩
  · exact loseLane_settling (s := s.lossTaken l) canonical listed settling
  · rw [loseLane_notices]
    exact State.tells_laneLost_last on rfl _
  · exact State.Walks.of_lossTaken (l := l) (loseLane_walks (s := s.lossTaken l) canonical once)
  · obtain ⟨reported, silent, reports, notices⟩ := loseLane_reports (s := s.lossTaken l) canonical once
    subst ended_eq
    exact ⟨reported, silent, fun ends => (reports ends).of_frame (s.lossTaken_reportFrame l)
      (c := s.period.holdCount) rfl rfl rfl, notices⟩

end Sys2Proof.Machine
end

section
/-! PROOF. What taking a journal event leaves: the event gone from the engine's list, the purses its record names, and the hold of a
CAPTURE whose settlement ends (R9, R59, R60, R64, R77, R78, R81). -/

namespace Sys2Proof.Machine

/-! ## Events taken -/

theorem exec_captureAbandoned (sequence : Nat) (s : State) :
    exec (.captureAbandoned sequence) s = execCaptureAbandoned sequence s := rfl

theorem exec_reversalDurable (sequence : Nat) (s : State) :
    exec (.reversalDurable sequence) s = execReversalDurable sequence s := rfl

theorem exec_reversalAbandoned (sequence : Nat) (s : State) :
    exec (.reversalAbandoned sequence) s = execReversalAbandoned sequence s := rfl

theorem exec_officeRecordAbandoned (sequence : Nat) (s : State) :
    exec (.officeRecordAbandoned sequence) s = execOfficeRecordAbandoned sequence s := rfl

/-- The state once the engine has taken its oldest journal event. -/
def State.eventTaken (s : State) : State :=
  { s with engine := { s.engine with journalEvents := s.engine.journalEvents.tail } }

theorem takeJournalEvent_of_hands {act : JournalEvent → Option (State → State)} {f : State → State} {x : JournalEvent}
    {s : State} (hands : s.Hands x) (acts : act x = some f) : takeJournalEvent act s = .next (f s.eventTaken) := by
  obtain ⟨released, oldest⟩ := hands
  obtain ⟨rest, events⟩ := List.head?_eq_some_iff.mp oldest
  simp only [takeJournalEvent, event_of_released released, events, acts, State.eventTaken, List.tail_cons]
  rfl

section
variable {r : Record} {l : Lane} {s : State}

theorem exec_captureAbandoned_of_hands {handle : Nat} {final : Bool}
    (hands : s.Hands (.abandoned r (.capture l handle final))) :
    exec (.captureAbandoned r.sequence) s = .next (takeCaptureAbandoned r l handle s.eventTaken) :=
  (exec_captureAbandoned _ _).trans (takeJournalEvent_of_hands hands (if_pos rfl))

theorem exec_reversalDurable_of_hands {receipt slot ap cp q : Nat} {c : CardAfter} {sp : Option SponsorAfter} {back : Bool}
    (hands : s.Hands (.durable r (.reversal l receipt))) (body : r.body = .reversal slot c sp ap cp q back) :
    exec (.reversalDurable r.sequence) s = .next (takeReversalDurable r ap cp back l receipt s.eventTaken) :=
  (exec_reversalDurable _ _).trans (takeJournalEvent_of_hands hands (by simp only [if_true, body]))

theorem exec_reversalAbandoned_of_hands {receipt : Nat} (hands : s.Hands (.abandoned r (.reversal l receipt))) :
    exec (.reversalAbandoned r.sequence) s = .next (takeReversalAbandoned r l receipt s.eventTaken) :=
  (exec_reversalAbandoned _ _).trans (takeJournalEvent_of_hands hands (if_pos rfl))

theorem exec_officeRecordAbandoned_of_hands (hands : s.Hands (.abandoned r (.request l))) (office : r.body.isOffice = true) :
    exec (.officeRecordAbandoned r.sequence) s = .next (takeOfficeAbandoned r l s.eventTaken) :=
  (exec_officeRecordAbandoned _ _).trans (takeJournalEvent_of_hands hands (if_pos ⟨rfl, office⟩))

end

theorem refresh_eventTaken_cards (slot : Nat) (s : State) :
    (refresh slot s.eventTaken).engine.cards = (refresh slot s).engine.cards := refresh_cards_congr slot rfl rfl rfl

/-! ## The purses a record names -/

section
variable {b : RecordBody} {fc : CardPurse → CardPurse} {fs : SponsorPurse → SponsorPurse} {s : State}

/-- A change of the purses a record names changes their two tables alone. -/
theorem onNamed_eq (b : RecordBody) (fc : CardPurse → CardPurse) (fs : SponsorPurse → SponsorPurse) (s : State) :
    onNamed b fc fs s = { s with engine := { s.engine with
      cards := (onNamed b fc fs s).engine.cards, sponsors := (onNamed b fc fs s).engine.sponsors } } := by
  cases card : b.cardSlot <;> cases sponsor : b.sponsor <;>
    simp [onNamed, card, sponsor, State.mapEngine, Engine.mapSponsor?, Engine.mapCard, Engine.mapSponsor]

theorem onNamed_cards_named {slot : Nat} (named : b.cardSlot = some slot) :
    (onNamed b fc fs s).engine.cards = (s.engine.mapCard slot fc).cards := by
  cases sponsor : b.sponsor <;> simp [onNamed, named, sponsor, Engine.mapSponsor?, Engine.mapSponsor]

theorem onNamed_cards_unnamed (unnamed : b.cardSlot = none) : (onNamed b fc fs s).engine.cards = s.engine.cards := by
  cases sponsor : b.sponsor <;> simp [onNamed, unnamed, sponsor, Engine.mapSponsor?, Engine.mapSponsor]

theorem onNamed_sponsors : (onNamed b fc fs s).engine.sponsors = (s.engine.mapSponsor? b.sponsor fs).sponsors := by
  cases card : b.cardSlot <;> cases sponsor : b.sponsor <;>
    simp [onNamed, card, sponsor, Engine.mapSponsor?, Engine.mapCard, Engine.mapSponsor, Engine.sponsor]

theorem onNamed_card_named (canonical : s.tablesCanonical) {slot : Nat} (named : b.cardSlot = some slot) :
    (onNamed b fc fs s).engine.card slot = fc (s.engine.card slot) := by
  rw [Engine.card, onNamed_cards_named named]
  exact Engine.card_mapCard_same _ canonical.1 _ _

theorem onNamed_card_other {j : Nat} (other : b.cardSlot ≠ some j) :
    (onNamed b fc fs s).engine.card j = s.engine.card j := by
  rw [Engine.card]
  cases card : b.cardSlot with
  | none => rw [onNamed_cards_unnamed card]; rfl
  | some slot =>
    rw [onNamed_cards_named card]
    exact Engine.card_mapCard_other _ (fun same => other (by rw [card, same])) _

theorem onNamed_sponsor_named (canonical : s.tablesCanonical) {n : Nat} (named : b.sponsor = some n) :
    (onNamed b fc fs s).engine.sponsor n = fs (s.engine.sponsor n) := by
  rw [Engine.sponsor, onNamed_sponsors]
  exact Engine.sponsor_mapSponsor?_named canonical.2.1 named _

theorem onNamed_sponsor_other {n : Nat} (other : b.sponsor ≠ some n) :
    (onNamed b fc fs s).engine.sponsor n = s.engine.sponsor n := by
  rw [Engine.sponsor, onNamed_sponsors]
  exact Engine.sponsor_mapSponsor?_other _ other _

theorem onNamed_tablesCanonical (canonical : s.tablesCanonical) : (onNamed b fc fs s).tablesCanonical := by
  refine ⟨?_, ?_, ?_⟩
  · cases card : b.cardSlot with
    | none => rw [onNamed_cards_unnamed card]; exact canonical.1
    | some slot => rw [onNamed_cards_named card]; exact Table.wf_put _ _ canonical.1
  · rw [onNamed_sponsors]
    exact Engine.wf_mapSponsor? canonical.2.1 _ _
  · rw [onNamed_eq]
    exact canonical.2.2

end

/-! ## A durable record's effect (R9, R60, R77) -/

section
variable {b : RecordBody} {slot : Nat} {s : State}

theorem applyRecord_of_slot (named : b.cardSlot = some slot) :
    applyRecord b s = onNamed b (CardPurse.taking b) (SponsorPurse.taking b) (refresh slot s) := by
  simp only [applyRecord, refreshNamed, named]

theorem applyRecord_eq (named : b.cardSlot = some slot) : applyRecord b s = { s with engine := { s.engine with
    cards := (applyRecord b s).engine.cards, sponsors := (applyRecord b s).engine.sponsors } } := by
  rw [applyRecord_of_slot named, onNamed_eq, refresh_eq]

theorem applyRecord_card_named (canonical : s.tablesCanonical) (named : b.cardSlot = some slot) :
    (applyRecord b s).engine.card slot = ((refresh slot s).engine.card slot).taking b := by
  rw [applyRecord_of_slot named]
  exact onNamed_card_named (refresh_tablesCanonical slot canonical) named

theorem applyRecord_card_other (named : b.cardSlot = some slot) {j : Nat} (other : j ≠ slot) :
    (applyRecord b s).engine.card j = s.engine.card j := by
  rw [applyRecord_of_slot named, onNamed_card_other (by simpa [named] using other.symm)]
  exact refresh_card_other other s

theorem applyRecord_sponsor_named (canonical : s.tablesCanonical) (named : b.cardSlot = some slot) {n : Nat}
    (sponsor : b.sponsor = some n) : (applyRecord b s).engine.sponsor n = (s.engine.sponsor n).taking b := by
  rw [applyRecord_of_slot named, onNamed_sponsor_named (refresh_tablesCanonical slot canonical) sponsor, refresh_sponsor]

theorem applyRecord_sponsor_other (named : b.cardSlot = some slot) {n : Nat} (other : b.sponsor ≠ some n) :
    (applyRecord b s).engine.sponsor n = s.engine.sponsor n := by
  rw [applyRecord_of_slot named, onNamed_sponsor_other other, refresh_sponsor]

end

/-- What a durable REVERSAL gives back to its card: the cash part, and the allowance part where the card takes it back (R77). -/
theorem CardPurse.taking_reversal {slot ap cp q : Nat} {c : CardAfter} {sp : Option SponsorAfter} {back : Bool}
    (p : CardPurse) : p.taking (.reversal slot c sp ap cp q back) =
      { p with
        cashBalance := p.cashBalance + cp,
        allowanceRemaining := if back then p.allowanceRemaining + ap else p.allowanceRemaining,
        spent := if back then p.spent - (ap + cp) else p.spent, pendingRecords := p.pendingRecords - 1 } := by
  cases back <;> rfl

/-! ## The settlement of a hold ends (R33, R59) -/

section
variable {k : Nat} {reason : EndReason} {s : State}

theorem endHold_hold_same (canonical : s.tablesCanonical) :
    (endHold k reason s).engine.hold k = (s.engine.hold k).ended reason := by
  rw [endHold_eq, noticeEnding_engine, reportHolds_engine, State.detach_hold_same canonical]

/-- The lane of a hold that has ended is told the reason (R200 note 1). -/
theorem holdOutcome_endHold (canonical : s.tablesCanonical) :
    holdOutcome ((endHold k reason s).engine.hold k) = endedOutcome reason := by
  rw [endHold_hold_same canonical]
  rfl

theorem holdOutcome_live {h : Hold} (live : h.state = .live) : holdOutcome h = liveOutcome h := if_pos live

theorem settlementEnds_passed (passed : (s.engine.hold k).deadlinePassed = true) :
    settlementEnds k s = endHold k .expired s := if_pos passed

theorem settlementEnds_marked (unpassed : (s.engine.hold k).deadlinePassed = false)
    (marked : (s.engine.hold k).endMark.reason = some reason) : settlementEnds k s = endHold k reason s := by
  simp [settlementEnds, unpassed, marked]

theorem settlementEnds_unmarked (unpassed : (s.engine.hold k).deadlinePassed = false)
    (unmarked : (s.engine.hold k).endMark = .unmarked) :
    settlementEnds k s = s.mapEngine fun e => e.mapHold k fun h => { h with state := .live } := by
  simp [settlementEnds, unpassed, unmarked, EndMark.reason]

theorem settlementEnds_settles (canonical : s.tablesCanonical) :
    Settles k s (settlementEnds k s) (holdOutcome ((settlementEnds k s).engine.hold k)) := by
  rintro h rfl
  refine ⟨fun passed => ?_, fun unpassed lost => ?_, fun unpassed drained => ?_, fun unpassed unmarked => ?_⟩
  · rw [settlementEnds_passed passed]
    exact ⟨rfl, holdOutcome_endHold canonical⟩
  · rw [settlementEnds_marked unpassed (congrArg EndMark.reason lost)]
    exact ⟨rfl, holdOutcome_endHold canonical⟩
  · rw [settlementEnds_marked unpassed (congrArg EndMark.reason drained)]
    exact ⟨rfl, holdOutcome_endHold canonical⟩
  · rw [settlementEnds_unmarked unpassed unmarked]
    have live := Engine.hold_mapHold_same s.engine canonical.2.2 k fun h => { h with state := .live }
    refine ⟨rfl, live, fun j other => Engine.hold_mapHold_other s.engine other _, ?_⟩
    rw [State.mapEngine_engine, live]
    exact holdOutcome_live rfl

end

end Sys2Proof.Machine
end

section
/-! PROOF. The durable event of a REVERSAL record (R77), and the abandoned event of every record a lane waits for (R64, R78, R81,
R90, R92). -/

namespace Sys2Proof.Machine

/-! ## A durable REVERSAL (R77) -/

section
variable {r : Record} {receipt slot ap cp q : Nat} {c : CardAfter} {sp : Option SponsorAfter} {back : Bool}

theorem Totals.add_reversal (body : r.body = .reversal slot c sp ap cp q back) (t : Totals) : t.add r =
    { t with
      reversedCash := min 4294967295 (t.reversedCash + cp),
      reversedAllowance := min 4294967295 (t.reversedAllowance + ap) } := by
  rw [Totals.add, body]
  rfl

/-- The state a durable REVERSAL leaves but for the reply. -/
def State.reversed (r : Record) (receipt : Nat) (s : State) : State :=
  markReversal receipt .done (countRecord r (applyRecord r.body s))

theorem State.reversed_eq (body : r.body = .reversal slot c sp ap cp q back) (s : State) : s.reversed r receipt =
    { s with engine := { s.engine with
      cards := (applyRecord r.body s).engine.cards, sponsors := (applyRecord r.body s).engine.sponsors,
      ring := s.engine.ring.map fun x => if x.receipt = receipt then { x with reversal := .done } else x,
      totals := { s.engine.totals with
        reversedCash := min 4294967295 (s.engine.totals.reversedCash + cp),
        reversedAllowance := min 4294967295 (s.engine.totals.reversedAllowance + ap) } } } := by
  have named : r.body.cardSlot = some slot := by rw [body]; rfl
  rw [State.reversed, applyRecord_eq named, ← Totals.add_reversal body]
  rfl

end

/-- Settles O39: the record's effect on the purses it names by `applyRecord`, the ring and the totals by `State.reversed_eq`. -/
theorem reversalDurableGivesBack : Obligations.reversalDurableGivesBack := by
  unfold Obligations.reversalDurableGivesBack
  rintro s r l receipt slot ap cp q c sp back p hands canonical body rfl
  have named : r.body.cardSlot = some slot := by rw [body]; rfl
  have sponsor : r.body.sponsor = sp.map SponsorAfter.sponsor := by rw [body]; rfl
  have reversed := State.reversed_eq (receipt := receipt) body s.eventTaken
  have fresh : (refresh slot s.eventTaken).engine.card slot = (refresh slot s).engine.card slot :=
    congrArg (Table.get CardPurse.free slot) (refresh_eventTaken_cards slot s)
  refine ⟨(s.eventTaken.reversed r receipt).engine, ?_, ?_, ?_, fun j other => ?_, fun a charged => ?_, fun n other => ?_⟩
  · rw [exec_reversalDurable_of_hands hands body, takeReversalDurable, ← State.reversed, sponsor, Option.isSome_map, reversed]
    rfl
  · rw [reversed]
    rfl
  · rw [← CardPurse.taking_reversal (slot := slot) (c := c) (sp := sp) (q := q), ← body, ← fresh,
      ← applyRecord_card_named (s := s.eventTaken) canonical named, reversed]
    rfl
  · rw [reversed]
    exact applyRecord_card_other (s := s.eventTaken) named other
  · rw [reversed]
    refine (applyRecord_sponsor_named (s := s.eventTaken) canonical named (by rw [sponsor, charged]; rfl)).trans ?_
    rw [body]
    rfl
  · rw [reversed]
    exact applyRecord_sponsor_other (s := s.eventTaken) named (by rwa [sponsor])

/-! ## Abandoned records (R64, R78, R81, R90, R92) -/

section
variable {b : RecordBody} {s : State}

/-- The pending counts of an abandoned record fall away, and nothing else of any purse moves (R64, R78, R81). -/
theorem forgetRecord_purses (canonical : s.tablesCanonical) {slot : Nat} (named : b.cardSlot = some slot) :
    (forgetRecord b s).engine.card slot = (s.engine.card slot).dropPending ∧
      (∀ j, j ≠ slot → (forgetRecord b s).engine.card j = s.engine.card j) ∧
      (∀ n, b.sponsor = some n → (forgetRecord b s).engine.sponsor n = (s.engine.sponsor n).dropPending) ∧
      ∀ n, b.sponsor ≠ some n → (forgetRecord b s).engine.sponsor n = s.engine.sponsor n :=
  ⟨onNamed_card_named canonical named,
    fun _ other => onNamed_card_other (by simpa [named] using other.symm),
    fun _ sponsor => onNamed_sponsor_named canonical sponsor, fun _ other => onNamed_sponsor_other other⟩

theorem forgetRecord_tablesCanonical (canonical : s.tablesCanonical) : (forgetRecord b s).tablesCanonical :=
  onNamed_tablesCanonical canonical

/-- The state an abandoned record of an office operation leaves but for the reply: its pending counts and its reservation gone. -/
def State.dropOffice (b : RecordBody) (s : State) : State := unreserve b (forgetRecord b s)

theorem State.dropOffice_eq (b : RecordBody) (s : State) : s.dropOffice b = { s with engine := { s.engine with
    cards := (s.dropOffice b).engine.cards, sponsors := (s.dropOffice b).engine.sponsors } } := by
  rw [State.dropOffice, unreserve, onNamed_eq, forgetRecord, onNamed_eq]

theorem State.dropOffice_card_named (canonical : s.tablesCanonical) {slot : Nat} (named : b.cardSlot = some slot) :
    (s.dropOffice b).engine.card slot = (s.engine.card slot).dropPending.unreserve b := by
  rw [State.dropOffice, unreserve, onNamed_card_named (forgetRecord_tablesCanonical canonical) named,
    (forgetRecord_purses canonical named).1]

theorem State.dropOffice_card_other {j : Nat} (other : b.cardSlot ≠ some j) :
    (s.dropOffice b).engine.card j = s.engine.card j := by
  rw [State.dropOffice, unreserve, onNamed_card_other other, forgetRecord, onNamed_card_other other]

theorem State.dropOffice_cards_unnamed (unnamed : b.cardSlot = none) : (s.dropOffice b).engine.cards = s.engine.cards := by
  rw [State.dropOffice, unreserve, onNamed_cards_unnamed unnamed, forgetRecord, onNamed_cards_unnamed unnamed]

theorem State.dropOffice_sponsor_named (canonical : s.tablesCanonical) {n : Nat} (named : b.sponsor = some n) :
    (s.dropOffice b).engine.sponsor n = (s.engine.sponsor n).dropPending := by
  rw [State.dropOffice, unreserve, onNamed_sponsor_named (forgetRecord_tablesCanonical canonical) named, forgetRecord,
    onNamed_sponsor_named canonical named]
  rfl

theorem State.dropOffice_sponsor_other {n : Nat} (other : b.sponsor ≠ some n) :
    (s.dropOffice b).engine.sponsor n = s.engine.sponsor n := by
  rw [State.dropOffice, unreserve, onNamed_sponsor_other other, forgetRecord, onNamed_sponsor_other other]

theorem State.dropOffice_sponsors_unnamed (unnamed : b.sponsor = none) :
    (s.dropOffice b).engine.sponsors = s.engine.sponsors := by
  rw [State.dropOffice, unreserve, onNamed_sponsors, unnamed]
  exact onNamed_sponsors.trans (by rw [unnamed]; rfl)

end

/-- The office records of a card name its slot and no sponsor. -/
theorem RecordBody.names_of_cardOffice {b : RecordBody} {slot amount : Nat} {c : CardAfter} {kind : StateKind}
    (office : b = .topUp slot c amount ∨ b = .withdraw slot c amount ∨ b = .change kind slot c) :
    b.isOffice = true ∧ b.cardSlot = some slot ∧ b.sponsor = none := by
  obtain rfl | rfl | rfl := office <;> exact ⟨rfl, rfl, rfl⟩

/-- Of the state changes only a queued CLOSE_PURSE reserves the purse (R85). -/
theorem CardPurse.unreserve_change {kind : StateKind} (other : kind ≠ .closePurse) (slot : Nat) (c : CardAfter)
    (p : CardPurse) : p.unreserve (.change kind slot c) = p := by
  cases kind with
  | closePurse => exact absurd rfl other
  | openPurse | block | unblock => rfl

section
variable {s : State} {r : Record} {l : Lane} {slot : Nat}

/-- An abandoned CAPTURE gives its pending counts back, and the settlement of its hold ends by the marks (R59, R64). -/
theorem capture_abandoned {handle ap cp : Nat} {final : Bool} {c : CardAfter} {sp : Option SponsorAfter}
    (canonical : s.tablesCanonical) (hands : s.Hands (.abandoned r (.capture l handle final)))
    (body : r.body = .capture slot c sp ap cp) :
    ∃ (u v : State) (outcome : List Byte),
      exec (.captureAbandoned r.sequence) s = .next (fillReply l .storeFault outcome v) ∧
      Settles (handle % 512) u v outcome ∧
      u = { s with engine := { s.eventTaken.engine with cards := u.engine.cards, sponsors := u.engine.sponsors } } ∧
      u.engine.card slot = (s.engine.card slot).dropPending ∧ (∀ j, j ≠ slot → u.engine.card j = s.engine.card j) ∧
      (∀ a, sp = some a → u.engine.sponsor a.sponsor = (s.engine.sponsor a.sponsor).dropPending) ∧
      (∀ n, sp.map SponsorAfter.sponsor ≠ some n → u.engine.sponsor n = s.engine.sponsor n) := by
  have named : r.body.cardSlot = some slot := by rw [body]; rfl
  have sponsor : r.body.sponsor = sp.map SponsorAfter.sponsor := by rw [body]; rfl
  obtain ⟨card, cards, charged, sponsors⟩ := forgetRecord_purses (s := s.eventTaken) canonical named
  exact ⟨forgetRecord r.body s.eventTaken, _, _, exec_captureAbandoned_of_hands hands,
    settlementEnds_settles (forgetRecord_tablesCanonical (s := s.eventTaken) canonical), onNamed_eq _ _ _ s.eventTaken, card,
    cards, fun a names => charged a.sponsor (by rw [sponsor, names]; rfl), fun n other => sponsors n (by rwa [sponsor])⟩

/-- An abandoned REVERSAL gives its pending counts back, and its ring entry may be reversed again (R78). -/
theorem reversal_abandoned {receipt ap cp q : Nat} {back : Bool} {c : CardAfter} {sp : Option SponsorAfter}
    (canonical : s.tablesCanonical) (hands : s.Hands (.abandoned r (.reversal l receipt)))
    (body : r.body = .reversal slot c sp ap cp q back) :
    ∃ e : Engine, exec (.reversalAbandoned r.sequence) s = .next (fillReply l .storeFault [] { s with engine := e }) ∧
      e = { s.eventTaken.engine with
        cards := e.cards, sponsors := e.sponsors,
        ring := s.engine.ring.map fun y => if y.receipt = receipt then { y with reversal := .notReversed } else y } ∧
      e.card slot = (s.engine.card slot).dropPending ∧ (∀ j, j ≠ slot → e.card j = s.engine.card j) ∧
      (∀ a, sp = some a → e.sponsor a.sponsor = (s.engine.sponsor a.sponsor).dropPending) ∧
      (∀ n, sp.map SponsorAfter.sponsor ≠ some n → e.sponsor n = s.engine.sponsor n) := by
  have named : r.body.cardSlot = some slot := by rw [body]; rfl
  have sponsor : r.body.sponsor = sp.map SponsorAfter.sponsor := by rw [body]; rfl
  have forgotten := onNamed_eq r.body CardPurse.dropPending SponsorPurse.dropPending s.eventTaken
  obtain ⟨card, cards, charged, sponsors⟩ := forgetRecord_purses (s := s.eventTaken) canonical named
  refine ⟨(markReversal receipt .notReversed (forgetRecord r.body s.eventTaken)).engine, ?_, ?_, card, cards,
    fun a names => charged a.sponsor (by rw [sponsor, names]; rfl), fun n other => sponsors n (by rwa [sponsor])⟩
  · rw [exec_reversalAbandoned_of_hands hands, takeReversalAbandoned, forgetRecord, forgotten]
    rfl
  · rw [forgetRecord, forgotten]
    rfl

/-- An abandoned record of an office operation is answered STORE_FAULT once it is dropped (R81). -/
theorem officeRecord_abandoned (hands : s.Hands (.abandoned r (.request l))) (office : r.body.isOffice = true) :
    exec (.officeRecordAbandoned r.sequence) s =
      .next (fillReply l .storeFault [] { s with engine := (s.eventTaken.dropOffice r.body).engine }) := by
  rw [exec_officeRecordAbandoned_of_hands hands office, takeOfficeAbandoned, ← State.dropOffice, State.dropOffice_eq]
  rfl

end

/-- Settles O40: one lemma for each owner of a record; an office record by its body, which names a card or a sponsor. -/
theorem recordsAbandoned : Obligations.recordsAbandoned := by
  unfold Obligations.recordsAbandoned
  rintro s r l slot dropped e0 canonical drops rfl
  obtain rfl : dropped = CardPurse.dropPending := funext drops
  refine ⟨fun handle final c sp ap cp => capture_abandoned canonical,
    fun receipt c sp ap cp q back => reversal_abandoned canonical, fun c amount kind hands office => ?_,
    fun a amount hands body => ?_⟩
  · obtain ⟨is_office, named, unsponsored⟩ := RecordBody.names_of_cardOffice office
    have card := State.dropOffice_card_named (s := s.eventTaken) canonical named
    refine ⟨(s.eventTaken.dropOffice r.body).engine, officeRecord_abandoned hands is_office, ?_,
      fun j other => State.dropOffice_card_other (by simpa [named] using other.symm),
      fun body => card.trans (by rw [body]; rfl), fun body => card.trans (by rw [body]; rfl),
      fun body => card.trans (by rw [body]; rfl),
      fun body other => card.trans (by rw [body]; exact CardPurse.unreserve_change other _ _ _)⟩
    rw [State.dropOffice_eq, State.dropOffice_sponsors_unnamed unsponsored]
    rfl
  · have named : r.body.sponsor = some a.sponsor := by rw [body]; rfl
    refine ⟨(s.eventTaken.dropOffice r.body).engine, officeRecord_abandoned hands (by rw [body]; rfl), ?_,
      State.dropOffice_sponsor_named (s := s.eventTaken) canonical named,
      fun n other => State.dropOffice_sponsor_other (by simpa [named] using other.symm)⟩
    rw [State.dropOffice_eq, State.dropOffice_cards_unnamed (by rw [body]; rfl)]
    rfl

end Sys2Proof.Machine
end

section
/-! PROOF. How a close ends (R117, R118): the engine's part at the record's durable or abandoned event, then Period Control's. -/

namespace Sys2Proof.Machine

theorem exec_periodCloseDurable (sequence : Nat) (s : State) :
    exec (.periodCloseDurable sequence) s = execPeriodCloseDurable sequence s := rfl

theorem exec_periodCloseAbandoned (sequence : Nat) (s : State) :
    exec (.periodCloseAbandoned sequence) s = execPeriodCloseAbandoned sequence s := rfl

theorem exec_periodAdvance (s : State) : exec .periodAdvance s = execPeriodAdvance s := rfl

theorem exec_closeFailed (s : State) : exec .closeFailed s = execCloseFailed s := rfl

/-! ## The engine's part -/

section
variable {r : Record} {s : State}

theorem takeCloseEvent_of_hands {wanted : JournalEvent → Option Record} {act : State → State} {x : JournalEvent}
    (hands : s.Hands x) (wants : wanted x = some r) :
    takeCloseEvent wanted r.sequence act s = .next (act s.eventTaken) := by
  obtain ⟨released, oldest⟩ := hands
  obtain ⟨rest, events⟩ := List.head?_eq_some_iff.mp oldest
  simp only [takeCloseEvent, event_of_released released, events, wants, if_true, State.eventTaken, List.tail_cons]
  rfl

theorem exec_periodCloseDurable_of_hands (hands : s.Hands (.durable r .periodControl)) :
    exec (.periodCloseDurable r.sequence) s = .next (closeTotals s.eventTaken) :=
  (exec_periodCloseDurable _ _).trans (takeCloseEvent_of_hands hands rfl)

theorem exec_periodCloseAbandoned_of_hands (hands : s.Hands (.abandoned r .periodControl)) :
    exec (.periodCloseAbandoned r.sequence) s =
      .next (s.eventTaken.mapPeriod fun p => { p with closeEnd := some .abandoned }) :=
  (exec_periodCloseAbandoned _ _).trans (takeCloseEvent_of_hands hands rfl)

/-! ## Period Control's part -/

theorem exec_periodAdvance_of_durable (released : s.restore.inReset = false) (ended : s.period.closeEnd = some .durable) :
    exec .periodAdvance s = .next (advancePeriod s) := by
  rw [exec_periodAdvance, execPeriodAdvance, event_of_released released, if_pos ended]

theorem exec_closeFailed_of_abandoned (released : s.restore.inReset = false)
    (ended : s.period.closeEnd = some .abandoned) :
    exec .closeFailed s = .next (closeFails (s.mapPeriod fun p => { p with closeEnd := none })) := by
  rw [exec_closeFailed, execCloseFailed, event_of_released released, if_pos ended]

end

/-- Settles O47: a PERIOD_CLOSE record durable or abandoned, each taken by the engine and then by Period Control. -/
theorem closeEnds : Obligations.closeEnds := by
  unfold Obligations.closeEnds
  intro s r
  refine ⟨fun durable => ?engineDurable, fun abandoned => ?engineAbandoned, fun released ended => ?advances,
    fun released ended => ?fails⟩
  case engineDurable => exact exec_periodCloseDurable_of_hands durable
  case engineAbandoned => exact exec_periodCloseAbandoned_of_hands abandoned
  case advances => exact exec_periodAdvance_of_durable released ended
  case fails => exact exec_closeFailed_of_abandoned released ended

end Sys2Proof.Machine
end

section
/-! PROOF. Notices placed and flags raised (R169, R170, R175, R176): what a placement leaves of a queue, by its length and what it
holds, and what raising a flag leaves of the ten flags and of the lanes' queues. -/

namespace Sys2Proof.Machine

/-! ## A placement on a queue (R169, R170) -/

section
variable {n : Notice} {q : NoticeLane}

theorem NoticeLane.place_of_room (room : q.queue.length < 8) :
    q.place n = { q with queue := q.queue ++ [n], attention := true } := if_pos room

theorem NoticeLane.place_full_dropped (full : q.queue.length = 8) (other : n.isLaneLost = false) :
    q.place n = { q with lost := true } := by
  simp [NoticeLane.place, full, other]

theorem NoticeLane.place_full_forced (full : q.queue.length = 8) (lost : n.isLaneLost = true) :
    q.place n = { q with queue := forcedInsertion q.queue n, lost := true } := by
  simp [NoticeLane.place, full, lost]

end

theorem forcedInsertion_of_all {queue : List Notice} (all : queue.all Notice.isLaneLost = true) (n : Notice) :
    forcedInsertion queue n = queue.tail ++ [n] := if_pos all

/-- Searched from its newest end, the queue gives up the first notice that is no LANE_LOST (R170). -/
theorem forcedInsertion_of_newest {front back : List Notice} {x : Notice} (other : x.isLaneLost = false)
    (newer : back.all Notice.isLaneLost = true) (n : Notice) :
    forcedInsertion (front ++ x :: back) n = front ++ back ++ [n] := by
  have mixed : ¬ (front ++ x :: back).all Notice.isLaneLost = true := by simp [other]
  have passed : ∀ m ∈ back.reverse, ¬ (!m.isLaneLost) = true := by simpa using newer
  have reversed : (front ++ x :: back).reverse = back.reverse ++ x :: front.reverse := by simp
  rw [forcedInsertion, if_neg mixed, reversed, List.eraseP_append_right _ passed, List.eraseP_cons_of_pos (by simp [other])]
  simp

/-! ## A flag raised (R175, R176) -/

theorem classIndex_injective : Function.Injective classIndex :=
  Function.LeftInverse.injective (g := fun k : Fin 10 => EventClass.ofNat k.val) fun c => by cases c <;> rfl

theorem flagBit_eq_twoPow (c : EventClass) : flagBit c = BitVec.twoPow 10 (classIndex c).val := by
  cases c <;> rfl

/-- Setting the flag of one class leaves the flag of every other as it is. -/
theorem NoticeUnit.flag_or_flagBit {c d : EventClass} (other : d ≠ c) {n m : NoticeUnit}
    (flags : m.flags = n.flags ||| flagBit c) : m.flag d = n.flag d := by
  have apart : (classIndex d).val ≠ (classIndex c).val := fun same => other (classIndex_injective (Fin.ext same))
  simp [NoticeUnit.flag, flags, flagBit_eq_twoPow, apart]

theorem State.tells_flags (s : State) (l : Lane) (x : Notice) (n : NoticeUnit) : (s.tells l x n).flags = n.flags := by
  unfold State.tells
  split <;> rfl

theorem State.tells_routes (s : State) (l : Lane) (x : Notice) (n : NoticeUnit) : (s.tells l x n).routes = n.routes := by
  unfold State.tells
  split <;> rfl

section
variable {c : EventClass} {s : State}

theorem raiseFlag_of_set (raised : s.notices.flag c = true) : raiseFlag c s = s := if_pos raised

theorem raiseFlag_flags_of_clear (clear : s.notices.flag c ≠ true) :
    (raiseFlag c s).notices.flags = s.notices.flags ||| flagBit c := by
  cases route : s.notices.routes[classIndex c] with
  | none => rw [raiseFlag_notices_unrouted clear route]
  | some l => rw [raiseFlag_notices_routed clear route, State.tells_flags]

theorem raiseFlag_flag_other {d : EventClass} (other : d ≠ c) : (raiseFlag c s).notices.flag d = s.notices.flag d := by
  by_cases raised : s.notices.flag c = true
  · rw [raiseFlag_of_set raised]
  · exact NoticeUnit.flag_or_flagBit other (raiseFlag_flags_of_clear raised)

theorem raiseFlag_routes : (raiseFlag c s).notices.routes = s.notices.routes := by
  by_cases raised : s.notices.flag c = true
  · rw [raiseFlag_of_set raised]
  · cases route : s.notices.routes[classIndex c] with
    | none => rw [raiseFlag_notices_unrouted raised route]
    | some l => rw [raiseFlag_notices_routed raised route, State.tells_routes]

/-- Raising a flag changes the flags and the lanes' queues alone. -/
theorem raiseFlag_eq : raiseFlag c s = { s with notices := { s.notices with
    flags := (raiseFlag c s).notices.flags, lanes := (raiseFlag c s).notices.lanes } } := by
  have blocks := State.eq_of_otherBlocks (raiseFlag_arbiter c s) (raiseFlag_config c s) (raiseFlag_restore c s)
    (raiseFlag_memory c s) (raiseFlag_pending c s)
  rw [raiseFlag_engine, raiseFlag_deadlines, raiseFlag_period, raiseFlag_journal, raiseFlag_lanes] at blocks
  exact blocks.trans (congrArg (fun routes => { s with notices :=
    ⟨(raiseFlag c s).notices.lanes, (raiseFlag c s).notices.flags, routes⟩ }) raiseFlag_routes)

theorem raiseFlag_queues_unrouted (clear : s.notices.flag c = false) (route : s.notices.routes[classIndex c] = none) :
    (raiseFlag c s).notices.lanes = s.notices.lanes := by
  rw [raiseFlag_notices_unrouted (by simp [clear]) route]

theorem raiseFlag_queues_routed (l : Lane) (clear : s.notices.flag c = false)
    (route : s.notices.routes[classIndex c] = some l) : (raiseFlag c s).notices.lanes =
      if s.role l = .off then s.notices.lanes
      else s.notices.lanes.set l (s.notices.lanes[l].place (.event c s.now)) := by
  rw [raiseFlag_notices_routed (by simp [clear]) route, State.tells]
  split <;> rfl

end

/-- Settles O22: a flag by whether it is set and routed, a queue by whether it is full and what it holds. -/
theorem noticesPlaced : Obligations.noticesPlaced := by
  unfold Obligations.noticesPlaced
  refine ⟨fun c s => ⟨raiseFlag_of_set, raiseFlag_flag c s, fun d => raiseFlag_flag_other, raiseFlag_eq,
    raiseFlag_queues_unrouted, raiseFlag_queues_routed⟩, fun n q => ⟨NoticeLane.place_of_room,
    NoticeLane.place_full_dropped, fun full lost => ⟨fun all => ?allLost, fun front x back queue other newer => ?newest⟩⟩⟩
  case allLost => rw [NoticeLane.place_full_forced full lost, forcedInsertion_of_all all]
  case newest => rw [NoticeLane.place_full_forced full lost, queue, forcedInsertion_of_newest other newer]

end Sys2Proof.Machine
end

section
/-! PROOF. POLL_NOTICE (R172, R173, R200): the head notice answered and removed, and the LOST lane whose last LANE_LOST notice goes. -/

namespace Sys2Proof.Machine

theorem exec_pollNotice (l : Lane) (s : State) : exec (.pollNotice l) s = execPollNotice l s := rfl

theorem request_of_asks {c : Instr} {owner : State → State} {s : State} (h : s.Asks c) :
    request c owner s = .next (owner s.taken) := takeRequest_of_asks h

theorem NoticeLane.removesLastLoss_iff (q : NoticeLane) : q.removesLastLoss = true ↔
    (∃ count tick, q.queue.head? = some (.laneLost count tick)) ∧ q.queue.tail.any Notice.isLaneLost = false := by
  unfold NoticeLane.removesLastLoss
  cases q.queue with
  | nil => simp
  | cons n rest => cases n <;> simp [Notice.isLaneLost]

theorem LaneUnit.lossCollected_of_lost {now : Tick} {u : LaneUnit} (lost : u.state = .lost ∧ u.noticeAwaited = false) :
    u.lossCollected now = { u with state := .active, silence := startSilence now u.settings } := if_pos lost

theorem LaneUnit.lossCollected_of_other {now : Tick} {u : LaneUnit} (other : ¬ (u.state = .lost ∧ u.noticeAwaited = false)) :
    u.lossCollected now = u := if_neg other

/-- The lane's unit after POLL_NOTICE, its reply still to come (R164, R173). -/
def LaneUnit.polled (now : Tick) (q : NoticeLane) (u : LaneUnit) : LaneUnit :=
  if q.removesLastLoss then u.lossCollected now else u

theorem noticesPoll_eq (l : Lane) (s : State) : noticesPoll l s = fillReply l .ok (pollBody s.notices.lanes[l])
    { s with
      lanes := s.lanes.set l (s.lanes[l].polled s.now s.notices.lanes[l]),
      notices := { s.notices with lanes := s.notices.lanes.set l s.notices.lanes[l].polled } } := by
  unfold noticesPoll LaneUnit.polled
  dsimp only
  split
  · rfl
  · simp only [Fin.getElem_fin, Vector.set_getElem_self]
    rfl

/-- Settles O21: the reply and the queue by `noticesPoll_eq`, the lane by whether its last LANE_LOST notice goes. -/
theorem pollNoticeReturnsHead : Obligations.pollNoticeReturnsHead := by
  unfold Obligations.pollNoticeReturnsHead
  refine ⟨?polls, rfl, fun _ _ _ => rfl, fun _ _ _ => rfl, fun _ _ _ => rfl, fun _ _ => rfl, fun _ _ => rfl⟩
  rintro l s u q back asks rfl rfl back_iff
  rw [← and_assoc, ← NoticeLane.removesLastLoss_iff] at back_iff
  refine ⟨s.lanes[l].polled s.now s.notices.lanes[l], ?answered, fun returns => ?returns, fun stays => ?stays⟩
  case answered =>
    rw [exec_pollNotice, execPollNotice, request_of_asks asks, noticesPoll_eq]
    rfl
  case returns =>
    obtain ⟨last, lost⟩ := back_iff.mp returns
    rw [LaneUnit.polled, if_pos last, LaneUnit.lossCollected_of_lost lost]
  case stays =>
    unfold LaneUnit.polled
    split
    next last => exact LaneUnit.lossCollected_of_other fun lost => stays (back_iff.mpr ⟨last, lost⟩)
    next => rfl

end Sys2Proof.Machine
end

section
/-! PROOF. The law of R171 on the queues of the Notice Unit, and the operations that place notices or raise flags: each keeps every
queue within it. -/

namespace Sys2Proof.Machine

/-! ## The law on one queue and on all -/

/-- The queue holds at most 8 notices, and the attention output is asserted exactly while it holds one (R171). -/
def NoticeLane.Lawful (q : NoticeLane) : Prop := q.queue.length ≤ 8 ∧ q.attention = !q.queue.isEmpty

def NoticeUnit.Lawful (n : NoticeUnit) : Prop := ∀ l : Lane, n.lanes[l].Lawful

theorem State.noticeLaw_of_lawful {s : State} (lawful : s.notices.Lawful) : s.noticeLaw :=
  fun l => ⟨(lawful l).1, fun _ => (lawful l).2⟩

theorem State.lawful_of_noticeLaw {s : State} (released : s.restore.inReset = false) (law : s.noticeLaw) :
    s.notices.Lawful := fun l => ⟨(law l).1, (law l).2 released⟩

/-- The flags and the routes have no part in the law. -/
theorem NoticeUnit.Lawful.of_lanes {n m : NoticeUnit} (lawful : n.Lawful) (lanes : m.lanes = n.lanes) : m.Lawful := by
  unfold NoticeUnit.Lawful
  rw [lanes]
  exact lawful

theorem NoticeUnit.Lawful.set {n : NoticeUnit} (lawful : n.Lawful) (l : Lane) {q : NoticeLane} (queue : q.Lawful) :
    NoticeUnit.Lawful { n with lanes := n.lanes.set l q } := by
  intro k
  by_cases same : k = l
  · subst same
    simpa using queue
  · have apart : l.val ≠ k.val := fun e => same (Fin.ext e.symm)
    simpa [apart] using lawful k

theorem NoticeLane.place_lawful (n : Notice) {q : NoticeLane} (lawful : q.Lawful) : (q.place n).Lawful :=
  NoticeLane.place_law n q lawful.1 lawful.2

theorem NoticeLane.polled_lawful {q : NoticeLane} (lawful : q.Lawful) : q.polled.Lawful := by
  obtain ⟨short, _⟩ := lawful
  refine ⟨?_, rfl⟩
  simp only [NoticeLane.polled, List.length_tail]
  omega

theorem NoticeLane.emptied_lawful (q : NoticeLane) : q.emptied.Lawful := ⟨Nat.zero_le 8, rfl⟩

/-! ## Operations that place notices or raise flags -/

section
variable {s : State}

theorem mapNoticeLane_lawful (l : Lane) {f : NoticeLane → NoticeLane} (keeps : ∀ q, q.Lawful → (f q).Lawful)
    (lawful : s.notices.Lawful) : (s.mapNoticeLane l f).notices.Lawful := lawful.set l (keeps _ (lawful l))

theorem State.tells_lawful (l : Lane) (x : Notice) {n : NoticeUnit} (lawful : n.Lawful) : (s.tells l x n).Lawful := by
  unfold State.tells
  split
  · exact lawful
  · exact lawful.set l (NoticeLane.place_lawful x (lawful l))

theorem placeNotice_lawful (l : Lane) (x : Notice) (lawful : s.notices.Lawful) :
    (placeNotice l x s).notices.Lawful := by
  rw [placeNotice_notices]
  exact State.tells_lawful l x lawful

theorem raiseFlag_lawful (c : EventClass) (lawful : s.notices.Lawful) : (raiseFlag c s).notices.Lawful := by
  by_cases raised : s.notices.flag c = true
  · rwa [raiseFlag_of_set raised]
  · cases route : s.notices.routes[classIndex c] with
    | none =>
      rw [raiseFlag_notices_unrouted raised route]
      exact lawful
    | some l =>
      rw [raiseFlag_notices_routed raised route]
      exact State.tells_lawful l _ lawful

theorem closeFails_lawful (lawful : s.notices.Lawful) : (closeFails s).notices.Lawful := raiseFlag_lawful _ lawful

theorem completeDrain_lawful (lawful : s.notices.Lawful) : (completeDrain s).notices.Lawful := by
  unfold completeDrain
  dsimp only
  split
  · exact lawful
  · exact closeFails_lawful lawful

theorem reportHolds_lawful (lawful : s.notices.Lawful) : (reportHolds s).notices.Lawful := by
  unfold reportHolds
  dsimp only
  split
  · exact completeDrain_lawful lawful
  · exact lawful

theorem detachHold_refresh_lawful (k slot : Nat) (reason : EndReason) (lawful : s.notices.Lawful) :
    (detachHold k reason (refresh slot s)).notices.Lawful := by
  rwa [detachHold_notices, refresh_notices]

theorem noticeEnding_lawful (k : Nat) (reason : EndReason) (lawful : s.notices.Lawful) :
    (noticeEnding k reason s).notices.Lawful := by
  unfold noticeEnding
  dsimp only
  split
  · exact placeNotice_lawful _ _ lawful
  · exact lawful

theorem endHoldQuietly_lawful (k : Nat) (reason : EndReason) (lawful : s.notices.Lawful) :
    (endHoldQuietly k reason s).notices.Lawful := noticeEnding_lawful _ _ (detachHold_refresh_lawful _ _ _ lawful)

theorem endHold_lawful (k : Nat) (reason : EndReason) (lawful : s.notices.Lawful) :
    (endHold k reason s).notices.Lawful :=
  noticeEnding_lawful _ _ (reportHolds_lawful (detachHold_refresh_lawful _ _ _ lawful))

theorem settlementEnds_lawful (k : Nat) (lawful : s.notices.Lawful) : (settlementEnds k s).notices.Lawful := by
  unfold settlementEnds
  dsimp only
  split
  · exact endHold_lawful _ _ lawful
  · split
    · exact endHold_lawful _ _ lawful
    · exact lawful

theorem enterFault_lawful (voidAt : Option Nat) (lawful : s.notices.Lawful) : (enterFault voidAt s).notices.Lawful := by
  simp only [enterFault, fillAll_notices, State.mapJournal_notices, State.mapEngine_notices]
  exact raiseFlag_lawful _ lawful

end

/-! ## The law after a command's answer -/

/-- The operation keeps every queue within the law of R171. -/
def KeepsNotices (f : State → State) : Prop := ∀ s, s.notices.Lawful → (f s).notices.Lawful

/-- An operation that leaves the Notice Unit alone keeps the law. -/
theorem KeepsNotices.of_frame {f : State → State} (frame : ∀ s, (f s).notices = s.notices) : KeepsNotices f :=
  fun s lawful => (frame s).symm ▸ lawful

/-- The law of R171 holds in the state an answer gives, if it gives one. -/
def NoticeLawAfter (a : Answer) : Prop := ∀ t, a = .next t → t.noticeLaw

theorem noticeLawAfter_next {t : State} (lawful : t.notices.Lawful) : NoticeLawAfter (.next t) := by
  rintro _ ⟨⟩
  exact State.noticeLaw_of_lawful lawful

section
variable {s : State} (law : s.noticeLaw)
include law

/-- While a pin reset holds the part nothing moves; outside it the law holds of every queue. -/
theorem running_keeps_noticeLaw {f : State → Answer} (keeps : s.notices.Lawful → NoticeLawAfter (f s)) :
    NoticeLawAfter (running f s) := by
  unfold running
  split
  next =>
    rintro _ ⟨⟩
    exact law
  next released => exact keeps (State.lawful_of_noticeLaw (by simpa using released) law)

theorem event_keeps_noticeLaw {f : State → State} (keeps : KeepsNotices f) : NoticeLawAfter (event f s) :=
  running_keeps_noticeLaw law fun lawful => noticeLawAfter_next (keeps s lawful)

theorem takeRequest_keeps_noticeLaw {c : Instr} {owner : State → Answer}
    (keeps : ∀ s : State, s.notices.Lawful → NoticeLawAfter (owner s)) : NoticeLawAfter (takeRequest c owner s) := by
  refine running_keeps_noticeLaw law fun lawful => ?_
  split
  · exact keeps _ lawful
  · exact noticeLawAfter_next lawful

theorem request_keeps_noticeLaw {c : Instr} {owner : State → State} (keeps : KeepsNotices owner) :
    NoticeLawAfter (request c owner s) :=
  takeRequest_keeps_noticeLaw law fun s lawful => noticeLawAfter_next (keeps s lawful)

theorem readyRequest_keeps_noticeLaw {c : Instr} {l : Lane} {owner : State → State} (keeps : KeepsNotices owner) :
    NoticeLawAfter (readyRequest c l owner s) := by
  refine request_keeps_noticeLaw law fun s lawful => ?_
  split
  · exact keeps s lawful
  · exact lawful

theorem lockedRequest_keeps_noticeLaw {c : Instr} {l : Lane} {owner : State → State} (keeps : KeepsNotices owner) :
    NoticeLawAfter (lockedRequest c l owner s) := by
  refine readyRequest_keeps_noticeLaw law fun s lawful => ?_
  split
  · exact lawful
  · exact keeps s lawful

theorem officeRequest_keeps_noticeLaw {c : Instr} {l : Lane} {own : State → State} (keeps : KeepsNotices own) :
    NoticeLawAfter (officeRequest c l own s) := by
  refine readyRequest_keeps_noticeLaw law fun s lawful => ?_
  split
  · exact lawful
  · exact keeps s lawful

theorem takeJournalEvent_keeps_noticeLaw {act : JournalEvent → Option (State → State)}
    (keeps : ∀ x f, act x = some f → KeepsNotices f) : NoticeLawAfter (takeJournalEvent act s) := by
  refine event_keeps_noticeLaw law fun s lawful => ?_
  split
  · split
    next acts => exact keeps _ _ acts _ lawful
    next => exact lawful
  · exact lawful

theorem takeCloseEvent_keeps_noticeLaw {wanted : JournalEvent → Option Record} {sequence : Nat} {act : State → State}
    (keeps : KeepsNotices act) : NoticeLawAfter (takeCloseEvent wanted sequence act s) := by
  refine event_keeps_noticeLaw law fun s lawful => ?_
  split
  · split
    · split
      · exact keeps _ lawful
      · exact lawful
    · exact lawful
  · exact lawful

end

end Sys2Proof.Machine
end

section
/-! PROOF. The commands that leave the Notice Unit alone, in the order of the model's chapters: what their owners do is answered to a
lane, to the engine, to the journal or to the store port, and to no notice queue. -/

namespace Sys2Proof.Machine

variable (s : State)

/-! ## The store port and the journal (chapter 6) -/

@[simp] theorem nextImage_notices (r : Record) (slots : List Nat) : (nextImage r slots s).notices = s.notices := by
  cases slots <;> rfl

@[simp] theorem answerSyncs_notices : (answerSyncs s).notices = s.notices := by simp [answerSyncs]

@[simp] theorem recordDurable_notices (r : Record) : (recordDurable r s).notices = s.notices := by simp [recordDurable]

@[simp] theorem endRetry_notices (r : Result) : (endRetry r s).notices = s.notices := by simp [endRetry]

@[simp] theorem journalSync_notices (l : Lane) : (journalSync l s).notices = s.notices := by
  unfold journalSync
  dsimp only
  split <;> rfl

@[simp] theorem journalReadJournal_notices (l : Lane) (sequence : Nat) :
    (journalReadJournal l sequence s).notices = s.notices := by
  unfold journalReadJournal
  split <;> rfl

@[simp] theorem judgeRead_notices (l : Lane) (sequence readsDone : Nat) (voided : Bool) (unit : List Byte) :
    (judgeRead l sequence readsDone voided unit s).notices = s.notices := by
  unfold judgeRead
  split
  · split <;> rfl
  · split
    · rfl
    · split <;> rfl

@[simp] theorem journalRetryStore_notices (l : Lane) : (journalRetryStore l s).notices = s.notices := by
  unfold journalRetryStore
  split
  · rfl
  · split <;> rfl

@[simp] theorem grantWaitingRead_notices : (grantWaitingRead s).notices = s.notices := by
  unfold grantWaitingRead
  split <;> rfl

@[simp] theorem grantOk_notices : (grantOk s).notices = s.notices := by
  unfold grantOk
  split
  · simp
  · split
    · rfl
    · split
      · rfl
      · split
        · rfl
        · simp

@[simp] theorem grantFault_notices : (grantFault s).notices = s.notices := by
  unfold grantFault
  split
  · rfl
  · simp

@[simp] theorem grantPort_notices : (grantPort s).notices = s.notices := by
  unfold grantPort
  split
  · split <;> simp
  · split <;> rfl
  · rfl
  · rfl
  · rfl

/-! ## Purses, captures and office operations (chapters 1, 3 and 4) -/

@[simp] theorem engineBalance_notices (l : Lane) (card : Nat) : (engineBalance l card s).notices = s.notices := by
  unfold engineBalance
  split <;> simp

@[simp] theorem engineReadPurse_notices (l : Lane) (slot : Nat) : (engineReadPurse l slot s).notices = s.notices := by
  unfold engineReadPurse
  split
  · simp
  · split <;> simp

@[simp] theorem writeRange_notices (l : Lane) (k : Fin 8) (x : RangeEntry) : (writeRange l k x s).notices = s.notices := by
  unfold writeRange
  dsimp only
  repeat' split
  all_goals rfl

@[simp] theorem engineSetRange_notices (l : Lane) (entry enabled firstCard slotEnd grant sponsor limit : Nat) :
    (engineSetRange l entry enabled firstCard slotEnd grant sponsor limit s).notices = s.notices := by
  unfold engineSetRange
  split <;> simp

@[simp] theorem engineSetSponsorCount_notices (l : Lane) (count : Nat) :
    (engineSetSponsorCount l count s).notices = s.notices := by
  unfold engineSetSponsorCount
  repeat' split
  all_goals rfl

@[simp] theorem acceptCapture_notices (l : Lane) (handle amount : Nat) (final : Bool) :
    (acceptCapture l handle amount final s).notices = s.notices := by simp [acceptCapture]

@[simp] theorem captureOnHold_notices (l : Lane) (handle amount : Nat) (final : Bool) :
    (captureOnHold l handle amount final s).notices = s.notices := by
  unfold captureOnHold
  dsimp only
  repeat' split
  all_goals simp

@[simp] theorem engineCapture_notices (l : Lane) (handle amount final : Nat) :
    (engineCapture l handle amount final s).notices = s.notices := by
  unfold engineCapture
  repeat' split
  all_goals simp

@[simp] theorem acceptReverse_notices (l : Lane) (x : RingEntry) (sponsor : Option Nat) :
    (acceptReverse l x sponsor s).notices = s.notices := by
  unfold acceptReverse
  dsimp only
  repeat' split
  all_goals simp [markReversal]

@[simp] theorem reverseEntry_notices (l : Lane) (x : RingEntry) : (reverseEntry l x s).notices = s.notices := by
  unfold reverseEntry
  repeat' split
  all_goals simp

@[simp] theorem engineReverse_notices (l : Lane) (receipt : Nat) : (engineReverse l receipt s).notices = s.notices := by
  unfold engineReverse
  repeat' split
  all_goals simp

/-- The record queued and its refusal keep the Notice Unit where the reservation does. -/
theorem acceptOffice_notices (l : Lane) (body : State → RecordBody) {reserve : State → State}
    (frame : ∀ t, (reserve t).notices = t.notices) : (acceptOffice l body reserve s).notices = s.notices := by
  unfold acceptOffice
  split
  · exact frame s
  · rfl

/-- What runs on the slot found keeps the Notice Unit, and so do the refusals before it. -/
@[simp] theorem onOpenCard_notices (l : Lane) (card : Nat) {own : Nat → State → State}
    (frame : ∀ slot t, (own slot t).notices = t.notices) : (onOpenCard l card own s).notices = s.notices := by
  unfold onOpenCard
  dsimp only
  repeat' split
  all_goals simp [frame]

@[simp] theorem engineOpenPurse_notices (l : Lane) (card : Nat) : (engineOpenPurse l card s).notices = s.notices := by
  unfold engineOpenPurse
  split
  · rfl
  · split
    · rfl
    · split
      · rfl
      · exact acceptOffice_notices _ l _ fun _ => rfl

@[simp] theorem engineClosePurse_notices (l : Lane) (card : Nat) : (engineClosePurse l card s).notices = s.notices := by
  refine onOpenCard_notices s l card fun slot t => ?_
  dsimp only
  split
  · rfl
  · split
    · rfl
    · split
      · rfl
      · exact acceptOffice_notices _ l _ fun _ => rfl

@[simp] theorem engineChangeState_notices (l : Lane) (card : Nat) (needed : PurseState) (kind : StateKind) :
    (engineChangeState l card needed kind s).notices = s.notices := by
  refine onOpenCard_notices s l card fun slot t => ?_
  split
  · rfl
  · exact acceptOffice_notices _ l _ fun _ => rfl

@[simp] theorem engineTopUp_notices (l : Lane) (card amount : Nat) : (engineTopUp l card amount s).notices = s.notices := by
  unfold engineTopUp
  split
  · rfl
  · refine onOpenCard_notices s l card fun slot t => ?_
    dsimp only
    split
    · rfl
    · exact acceptOffice_notices _ l _ fun _ => rfl

@[simp] theorem engineWithdraw_notices (l : Lane) (card amount : Nat) :
    (engineWithdraw l card amount s).notices = s.notices := by
  unfold engineWithdraw
  split
  · rfl
  · refine onOpenCard_notices s l card fun slot t => ?_
    dsimp only
    split
    · rfl
    · exact acceptOffice_notices _ l _ fun _ => rfl

@[simp] theorem engineFundSponsor_notices (l : Lane) (sponsor amount : Nat) :
    (engineFundSponsor l sponsor amount s).notices = s.notices := by
  unfold engineFundSponsor
  split
  · rfl
  · split
    · rfl
    · split
      · rfl
      · exact acceptOffice_notices _ l _ fun _ => rfl

@[simp] theorem markReversal_notices (receipt : Nat) (v : ReversalState) :
    (markReversal receipt v s).notices = s.notices := rfl

@[simp] theorem takeReversalDurable_notices (r : Record) (ap cp : Nat) (back : Bool) (l : Lane) (receipt : Nat) :
    (takeReversalDurable r ap cp back l receipt s).notices = s.notices := by simp [takeReversalDurable]

@[simp] theorem takeReversalAbandoned_notices (r : Record) (l : Lane) (receipt : Nat) :
    (takeReversalAbandoned r l receipt s).notices = s.notices := by simp [takeReversalAbandoned]

@[simp] theorem markClosed_notices (b : RecordBody) : (markClosed b s).notices = s.notices := by
  unfold markClosed
  split <;> rfl

@[simp] theorem takeOfficeDurable_notices (r : Record) (l : Lane) : (takeOfficeDurable r l s).notices = s.notices := by
  simp [takeOfficeDurable, unreserve]

@[simp] theorem takeOfficeAbandoned_notices (r : Record) (l : Lane) : (takeOfficeAbandoned r l s).notices = s.notices := by
  simp [takeOfficeAbandoned, unreserve]

/-! ## Holds that stay open (chapter 2) -/

@[simp] theorem engineExtend_notices (l : Lane) (handle : Nat) : (engineExtend l handle s).notices = s.notices := by
  unfold engineExtend
  dsimp only
  repeat' split
  all_goals simp [extendHold]

@[simp] theorem markDeadlinePassed_notices (handle : Nat) : (markDeadlinePassed handle s).notices = s.notices := by
  simp [markDeadlinePassed]

/-! ## Time, periods and the configuration (chapters 5 and 9) -/

@[simp] theorem controlSetClock_notices (l : Lane) (seconds : Nat) : (controlSetClock l seconds s).notices = s.notices := by
  unfold controlSetClock
  split <;> rfl

@[simp] theorem controlSetSchedule_notices (l : Lane) (entry time enable : Nat) :
    (controlSetSchedule l entry time enable s).notices = s.notices := by
  unfold controlSetSchedule
  repeat' split
  all_goals rfl

@[simp] theorem controlSetDrainLimit_notices (l : Lane) (seconds : Nat) :
    (controlSetDrainLimit l seconds s).notices = s.notices := by
  unfold controlSetDrainLimit
  split <;> rfl

@[simp] theorem engineReadTotals_notices (l : Lane) (part : Nat) : (engineReadTotals l part s).notices = s.notices := by
  unfold engineReadTotals
  dsimp only
  split <;> rfl

@[simp] theorem configSetCeiling_notices (l : Lane) (amount : Nat) : (configSetCeiling l amount s).notices = s.notices := by
  unfold configSetCeiling
  split <;> rfl

@[simp] theorem configSetLowMark_notices (l : Lane) (amount : Nat) : (configSetLowMark l amount s).notices = s.notices := by
  unfold configSetLowMark
  split <;> rfl

@[simp] theorem configSaveConfig_notices (l : Lane) : (configSaveConfig l s).notices = s.notices := by
  unfold configSaveConfig
  split <;> rfl

@[simp] theorem configReadConfig_notices (l : Lane) (part : Nat) : (configReadConfig l part s).notices = s.notices := by
  unfold configReadConfig
  split <;> rfl

/-! ## Lanes (chapter 7) -/

@[simp] theorem grantRequest_notices (l : Lane) (f : Frame) : (grantRequest l f s).notices = s.notices := by
  unfold grantRequest
  dsimp only
  repeat' split
  all_goals rfl

/-! ## The restore and the format (chapter 9) -/

@[simp] theorem scanRing_notices (defaulted : Bool) (units : List (Option Record)) :
    (scanRing defaulted units s).notices = s.notices := by
  unfold scanRing
  dsimp only
  split <;> rfl

@[simp] theorem dropReads_notices : (dropReads s).notices = s.notices := by simp [dropReads]

@[simp] theorem restoreFormatStore_notices (l : Lane) : (restoreFormatStore l s).notices = s.notices := by
  unfold restoreFormatStore
  repeat' split
  all_goals simp [acceptFormat]

@[simp] theorem answerFormat_notices (r : Result) (body : List Byte) : (answerFormat r body s).notices = s.notices := by
  unfold answerFormat
  dsimp only
  split <;> rfl

@[simp] theorem restoreStops_notices (part : PartState) (finding : Finding) :
    (restoreStops part finding s).notices = s.notices := rfl

@[simp] theorem formatFails_notices : (formatFails s).notices = s.notices := by simp [formatFails]

@[simp] theorem formatDone_notices : (formatDone s).notices = s.notices := by simp [formatDone]

@[simp] theorem formatRing_notices (k : Nat) : (formatRing k s).notices = s.notices := by
  unfold formatRing
  split <;> rfl

@[simp] theorem formatImages_notices (k : Nat) : (formatImages k s).notices = s.notices := by
  unfold formatImages
  split <;> rfl

end Sys2Proof.Machine
end

section
/-! PROOF. Every step keeps the law of R171: first the commands that place notices, raise flags or change the queues, then all. -/

namespace Sys2Proof.Machine

section
variable {s : State}

/-! ## Holds and captures (chapters 2 and 3) -/

theorem placeHold_lawful (l : Lane) (cardSlot : Nat) (sponsor : Option Nat) (a c parts slot : Nat) (rest : List Nat)
    (lawful : s.notices.Lawful) : (placeHold l cardSlot sponsor a c parts slot rest s).notices.Lawful :=
  reportHolds_lawful lawful

theorem holdOnPurse_noticeLaw (l : Lane) (cardSlot amount parts : Nat) (lawful : s.notices.Lawful) :
    NoticeLawAfter (holdOnPurse l cardSlot amount parts s) := by
  unfold holdOnPurse
  dsimp only
  split
  · exact noticeLawAfter_next lawful
  · split
    · exact noticeLawAfter_next lawful
    · split
      · exact noticeLawAfter_next lawful
      · split
        · exact noticeLawAfter_next lawful
        · split
          · exact noticeLawAfter_next (placeHold_lawful _ _ _ _ _ _ _ _ lawful)
          · rintro _ ⟨⟩

theorem engineHold_noticeLaw (l : Lane) (card amount parts : Nat) (lawful : s.notices.Lawful) :
    NoticeLawAfter (engineHold l card amount parts s) := by
  have refused (r : Result) : NoticeLawAfter (.next (refuse l r s)) := noticeLawAfter_next lawful
  unfold engineHold
  repeat' split
  any_goals exact refused _
  exact holdOnPurse_noticeLaw l _ amount parts (by rwa [refresh_notices])

theorem engineRelease_lawful (l : Lane) (handle : Nat) (lawful : s.notices.Lawful) :
    (engineRelease l handle s).notices.Lawful := by
  unfold engineRelease
  split
  · exact lawful
  · split
    · exact lawful
    · exact lawful
    · exact lawful
    · split
      · exact lawful
      · exact endHold_lawful _ _ lawful

theorem expireHold_lawful (handle : Nat) (deadline : Tick) (lawful : s.notices.Lawful) :
    (expireHold handle deadline s).notices.Lawful := by
  unfold expireHold
  dsimp only
  split
  · split
    · exact endHold_lawful _ _ lawful
    · exact lawful
  · split
    · rwa [markDeadlinePassed_notices]
    · exact lawful
  · exact lawful
  · exact lawful

theorem loseHold_lawful (handle : Nat) (lawful : s.notices.Lawful) : (loseHold handle s).notices.Lawful := by
  unfold loseHold
  dsimp only
  split
  · exact endHold_lawful _ _ lawful
  · rwa [markHold_notices, refresh_notices]
  · exact lawful
  · exact lawful

/-- A walk keeps the law where each of its steps does. -/
theorem walk_lawful {f : Nat → State → State} (keeps : ∀ x, KeepsNotices (f x)) (handles : List Nat)
    (lawful : s.notices.Lawful) : (walk f handles s).notices.Lawful :=
  walk_induction (P := fun _ t => t.notices.Lawful) lawful (fun _ x => keeps x _) handles

theorem loseLane_lawful (l : Lane) (lawful : s.notices.Lawful) : (loseLane l s).notices.Lawful :=
  placeNotice_lawful l _ (walk_lawful (fun x _ => loseHold_lawful x) s.engine.laneHolds[l] lawful)

theorem settleHold_lawful (handle receipt ap cp : Nat) (final : Bool) (lawful : s.notices.Lawful) :
    (settleHold handle receipt ap cp final s).notices.Lawful := by
  unfold settleHold
  dsimp only
  split
  · exact endHold_lawful _ _ lawful
  · exact settlementEnds_lawful _ lawful

theorem checkSponsorLow_lawful (b : RecordBody) (ap : Nat) (lawful : s.notices.Lawful) :
    (checkSponsorLow b ap s).notices.Lawful := by
  unfold checkSponsorLow
  split
  · split
    · exact raiseFlag_lawful _ lawful
    · exact lawful
  · exact lawful

theorem takeCaptureDurable_lawful (r : Record) (ap cp : Nat) (l : Lane) (handle : Nat) (final : Bool)
    (lawful : s.notices.Lawful) : (takeCaptureDurable r ap cp l handle final s).notices.Lawful := by
  have charged : (countRecord r (chargeHeld r.body ap cp (applyRecord r.body s))).notices.Lawful := by
    rwa [countRecord_notices, chargeHeld, onNamed_notices, applyRecord_notices]
  exact checkSponsorLow_lawful _ _ (settleHold_lawful _ _ _ _ _ charged)

theorem takeCaptureAbandoned_lawful (r : Record) (l : Lane) (handle : Nat) (lawful : s.notices.Lawful) :
    (takeCaptureAbandoned r l handle s).notices.Lawful := settlementEnds_lawful _ lawful

/-! ## Periods (chapter 5) -/

theorem startClose_lawful (origin : Origin) (lawful : s.notices.Lawful) : (startClose origin s).notices.Lawful := by
  unfold startClose
  dsimp only
  split
  · exact completeDrain_lawful lawful
  · exact lawful

theorem advanceClock_lawful (c : Nat) (lawful : s.notices.Lawful) : (advanceClock c s).notices.Lawful := by
  unfold advanceClock
  dsimp only
  split
  · split
    · exact startClose_lawful _ lawful
    · exact lawful
  · exact lawful

theorem controlClosePeriod_lawful (l : Lane) (lawful : s.notices.Lawful) :
    (controlClosePeriod l s).notices.Lawful := by
  unfold controlClosePeriod
  split
  · exact lawful
  · exact startClose_lawful _ lawful

theorem drainHold_lawful (handle : Nat) (lawful : s.notices.Lawful) : (drainHold handle s).notices.Lawful := by
  unfold drainHold
  dsimp only
  split
  · exact endHoldQuietly_lawful _ _ lawful
  · rwa [markHold_notices, refresh_notices]
  · exact lawful
  · exact lawful

theorem drainWalk_lawful (lawful : s.notices.Lawful) : (drainWalk s).notices.Lawful := by
  have walked := walk_lawful (fun x _ => drainHold_lawful x) s.engine.drainOrder lawful
  unfold drainWalk
  refine reportHolds_lawful ?_
  split
  · exact raiseFlag_lawful _ walked
  · exact walked

/-! ## The store (chapter 6) and the restore (chapter 9) -/

theorem retrySucceeds_lawful (lawful : s.notices.Lawful) : (retrySucceeds s).notices.Lawful := by
  rw [retrySucceeds, endRetry_notices]
  exact raiseFlag_lawful _ lawful

theorem retryContinues_lawful (lawful : s.notices.Lawful) : (retryContinues s).notices.Lawful := by
  unfold retryContinues
  split
  · exact lawful
  · exact retrySucceeds_lawful lawful

theorem retryVoided_lawful (lawful : s.notices.Lawful) : (retryVoided s).notices.Lawful := by
  unfold retryVoided
  split <;> exact retrySucceeds_lawful lawful

theorem finishRestore_lawful (newest : Nat) (records : List Record) (lawful : s.notices.Lawful) :
    (finishRestore newest records s).notices.Lawful := by
  unfold finishRestore
  simp only [State.mapRestore_notices, State.mapJournal_notices]
  split
  · refine raiseFlag_lawful _ ?_
    rwa [State.mapEngine_notices, State.mapPeriod_notices]
  · rwa [State.mapEngine_notices, State.mapPeriod_notices]

theorem nextRewrite_lawful (newest : Nat) (records : List Record) (rewrites : List (Nat × List Byte))
    (lawful : s.notices.Lawful) : (nextRewrite newest records rewrites s).notices.Lawful := by
  unfold nextRewrite
  split
  · exact lawful
  · exact finishRestore_lawful _ _ lawful

theorem restoreImages_lawful (defaulted : Bool) (newest : Nat) (records : List Record) (images : Nat → Option Image)
    (lawful : s.notices.Lawful) : (restoreImages defaulted newest records images s).notices.Lawful := by
  unfold restoreImages
  split
  · exact nextRewrite_lawful _ _ _ lawful
  · exact lawful

theorem restoreContinues_lawful (lawful : s.notices.Lawful) : (restoreContinues s).notices.Lawful := by
  unfold restoreContinues
  split
  · exact nextRewrite_lawful _ _ _ lawful
  · exact lawful

theorem loadConfig_lawful (c : WorkingConfig) (source : ConfigSource) (lawful : s.notices.Lawful) :
    (loadConfig c source s).notices.Lawful := lawful.of_lanes rfl

theorem loadHeader_lawful (found : HeaderFound) (lawful : s.notices.Lawful) : (loadHeader found s).notices.Lawful := by
  unfold loadHeader
  split
  · exact loadConfig_lawful _ .defaults lawful
  · exact loadConfig_lawful _ .defaults lawful
  · exact raiseFlag_lawful .configDefaulted (loadConfig_lawful _ .defaults lawful)
  · exact loadConfig_lawful _ .header lawful

theorem writeSucceeded_lawful (op : PortOp) (lawful : s.notices.Lawful) : (writeSucceeded op s).notices.Lawful := by
  cases op with
  | recordWrite r => rwa [writeSucceeded, recordDurable_notices]
  | imageWrites r k rest => rwa [writeSucceeded, nextImage_notices]
  | retryCheck => exact retryContinues_lawful lawful
  | retryVoid => exact retryVoided_lawful lawful
  | saveCheck lanes => rwa [writeSucceeded, saveDone, freePort_notices, fillAll_notices]
  | formatClear => rwa [writeSucceeded, formatRing_notices]
  | formatVoid k => rwa [writeSucceeded, formatRing_notices]
  | formatImage k => rwa [writeSucceeded, formatImages_notices]
  | formatHeader => rwa [writeSucceeded, formatDone_notices]
  | restoreImage => exact restoreContinues_lawful lawful
  | staleImage k => exact lawful
  | saveBlock lanes check => exact lawful
  | journalRead l sequence readsDone voided => exact lawful
  | retryHeader => exact lawful

theorem writeFailed_lawful (op : PortOp) (lawful : s.notices.Lawful) : (writeFailed op s).notices.Lawful := by
  have faults (voidAt : Option Nat) (t : State) (same : t.notices = s.notices) :
      (enterFault voidAt t).notices.Lawful := enterFault_lawful voidAt (same.symm ▸ lawful)
  cases op with
  | recordWrite r => exact faults _ _ rfl
  | imageWrites r k rest => exact faults _ _ rfl
  | staleImage k => exact faults _ _ rfl
  | saveBlock lanes check =>
    rw [writeFailed, fillAll_notices]
    exact faults none (freePort s) rfl
  | saveCheck lanes =>
    rw [writeFailed, fillAll_notices]
    exact faults none (freePort s) rfl
  | retryCheck => rwa [writeFailed, retryFails, endRetry_notices]
  | retryVoid => rwa [writeFailed, retryFails, endRetry_notices]
  | formatClear => rwa [writeFailed, formatFails_notices]
  | formatVoid k => rwa [writeFailed, formatFails_notices]
  | formatImage k => rwa [writeFailed, formatFails_notices]
  | formatHeader => rwa [writeFailed, formatFails_notices]
  | restoreImage => exact lawful
  | journalRead l sequence readsDone voided => exact lawful
  | retryHeader => exact lawful

theorem attemptFails_lawful (op : PortOp) (w : StoreWrite) (lawful : s.notices.Lawful) :
    (attemptFails op w s).notices.Lawful := by
  unfold attemptFails
  split
  · exact lawful
  · exact writeFailed_lawful op lawful

theorem writeReported_lawful (op : PortOp) (w : StoreWrite) (effect : WriteEffect) (readBack : StoreAnswer)
    (lawful : s.notices.Lawful) : (writeReported op w effect readBack s).notices.Lawful := by
  unfold writeReported
  dsimp only
  split
  · exact writeSucceeded_lawful op lawful
  · exact attemptFails_lawful op w lawful

/-! ## Lanes and notices (chapters 7 and 8) -/

theorem linkErrorAt_lawful (l : Lane) (next : Receiver) (lawful : s.notices.Lawful) :
    (linkErrorAt l next s).notices.Lawful := raiseFlag_lawful _ lawful

theorem frameComplete_lawful (l : Lane) (got : List Byte) (lawful : s.notices.Lawful) :
    (frameComplete l got s).notices.Lawful := by
  unfold frameComplete
  dsimp only
  split
  · split
    · exact lawful
    · exact linkErrorAt_lawful _ _ lawful
  · exact linkErrorAt_lawful _ _ lawful

theorem byteInFrame_lawful (l : Lane) (got : List Byte) (b : Byte) (lawful : s.notices.Lawful) :
    (byteInFrame l got b s).notices.Lawful := by
  unfold byteInFrame
  split
  · split
    · exact linkErrorAt_lawful _ _ lawful
    · exact lawful
  · split
    · exact frameComplete_lawful _ _ lawful
    · exact lawful

theorem receiveByte_lawful (l : Lane) (b : Byte) (stopBit : Bool) (lawful : s.notices.Lawful) :
    (receiveByte l b stopBit s).notices.Lawful := by
  unfold receiveByte
  split
  · exact lawful
  · split
    · exact linkErrorAt_lawful _ _ lawful
    · split <;> exact lawful
  · split
    · exact linkErrorAt_lawful _ _ lawful
    · exact byteInFrame_lawful _ _ _ lawful
  · split
    · exact linkErrorAt_lawful _ _ lawful
    · exact lawful

theorem writeLane_lawful (l named : Lane) (c : LaneSettings) (lawful : s.notices.Lawful) :
    (writeLane l named c s).notices.Lawful := by
  unfold writeLane
  simp only [fillReply_notices]
  split
  · exact mapNoticeLane_lawful named (fun q _ => q.emptied_lawful) lawful
  · exact lawful

theorem engineSetLane_lawful (l : Lane) (named role holdLifetime silenceLimit holdLimit : Nat)
    (lawful : s.notices.Lawful) :
    (engineSetLane l named role holdLifetime silenceLimit holdLimit s).notices.Lawful := by
  unfold engineSetLane
  split
  · split
    · exact lawful
    · split
      · exact lawful
      · exact writeLane_lawful _ _ _ lawful
  · exact lawful

theorem noticesPoll_lawful (l : Lane) (lawful : s.notices.Lawful) : (noticesPoll l s).notices.Lawful := by
  rw [noticesPoll_eq]
  exact lawful.set l (NoticeLane.polled_lawful (lawful l))

theorem noticesSetRoute_lawful (l : Lane) (eventClass route : Nat) (lawful : s.notices.Lawful) :
    (noticesSetRoute l eventClass route s).notices.Lawful := by
  unfold noticesSetRoute
  split
  · split
    · exact lawful.of_lanes rfl
    · exact lawful
  · exact lawful

theorem noticesClearEvents_lawful (l : Lane) (classes : Nat) (lawful : s.notices.Lawful) :
    (noticesClearEvents l classes s).notices.Lawful := by
  unfold noticesClearEvents
  split
  · exact lawful
  · exact lawful.of_lanes rfl

end

end Sys2Proof.Machine
end

section
/-! PROOF. Every command, and so every step, keeps the law of R171. -/

namespace Sys2Proof.Machine

section
variable {s : State}

/-! ## Resets (chapter 9) -/

theorem NoticeUnit.afterReset_lawful (c : WorkingConfig) : (NoticeUnit.afterReset c).Lawful := by
  intro l
  simp [NoticeUnit.afterReset, NoticeLane.Lawful]

theorem execPowerOnReset_noticeLaw (cut : WriteEffect) : NoticeLawAfter (execPowerOnReset cut s) :=
  noticeLawAfter_next (NoticeUnit.afterReset_lawful WorkingConfig.default)

theorem execPinReset_noticeLaw (cut : WriteEffect) : NoticeLawAfter (execPinReset cut s) :=
  noticeLawAfter_next (NoticeUnit.afterReset_lawful WorkingConfig.default)

variable (law : s.noticeLaw)
include law

/-- The pin reset drives the attention outputs low and leaves the queues (R207). -/
theorem execResetNLow_noticeLaw (cut : WriteEffect) : NoticeLawAfter (execResetNLow cut s) := by
  rintro _ ⟨⟩ l
  refine ⟨?_, fun released => absurd released (by simp)⟩
  simpa using (law l).1

/-! ## Events of the tick, the lanes, the store and Period Control -/

theorem execRestoreHeaderLoaded_noticeLaw (answer : StoreAnswer) : NoticeLawAfter (execRestoreHeaderLoaded answer s) := by
  refine event_keeps_noticeLaw law fun s lawful => ?_
  split
  · exact loadHeader_lawful _ lawful
  · exact lawful

theorem execRestoreRingScan_noticeLaw (answer : StoreAnswer) : NoticeLawAfter (execRestoreRingScan answer s) := by
  refine event_keeps_noticeLaw law fun s lawful => ?_
  split
  · rwa [scanRing_notices]
  · exact lawful

theorem execRestoreImages_noticeLaw (answer : StoreAnswer) : NoticeLawAfter (execRestoreImages answer s) := by
  refine event_keeps_noticeLaw law fun s lawful => ?_
  split
  · exact restoreImages_lawful _ _ _ _ lawful
  · exact lawful

theorem execJournalExhaustion_noticeLaw : NoticeLawAfter (execJournalExhaustion s) := by
  refine event_keeps_noticeLaw law fun s lawful => ?_
  split
  · exact enterFault_lawful none lawful
  · exact lawful

theorem execTick_noticeLaw : NoticeLawAfter (execTick s) := by
  refine event_keeps_noticeLaw law fun s lawful => ?_
  exact lawful

theorem execHoldExpiryEvent_noticeLaw (handle : Nat) (deadline : Tick) :
    NoticeLawAfter (execHoldExpiryEvent handle deadline s) := by
  refine event_keeps_noticeLaw law fun s lawful => ?_
  split
  · split
    · exact expireHold_lawful handle deadline lawful
    · exact lawful
  · exact lawful

theorem execClockAdvance_noticeLaw : NoticeLawAfter (execClockAdvance s) := by
  refine event_keeps_noticeLaw law fun s lawful => ?_
  split
  · split
    · exact lawful
    · exact advanceClock_lawful _ lawful
  · exact lawful

theorem execDrainTimerExpiry_noticeLaw : NoticeLawAfter (execDrainTimerExpiry s) := by
  refine event_keeps_noticeLaw law fun s lawful => ?_
  split <;> exact lawful

theorem execDrainEvent_noticeLaw : NoticeLawAfter (execDrainEvent s) := by
  refine event_keeps_noticeLaw law fun s lawful => ?_
  dsimp only
  split
  · exact lawful
  · split
    · exact drainWalk_lawful lawful
    · exact reportHolds_lawful lawful

theorem execSilenceTimerExpiry_noticeLaw (l : Lane) : NoticeLawAfter (execSilenceTimerExpiry l s) := by
  refine event_keeps_noticeLaw law fun s lawful => ?_
  dsimp only
  split
  · exact raiseFlag_lawful .laneLost lawful
  · exact lawful

theorem execLaneLostEvent_noticeLaw (l : Lane) : NoticeLawAfter (execLaneLostEvent l s) := by
  refine event_keeps_noticeLaw law fun s lawful => ?_
  split
  · exact loseLane_lawful l lawful
  · exact lawful

theorem execGapTimerExpiry_noticeLaw (l : Lane) : NoticeLawAfter (execGapTimerExpiry l s) := by
  refine event_keeps_noticeLaw law fun s lawful => ?_
  split
  · exact linkErrorAt_lawful l .hunt lawful
  · exact lawful
  · exact lawful
  · exact lawful

theorem execFrameReceived_noticeLaw (l : Lane) (lastByte : Byte) : NoticeLawAfter (execFrameReceived l lastByte s) := by
  refine event_keeps_noticeLaw law fun s lawful => ?_
  split
  · exact receiveByte_lawful _ _ _ lawful
  · exact lawful

theorem execLaneGrant_noticeLaw : NoticeLawAfter (execLaneGrant s) := by
  refine event_keeps_noticeLaw law fun s lawful => ?_
  split
  · rwa [grantRequest_notices]
  · exact lawful

theorem execPing_noticeLaw (l : Lane) : NoticeLawAfter (execPing l s) := by
  refine event_keeps_noticeLaw law fun s lawful => ?_
  split
  · split
    · rwa [grantRequest_notices]
    · exact lawful
  · exact lawful

theorem execStorePortGrant_noticeLaw : NoticeLawAfter (execStorePortGrant s) := by
  refine event_keeps_noticeLaw law fun s lawful => ?_
  split
  · rwa [grantPort_notices]
  · exact lawful

theorem execWriteStatusTimeout_noticeLaw (effect : WriteEffect) : NoticeLawAfter (execWriteStatusTimeout effect s) := by
  refine event_keeps_noticeLaw law fun s lawful => ?_
  split
  · split
    · exact attemptFails_lawful _ _ lawful
    · exact lawful
  · exact lawful

theorem execStoreWriteComplete_noticeLaw (effect : WriteEffect) (answers : WriteAnswers) :
    NoticeLawAfter (execStoreWriteComplete effect answers s) := by
  refine event_keeps_noticeLaw law fun s lawful => ?_
  split
  · split
    · exact lawful
    · exact writeReported_lawful _ _ _ _ lawful
  · exact lawful

theorem execRetryHeaderRead_noticeLaw (answer : StoreAnswer) : NoticeLawAfter (execRetryHeaderRead answer s) := by
  refine event_keeps_noticeLaw law fun s lawful => ?_
  split
  · dsimp only
    split
    · exact lawful
    · rwa [retryFails, endRetry_notices]
  · exact lawful

theorem execJournalReadComplete_noticeLaw (answer : StoreAnswer) : NoticeLawAfter (execJournalReadComplete answer s) := by
  refine event_keeps_noticeLaw law fun s lawful => ?_
  split
  · rwa [judgeRead_notices]
  · exact lawful

theorem execPeriodAdvance_noticeLaw : NoticeLawAfter (execPeriodAdvance s) := by
  refine event_keeps_noticeLaw law fun s lawful => ?_
  split
  · exact raiseFlag_lawful .periodClosed lawful
  · exact lawful

theorem execCloseFailed_noticeLaw : NoticeLawAfter (execCloseFailed s) := by
  refine event_keeps_noticeLaw law fun s lawful => ?_
  split
  · exact closeFails_lawful lawful
  · exact lawful

theorem execLockConfig_noticeLaw (l : Lane) : NoticeLawAfter (execLockConfig l s) := by
  refine readyRequest_keeps_noticeLaw law fun s lawful => ?_
  exact lawful

/-! ## Journal events taken by the engine -/

theorem execCaptureDurable_noticeLaw (sequence : Nat) : NoticeLawAfter (execCaptureDurable sequence s) := by
  refine takeJournalEvent_keeps_noticeLaw law fun x f acts => ?_
  repeat' split at acts
  all_goals cases acts
  exact fun s lawful => takeCaptureDurable_lawful _ _ _ _ _ _ lawful

theorem execCaptureAbandoned_noticeLaw (sequence : Nat) : NoticeLawAfter (execCaptureAbandoned sequence s) := by
  refine takeJournalEvent_keeps_noticeLaw law fun x f acts => ?_
  repeat' split at acts
  all_goals cases acts
  exact fun s lawful => takeCaptureAbandoned_lawful _ _ _ lawful

theorem execReversalDurable_noticeLaw (sequence : Nat) : NoticeLawAfter (execReversalDurable sequence s) := by
  refine takeJournalEvent_keeps_noticeLaw law fun x f acts => ?_
  repeat' split at acts
  all_goals cases acts
  exact .of_frame fun s => takeReversalDurable_notices s _ _ _ _ _ _

theorem execReversalAbandoned_noticeLaw (sequence : Nat) : NoticeLawAfter (execReversalAbandoned sequence s) := by
  refine takeJournalEvent_keeps_noticeLaw law fun x f acts => ?_
  repeat' split at acts
  all_goals cases acts
  exact .of_frame fun s => takeReversalAbandoned_notices s _ _ _

theorem execOfficeRecordDurable_noticeLaw (sequence : Nat) : NoticeLawAfter (execOfficeRecordDurable sequence s) := by
  refine takeJournalEvent_keeps_noticeLaw law fun x f acts => ?_
  repeat' split at acts
  all_goals cases acts
  exact .of_frame fun s => takeOfficeDurable_notices s _ _

theorem execOfficeRecordAbandoned_noticeLaw (sequence : Nat) : NoticeLawAfter (execOfficeRecordAbandoned sequence s) := by
  refine takeJournalEvent_keeps_noticeLaw law fun x f acts => ?_
  repeat' split at acts
  all_goals cases acts
  exact .of_frame fun s => takeOfficeAbandoned_notices s _ _

/-! ## Every command -/

theorem exec_keeps_noticeLaw (c : Instr) : NoticeLawAfter (exec c s) := by
  cases c with
  | powerOnReset cut => exact execPowerOnReset_noticeLaw cut
  | pinReset cut => exact execPinReset_noticeLaw cut
  | resetNLow cut => exact execResetNLow_noticeLaw law cut
  | restoreHeaderLoaded answer => exact execRestoreHeaderLoaded_noticeLaw law answer
  | restoreRingScan answer => exact execRestoreRingScan_noticeLaw law answer
  | restoreImages answer => exact execRestoreImages_noticeLaw law answer
  | journalExhaustion => exact execJournalExhaustion_noticeLaw law
  | tick => exact execTick_noticeLaw law
  | holdExpiryEvent handle deadline => exact execHoldExpiryEvent_noticeLaw law handle deadline
  | clockAdvance => exact execClockAdvance_noticeLaw law
  | drainTimerExpiry => exact execDrainTimerExpiry_noticeLaw law
  | drainEvent => exact execDrainEvent_noticeLaw law
  | silenceTimerExpiry l => exact execSilenceTimerExpiry_noticeLaw law l
  | laneLostEvent l => exact execLaneLostEvent_noticeLaw law l
  | gapTimerExpiry l => exact execGapTimerExpiry_noticeLaw law l
  | byteReceived l b stopBit => exact event_keeps_noticeLaw law fun _ => receiveByte_lawful l b stopBit
  | frameReceived l lastByte => exact execFrameReceived_noticeLaw law l lastByte
  | frameSent l => exact event_keeps_noticeLaw law fun _ lawful => lawful
  | laneGrant => exact execLaneGrant_noticeLaw law
  | ping l => exact execPing_noticeLaw law l
  | pollNotice l => exact request_keeps_noticeLaw law fun _ => noticesPoll_lawful l
  | balance l card => exact readyRequest_keeps_noticeLaw law (.of_frame fun s => engineBalance_notices s l card)
  | hold l card amount parts => exact takeRequest_keeps_noticeLaw law fun _ => engineHold_noticeLaw l card amount parts
  | capture l handle amount final =>
    exact readyRequest_keeps_noticeLaw law (.of_frame fun s => engineCapture_notices s l handle amount final)
  | release l handle => exact readyRequest_keeps_noticeLaw law fun _ => engineRelease_lawful l handle
  | extend l handle => exact readyRequest_keeps_noticeLaw law (.of_frame fun s => engineExtend_notices s l handle)
  | reverse l receipt => exact readyRequest_keeps_noticeLaw law (.of_frame fun s => engineReverse_notices s l receipt)
  | openPurse l card => exact officeRequest_keeps_noticeLaw law (.of_frame fun s => engineOpenPurse_notices s l card)
  | closePurse l card => exact officeRequest_keeps_noticeLaw law (.of_frame fun s => engineClosePurse_notices s l card)
  | block l card =>
    exact officeRequest_keeps_noticeLaw law (.of_frame fun s => engineChangeState_notices s l card .opened .block)
  | unblock l card =>
    exact officeRequest_keeps_noticeLaw law (.of_frame fun s => engineChangeState_notices s l card .blocked .unblock)
  | topUp l card amount => exact officeRequest_keeps_noticeLaw law (.of_frame fun s => engineTopUp_notices s l card amount)
  | withdraw l card amount =>
    exact officeRequest_keeps_noticeLaw law (.of_frame fun s => engineWithdraw_notices s l card amount)
  | fundSponsor l sponsor amount =>
    exact officeRequest_keeps_noticeLaw law (.of_frame fun s => engineFundSponsor_notices s l sponsor amount)
  | readPurse l slot => exact readyRequest_keeps_noticeLaw law (.of_frame fun s => engineReadPurse_notices s l slot)
  | readTotals l part => exact readyRequest_keeps_noticeLaw law (.of_frame fun s => engineReadTotals_notices s l part)
  | setRange l entry enabled firstCard slotEnd grant sponsor limit =>
    exact lockedRequest_keeps_noticeLaw law
      (.of_frame fun s => engineSetRange_notices s l entry enabled firstCard slotEnd grant sponsor limit)
  | setSponsorCount l count =>
    exact lockedRequest_keeps_noticeLaw law (.of_frame fun s => engineSetSponsorCount_notices s l count)
  | setLane l named role holdLifetime silenceLimit holdLimit =>
    exact lockedRequest_keeps_noticeLaw law fun _ => engineSetLane_lawful l named role holdLifetime silenceLimit holdLimit
  | setCeiling l amount => exact lockedRequest_keeps_noticeLaw law (.of_frame fun s => configSetCeiling_notices s l amount)
  | setLowMark l amount => exact lockedRequest_keeps_noticeLaw law (.of_frame fun s => configSetLowMark_notices s l amount)
  | saveConfig l => exact readyRequest_keeps_noticeLaw law (.of_frame fun s => configSaveConfig_notices s l)
  | lockConfig l => exact execLockConfig_noticeLaw law l
  | readConfig l part => exact request_keeps_noticeLaw law (.of_frame fun s => configReadConfig_notices s l part)
  | closePeriod l => exact readyRequest_keeps_noticeLaw law fun _ => controlClosePeriod_lawful l
  | setClock l seconds => exact readyRequest_keeps_noticeLaw law (.of_frame fun s => controlSetClock_notices s l seconds)
  | setSchedule l entry time enable =>
    exact lockedRequest_keeps_noticeLaw law (.of_frame fun s => controlSetSchedule_notices s l entry time enable)
  | setDrainLimit l seconds =>
    exact lockedRequest_keeps_noticeLaw law (.of_frame fun s => controlSetDrainLimit_notices s l seconds)
  | sync l => exact readyRequest_keeps_noticeLaw law (.of_frame fun s => journalSync_notices s l)
  | readJournal l sequence =>
    exact readyRequest_keeps_noticeLaw law (.of_frame fun s => journalReadJournal_notices s l sequence)
  | retryStore l => exact readyRequest_keeps_noticeLaw law (.of_frame fun s => journalRetryStore_notices s l)
  | formatStore l => exact request_keeps_noticeLaw law (.of_frame fun s => restoreFormatStore_notices s l)
  | setRoute l eventClass route =>
    exact lockedRequest_keeps_noticeLaw law fun _ => noticesSetRoute_lawful l eventClass route
  | clearEvents l classes => exact readyRequest_keeps_noticeLaw law fun _ => noticesClearEvents_lawful l classes
  | readEvents l => exact readyRequest_keeps_noticeLaw law fun _ lawful => lawful
  | storePortGrant => exact execStorePortGrant_noticeLaw law
  | writeStatusTimeout effect => exact execWriteStatusTimeout_noticeLaw law effect
  | storeWriteComplete effect answers => exact execStoreWriteComplete_noticeLaw law effect answers
  | retryHeaderRead answer => exact execRetryHeaderRead_noticeLaw law answer
  | journalReadComplete answer => exact execJournalReadComplete_noticeLaw law answer
  | captureDurable sequence => exact execCaptureDurable_noticeLaw law sequence
  | captureAbandoned sequence => exact execCaptureAbandoned_noticeLaw law sequence
  | reversalDurable sequence => exact execReversalDurable_noticeLaw law sequence
  | reversalAbandoned sequence => exact execReversalAbandoned_noticeLaw law sequence
  | officeRecordDurable sequence => exact execOfficeRecordDurable_noticeLaw law sequence
  | officeRecordAbandoned sequence => exact execOfficeRecordAbandoned_noticeLaw law sequence
  | periodCloseDurable sequence => exact takeCloseEvent_keeps_noticeLaw law fun _ lawful => lawful
  | periodAdvance => exact execPeriodAdvance_noticeLaw law
  | periodCloseAbandoned sequence => exact takeCloseEvent_keeps_noticeLaw law fun _ lawful => lawful
  | closeFailed => exact execCloseFailed_noticeLaw law

end

/-- Settles O4: an empty queue of commands idles, and every command keeps the law. -/
theorem stepKeepsNoticeLaw : Obligations.stepKeepsNoticeLaw := by
  unfold Obligations.stepKeepsNoticeLaw
  intro s t law next
  unfold step at next
  split at next
  next =>
    cases next
    exact law
  next c rest _ => exact exec_keeps_noticeLaw (s := { s with pending := rest }) law c t next

end Sys2Proof.Machine
end

section
/-! PROOF. What a command keeps, said once: a relation between the state before and the state after, closed under composition, with
one lemma for each update of the state and each shared operation. The statements about the store's bytes, the tables, the capture
ring, the deadline list, the slots, the lock, the period number and the cash balances read it off. -/

namespace Sys2Proof.Machine

/-! ## The relation -/

/-- What a command may change, of the things `Keeps` tells: the period number, the order of the deadline list, and the cash balance
of these slots; `count` where holds may come and go that Period Control is not yet told of (R35). -/
structure Freed where
  number : Prop
  order : Prop
  cash : Nat → Prop
  count : Prop

/-- The same, and holds may come and go untold. -/
def Freed.untold (free : Freed) : Freed := { free with count := True }

/-- Period Control's hold count is that of the engine, unless it is `untold`, and no hold is open in CLOSE_WRITE (R110). -/
def State.Drains (untold : Prop) (s : State) : Prop :=
  (¬ untold → s.period.holdCount = s.engine.openHolds) ∧ (s.period.state = .closeWrite → s.engine.openHolds = 0)

/-- The purse, sponsor and hold tables of an engine are in canonical form. -/
def Engine.Canonical (e : Engine) : Prop :=
  Table.wf .free e.cards = true ∧ Table.wf .zero e.sponsors = true ∧ Table.wf .free e.holds = true

/-- The engine `e'` has the ring within its bound and the tables in canonical form where `e` has, and the cash balances of `e` but
for the slots of `cash`. -/
structure Engine.Keeps (cash : Nat → Prop) (e e' : Engine) : Prop where
  ring : e.ring.length ≤ 256 → e'.ring.length ≤ 256
  tables : e.Canonical → e'.Canonical
  cash : e.Canonical → ∀ slot, ¬ cash slot → (e'.card slot).cashBalance = (e.card slot).cashBalance

/-- The state `t` keeps what `s` has, but for what is freed. -/
structure Keeps (free : Freed) (s t : State) : Prop where
  memory : t.memory = s.memory
  lock : s.config.lock = true → t.config.lock = true
  engine : s.engine.Keeps free.cash t.engine
  slots : ∀ l : Lane, s.lanes[l].slotsAgree = true → t.lanes[l].slotsAgree = true
  number : ¬ free.number → t.period.number = s.period.number
  order : ¬ free.order → s.deadlineOrder → t.deadlineOrder
  drain : s.Drains free.count → t.Drains free.count

/-! ## The engine's updates -/

section
variable {cash : Nat → Prop} {e e' e'' : Engine}

theorem Engine.Keeps.refl (e : Engine) : e.Keeps cash e := ⟨id, id, fun _ _ _ => rfl⟩

theorem Engine.Keeps.trans (h : e.Keeps cash e') (h' : e'.Keeps cash e'') : e.Keeps cash e'' :=
  ⟨h'.ring ∘ h.ring, h'.tables ∘ h.tables, fun canonical slot kept =>
    (h'.cash (h.tables canonical) slot kept).trans (h.cash canonical slot kept)⟩

/-- An update that leaves the cards and the ring alone, and the other tables canonical. -/
theorem Engine.Keeps.of_cards (cards : e'.cards = e.cards) (ring : e'.ring = e.ring)
    (sponsors : Table.wf .zero e.sponsors = true → Table.wf .zero e'.sponsors = true)
    (holds : Table.wf .free e.holds = true → Table.wf .free e'.holds = true) : e.Keeps cash e' := by
  refine ⟨fun bound => ring ▸ bound, fun ⟨c, p, h⟩ => ⟨cards ▸ c, sponsors p, holds h⟩, fun _ slot _ => ?_⟩
  simp only [Engine.card, cards]

theorem Engine.mapSponsor_keeps (n : Nat) (f : SponsorPurse → SponsorPurse) : e.Keeps cash (e.mapSponsor n f) :=
  .of_cards rfl rfl (Table.wf_put n _) id

theorem Engine.mapSponsor?_keeps (n : Option Nat) (f : SponsorPurse → SponsorPurse) : e.Keeps cash (e.mapSponsor? n f) := by
  cases n with
  | none => exact .refl e
  | some n => exact e.mapSponsor_keeps n f

theorem Engine.mapHold_keeps (k : Nat) (f : Hold → Hold) : e.Keeps cash (e.mapHold k f) :=
  .of_cards rfl rfl id (Table.wf_put k _)

theorem Engine.mapLaneHolds_keeps (l : Lane) (f : List Nat → List Nat) : e.Keeps cash (e.mapLaneHolds l f) :=
  .of_cards rfl rfl id id

theorem Engine.withFreeList_keeps (slots : List Nat) : e.Keeps cash { e with freeList := slots } := .of_cards rfl rfl id id

theorem Engine.freeList_mapSponsor? (n : Option Nat) (f : SponsorPurse → SponsorPurse) :
    (e.mapSponsor? n f).freeList = e.freeList := by cases n <;> rfl

/-- A card purse changed keeps what it keeps of the cash balance, its slot freed otherwise. -/
theorem Engine.mapCard_keeps (slot : Nat) {f : CardPurse → CardPurse}
    (keeps : ¬ cash slot → ∀ p, (f p).cashBalance = p.cashBalance) : e.Keeps cash (e.mapCard slot f) := by
  refine ⟨id, fun ⟨c, p, h⟩ => ⟨Table.wf_put slot _ c, p, h⟩, fun ⟨c, _, _⟩ j kept => ?_⟩
  by_cases same : j = slot
  · subst same
    rw [Engine.card_mapCard_same e c]
    exact keeps kept _
  · rw [Engine.card_mapCard_other e same]

end

/-! ## The blocks' updates -/

section
variable {free : Freed} {s t u : State}

theorem Keeps.refl (s : State) : Keeps free s s := ⟨rfl, id, .refl _, fun _ => id, fun _ => rfl, fun _ => id, id⟩

theorem Keeps.trans (h : Keeps free s t) (h' : Keeps free t u) : Keeps free s u where
  memory := h'.memory.trans h.memory
  lock := h'.lock ∘ h.lock
  engine := h.engine.trans h'.engine
  slots l := h'.slots l ∘ h.slots l
  number freed := (h'.number freed).trans (h.number freed)
  order freed := h'.order freed ∘ h.order freed
  drain := h'.drain ∘ h.drain

/-- An update of the blocks whose values `Keeps` does not tell. -/
theorem Keeps.of_blocks (memory : t.memory = s.memory) (config : t.config.lock = s.config.lock) (engine : t.engine = s.engine)
    (lanes : t.lanes = s.lanes) (number : t.period.number = s.period.number) (deadlines : t.deadlines = s.deadlines)
    (count : t.period.holdCount = s.period.holdCount := by rfl) (state : t.period.state = s.period.state := by rfl) :
    Keeps free s t where
  memory := memory
  lock := config ▸ id
  engine := engine ▸ .refl _
  slots l := lanes ▸ id
  number _ := number
  order _ h := by
    unfold State.deadlineOrder State.now at h ⊢
    rwa [deadlines]
  drain h := by
    unfold State.Drains at h ⊢
    rwa [engine, count, state]

theorem mapJournal_keeps (f : JournalUnit → JournalUnit) : Keeps free s (s.mapJournal f) := .of_blocks rfl rfl rfl rfl rfl rfl
theorem mapRestore_keeps (f : RestoreUnit → RestoreUnit) : Keeps free s (s.mapRestore f) := .of_blocks rfl rfl rfl rfl rfl rfl
theorem mapNotices_keeps (f : NoticeUnit → NoticeUnit) : Keeps free s (s.mapNotices f) := .of_blocks rfl rfl rfl rfl rfl rfl
theorem mapNoticeLane_keeps (l : Lane) (f : NoticeLane → NoticeLane) : Keeps free s (s.mapNoticeLane l f) :=
  .of_blocks rfl rfl rfl rfl rfl rfl
theorem mapArbiter_keeps (f : Arbiter → Arbiter) : Keeps free s (s.mapArbiter f) := .of_blocks rfl rfl rfl rfl rfl rfl

theorem mapPeriod_keeps {f : PeriodControl → PeriodControl} (number : ∀ p, (f p).number = p.number)
    (count : ∀ p, (f p).holdCount = p.holdCount := by intro; rfl) (state : ∀ p, (f p).state = p.state := by intro; rfl) :
    Keeps free s (s.mapPeriod f) := .of_blocks rfl rfl rfl rfl (number _) rfl (count _) (state _)

/-- Period Control goes on to a state other than CLOSE_WRITE. -/
theorem mapPeriod_keeps_of_state {f : PeriodControl → PeriodControl} (number : ¬ free.number → ∀ p, (f p).number = p.number)
    (count : ∀ p, (f p).holdCount = p.holdCount) (state : ∀ p, (f p).state ≠ .closeWrite) : Keeps free s (s.mapPeriod f) :=
  { Keeps.refl s with
    number := fun kept => number kept _
    drain := fun h => ⟨fun told => (count _).trans (h.1 told), fun closing => absurd closing (state _)⟩ }

theorem mapConfig_keeps {f : ConfigUnit → ConfigUnit} (lock : ∀ c, c.lock = true → (f c).lock = true) :
    Keeps free s (s.mapConfig f) := { Keeps.refl s with lock := lock _ }

/-- The engine changed, but not its free list. -/
theorem mapEngine_keeps_to {e : Engine} (keeps : s.engine.Keeps free.cash e) (slots : e.freeList = s.engine.freeList) :
    Keeps free s { s with engine := e } :=
  { Keeps.refl s with
    engine := keeps
    drain := fun h => by
      have openHolds : e.openHolds = s.engine.openHolds := congrArg (512 - ·.length) slots
      unfold State.Drains at h ⊢
      rwa [openHolds] }

theorem mapEngine_keeps {f : Engine → Engine} (keeps : ∀ e : Engine, e.Keeps free.cash (f e))
    (slots : ∀ e : Engine, (f e).freeList = e.freeList := by intro; rfl) : Keeps free s (s.mapEngine f) :=
  mapEngine_keeps_to (keeps _) (slots _)

/-- Slots join the free list or leave it, untold. -/
theorem mapEngine_keeps_untold {f : Engine → Engine} (keeps : ∀ e : Engine, e.Keeps free.cash (f e))
    (none : s.period.state = .closeWrite → s.engine.openHolds = 0 → (f s.engine).openHolds = 0) :
    Keeps free.untold s (s.mapEngine f) :=
  { Keeps.refl s with
    engine := keeps _
    drain := fun h => ⟨fun told => absurd trivial told, fun closing => none closing (h.2 closing)⟩ }

theorem mapDeadlines_keeps {f : DeadlineUnit → DeadlineUnit}
    (order : s.deadlineOrder → (s.mapDeadlines f).deadlineOrder) : Keeps free s (s.mapDeadlines f) :=
  { Keeps.refl s with order := fun _ => order }

/-- One lane changed agrees where it agreed. -/
theorem mapLane_keeps (l : Lane) {f : LaneUnit → LaneUnit}
    (agrees : s.lanes[l].slotsAgree = true → (f s.lanes[l]).slotsAgree = true) : Keeps free s (s.mapLane l f) := by
  refine { Keeps.refl s with slots := fun k agree => ?_ }
  by_cases same : k = l
  · subst same
    rw [State.mapLane_same]
    exact agrees agree
  · rwa [State.mapLane_other l k f s same]

end

/-! ## Slots filled and emptied (R153, R154, R156) -/

theorem LaneUnit.slotsAgree_iff (u : LaneUnit) : u.slotsAgree = true ↔
    ((∃ f, u.request = .replying f) ↔ u.reply.isSome = true) ∧
      u.tx.count .reply = (if u.reply.isSome then 1 else 0) ∧ u.tx.count .busy = (if u.busy.isSome then 1 else 0) := by
  unfold LaneUnit.slotsAgree
  cases u.request <;> cases u.reply <;> simp

section
variable {u : LaneUnit}

/-- A reply slot filled for a request that is not REPLYING. -/
theorem LaneUnit.slotsAgree_of_replying {v : LaneUnit} {f : Frame} {r : ReplyFrame} (waits : ∀ g, u.request ≠ .replying g)
    (request : v.request = .replying f) (reply : v.reply = some r) (tx : v.tx = u.tx ++ [.reply]) (busy : v.busy = u.busy)
    (agree : u.slotsAgree = true) : v.slotsAgree = true := by
  rw [LaneUnit.slotsAgree_iff] at agree ⊢
  obtain ⟨replying, replies, busies⟩ := agree
  have empty : u.reply.isSome = false := by
    rw [Bool.eq_false_iff]
    intro full
    obtain ⟨g, h⟩ := replying.2 full
    exact waits g h
  refine ⟨by simp [request, reply], ?_, ?_⟩
  · simp [tx, reply, replies, empty]
  · simpa [tx, busy] using busies

/-- A request that is not REPLYING before and after leaves the slots in agreement. -/
theorem LaneUnit.slotsAgree_of_waiting {v : LaneUnit} (waits : ∀ g, u.request ≠ .replying g)
    (waits' : ∀ g, v.request ≠ .replying g) (reply : v.reply = u.reply) (tx : v.tx = u.tx) (busy : v.busy = u.busy)
    (agree : u.slotsAgree = true) : v.slotsAgree = true := by
  rw [LaneUnit.slotsAgree_iff] at agree ⊢
  rw [reply, tx, busy]
  refine ⟨⟨fun ⟨g, h⟩ => absurd h (waits' g), fun full => ?_⟩, agree.2⟩
  obtain ⟨g, h⟩ := agree.1.2 full
  exact absurd h (waits g)

theorem LaneUnit.sent_slotsAgree (agree : u.slotsAgree = true) : u.sent.slotsAgree = true := by
  unfold LaneUnit.sent
  rw [LaneUnit.slotsAgree_iff] at agree
  obtain ⟨replying, replies, busies⟩ := agree
  split
  next rest tx =>
    rw [tx] at replies busies
    cases full : u.reply.isSome <;> simp [full] at replies
    simp only [LaneUnit.slotsAgree_iff]
    simp_all
  next rest tx =>
    rw [tx] at replies busies
    cases full : u.busy.isSome <;> simp [full] at busies
    simp only [LaneUnit.slotsAgree_iff]
    simp_all
  next =>
    rw [LaneUnit.slotsAgree_iff]
    exact ⟨replying, replies, busies⟩

theorem LaneUnit.accept_slotsAgree (f : Frame) (agree : u.slotsAgree = true) : (u.accept f).slotsAgree = true := by
  have occupied (h : u.request ≠ .empty) : (match u.busy with
      | none => { u with busy := some { kind := f.kind, tag := f.tag, result := .busy, body := [] }, tx := u.tx ++ [.busy] }
      | some _ => u : LaneUnit).slotsAgree = true := by
    split
    next none =>
      rw [LaneUnit.slotsAgree_iff] at agree ⊢
      obtain ⟨replying, replies, busies⟩ := agree
      refine ⟨replying, ?_, ?_⟩
      · simpa using replies
      · simpa [none] using busies
    next => exact agree
  unfold LaneUnit.accept
  split
  next empty =>
    split
    · exact slotsAgree_of_replying (by simp [empty]) rfl rfl rfl rfl agree
    · exact slotsAgree_of_waiting (u := u) (by simp [empty]) (by simp) rfl rfl rfl agree
  next h => exact occupied (by simp [h])
  next h => exact occupied (by simp [h])
  next h => exact occupied (by simp [h])

theorem LaneUnit.heard_slotsAgree (now : Tick) (agree : u.slotsAgree = true) : (u.heard now).slotsAgree = true := by
  unfold LaneUnit.heard
  split
  · exact agree
  · split <;> exact agree
  · exact agree

theorem LaneUnit.goOff_slotsAgree (agree : u.slotsAgree = true) : u.goOff.slotsAgree = true := by
  unfold LaneUnit.goOff
  simp only
  split
  · exact agree
  · rw [LaneUnit.slotsAgree_iff] at agree ⊢
    obtain ⟨replying, replies, _⟩ := agree
    refine ⟨replying, ?_, ?_⟩
    · rw [List.count_filter (by decide)]
      exact replies
    · simp [List.count_eq_zero, List.mem_filter]

theorem LaneUnit.withSettings_slotsAgree (now : Tick) (c : LaneSettings) (agree : u.slotsAgree = true) :
    (u.withSettings now c).slotsAgree = true := by
  unfold LaneUnit.withSettings
  simp only
  split
  · split <;> exact agree
  · split
    · exact goOff_slotsAgree (u := { u with settings := c }) agree
    · repeat' split
      all_goals exact agree
    · repeat' split
      all_goals exact agree

end

/-! ## Replies, notices and flags -/

section
variable {free : Freed} {s : State}

theorem fillReply_keeps (l : Lane) (r : Result) (body : List Byte) : Keeps free s (fillReply l r body s) := by
  refine mapLane_keeps l fun agree => ?_
  split
  next f owned => exact LaneUnit.slotsAgree_of_replying (fun g => by rw [owned]; nofun) rfl rfl rfl rfl agree
  next => exact agree

theorem refuse_keeps (l : Lane) (r : Result) : Keeps free s (refuse l r s) := fillReply_keeps l r []

theorem fillAll_keeps (ls : List Lane) (r : Result) : Keeps free s (fillAll ls r s) := by
  induction ls generalizing s with
  | nil => exact .refl s
  | cons l ls ih => exact (refuse_keeps l r).trans ih

theorem reportPlacement_keeps (l : Lane) (n : Notice) : Keeps free s (reportPlacement l n s) := by
  unfold reportPlacement
  split
  · exact mapLane_keeps l fun agree => agree
  · exact .refl s

theorem placeNotice_keeps (l : Lane) (n : Notice) : Keeps free s (placeNotice l n s) := by
  refine Keeps.trans ?_ (reportPlacement_keeps l n)
  split
  · exact .refl s
  · exact mapNoticeLane_keeps l _

theorem raiseFlag_keeps (c : EventClass) : Keeps free s (raiseFlag c s) := by
  unfold raiseFlag
  split
  · exact .refl s
  · simp only
    split
    · exact (mapNotices_keeps _).trans (placeNotice_keeps _ _)
    · exact mapNotices_keeps _

end

/-! ## Purses, records and holds -/

section
variable {free : Freed} {s : State}

theorem refresh_keeps (slot : Nat) : Keeps free s (refresh slot s) := by
  unfold refresh
  simp only
  split
  · exact mapEngine_keeps fun e => e.mapCard_keeps slot fun _ _ => rfl
  · exact .refl s

theorem onNamed_keeps (b : RecordBody) {fc : CardPurse → CardPurse} (fs : SponsorPurse → SponsorPurse)
    (keeps : ∀ slot ∈ b.cardSlot, ¬ free.cash slot → ∀ p, (fc p).cashBalance = p.cashBalance) :
    Keeps free s (onNamed b fc fs s) := by
  refine mapEngine_keeps (fun e => Engine.Keeps.trans ?_ (Engine.mapSponsor?_keeps _ _)) fun e => ?_
  · cases named : b.cardSlot with
    | none => exact .refl e
    | some slot => exact e.mapCard_keeps slot (keeps slot named)
  · rw [Engine.freeList_mapSponsor?]
    cases b.cardSlot <;> rfl

theorem queueRecord_keeps (l : Lane) (n : Nat) (b : RecordBody) (w : Owner) : Keeps free s (queueRecord l n b w s) :=
  mapJournal_keeps _

theorem engineQueues_keeps (l : Lane) (b : RecordBody) (w : Owner) : Keeps free s (engineQueues l b w s) :=
  (queueRecord_keeps l _ b w).trans (onNamed_keeps b _ fun _ _ _ _ => rfl)

theorem closeFails_keeps : Keeps free s (closeFails s) :=
  (mapPeriod_keeps_of_state (f := fun p => { p with state := .opened, origin := none }) (fun _ _ => rfl) (fun _ => rfl)
    fun _ => nofun).trans (raiseFlag_keeps _)

theorem completeDrain_keeps (none : s.Drains free.count → s.engine.openHolds = 0) : Keeps free s (completeDrain s) := by
  unfold completeDrain
  refine Keeps.trans (t := s.mapPeriod fun p => { p with drainTimer := .stopped }) (mapPeriod_keeps fun _ => rfl) ?_
  dsimp only
  split
  · refine Keeps.trans (t := (s.mapPeriod fun p => { p with drainTimer := .stopped }).mapPeriod fun p =>
      { p with state := .closeWrite }) ?_ (queueRecord_keeps _ _ _ _)
    exact { Keeps.refl (s.mapPeriod fun p => { p with drainTimer := .stopped }) with drain := fun h => ⟨h.1, fun _ => none h⟩ }
  · exact closeFails_keeps

/-- The holds that have come and gone untold are told of, and a drain with none left completes. -/
theorem Keeps.reported {t : State} (h : Keeps free.untold s t) : Keeps free s (reportHolds t) := by
  have told : Keeps free s (t.mapPeriod fun p => { p with holdCount := t.engine.openHolds }) :=
    { memory := h.memory, lock := h.lock, engine := h.engine, slots := h.slots, number := h.number, order := h.order
      drain := fun drains => ⟨fun _ => rfl, (h.drain ⟨fun told => absurd trivial told, drains.2⟩).2⟩ }
  refine told.trans ?_
  unfold reportHolds
  dsimp only
  split
  next last => exact completeDrain_keeps fun _ => last.2
  next => exact .refl _

theorem reportHolds_keeps : Keeps free s (reportHolds s) := Keeps.reported (Keeps.refl s)

/-- A deadline list of which entries are taken away stays in order. -/
theorem filterDeadlines_keeps (p : DeadlineEntry → Bool) :
    Keeps free s (s.mapDeadlines fun d => { d with list := d.list.filter p }) :=
  mapDeadlines_keeps fun order => order.filter p

theorem detachHold_keeps (k : Nat) (reason : EndReason) : Keeps free.untold s (detachHold k reason s) := by
  refine Keeps.trans (mapEngine_keeps_untold (fun e => ?_) fun _ none => ?_) (filterDeadlines_keeps _)
  · dsimp only
    refine .trans ?_ (Engine.withFreeList_keeps _)
    refine .trans (.trans ?_ (Engine.mapLaneHolds_keeps _ _)) (Engine.mapHold_keeps k _)
    refine .trans ?_ (Engine.mapSponsor?_keeps _ _)
    exact Engine.mapCard_keeps _ fun _ _ => rfl
  · unfold Engine.openHolds at none ⊢
    dsimp only [Engine.mapHold, Engine.mapLaneHolds]
    rw [Engine.freeList_mapSponsor?, List.length_append]
    dsimp only [Engine.mapCard]
    omega

theorem noticeEnding_keeps (k : Nat) (reason : EndReason) : Keeps free s (noticeEnding k reason s) := by
  unfold noticeEnding
  simp only
  split
  · exact placeNotice_keeps _ _
  · exact .refl s

theorem endHoldQuietly_keeps (k : Nat) (reason : EndReason) : Keeps free.untold s (endHoldQuietly k reason s) :=
  ((refresh_keeps _).trans (detachHold_keeps k reason)).trans (noticeEnding_keeps k reason)

theorem endHold_keeps (k : Nat) (reason : EndReason) : Keeps free s (endHold k reason s) :=
  (Keeps.reported ((refresh_keeps _).trans (detachHold_keeps k reason))).trans (noticeEnding_keeps k reason)

theorem mapHold_keeps (k : Nat) (f : Hold → Hold) : Keeps free s (s.mapEngine fun e => e.mapHold k f) :=
  mapEngine_keeps fun _ => Engine.mapHold_keeps k f

theorem settlementEnds_keeps (k : Nat) : Keeps free s (settlementEnds k s) := by
  unfold settlementEnds
  simp only
  split
  · exact endHold_keeps _ _
  · split
    · exact endHold_keeps _ _
    · exact mapHold_keeps _ _

theorem markHold_keeps (k : Nat) (m : EndMark) : Keeps free s (markHold k m s) := mapHold_keeps k _

theorem holdGone_keeps (l : Lane) (handle : Nat) : Keeps free s (holdGone l handle s) := fillReply_keeps _ _ _

theorem enterFault_keeps (voidAt : Option Nat) : Keeps free s (enterFault voidAt s) := by
  refine Keeps.trans ?_ ((fillAll_keeps _ _).trans (fillAll_keeps _ _))
  refine Keeps.trans ?_ (mapJournal_keeps _)
  exact ((mapJournal_keeps _).trans (raiseFlag_keeps _)).trans (mapEngine_keeps fun _ => .of_cards rfl rfl id id)

end

end Sys2Proof.Machine
end

section
/-! PROOF. The deadline list in order (R29 to R31), and what the requests and events on holds, captures, reversals and office purses
keep. -/

namespace Sys2Proof.Machine

/-! ## An entry joins the deadline list (R31) -/

/-- The deadline list is in order of the ticks remaining at `now`. -/
def inDeadlineOrder (now : Tick) (l : List DeadlineEntry) : Prop :=
  l.Pairwise fun x y => ticksRemaining now x.deadline ≤ ticksRemaining now y.deadline

theorem State.deadlineOrder_iff (s : State) : s.deadlineOrder ↔ inDeadlineOrder s.deadlines.tick s.deadlines.list := Iff.rfl

/-- An entry joins an ordered list behind every entry with no more ticks remaining and ahead of the rest. -/
theorem insertDeadline_splits (now : Tick) (x : DeadlineEntry) {l : List DeadlineEntry} (order : inDeadlineOrder now l) :
    ∃ front back, l = front ++ back ∧ insertDeadline now x l = front ++ x :: back ∧
      (∀ y ∈ front, ticksRemaining now y.deadline ≤ ticksRemaining now x.deadline) ∧
      (∀ y ∈ back, ticksRemaining now x.deadline < ticksRemaining now y.deadline) := by
  induction l with
  | nil => exact ⟨[], [], rfl, rfl, nofun, nofun⟩
  | cons y t ih =>
    obtain ⟨first, rest⟩ := List.pairwise_cons.1 order
    by_cases due : (y :: t).any (dueNoLater now x) = true
    · obtain ⟨front, back, split, inserted, before, behind⟩ := ih rest
      have head : ticksRemaining now y.deadline ≤ ticksRemaining now x.deadline := by
        obtain ⟨z, mem, le⟩ := List.any_eq_true.1 due
        have le : ticksRemaining now z.deadline ≤ ticksRemaining now x.deadline := by simpa [dueNoLater] using le
        rcases List.mem_cons.1 mem with rfl | mem
        · exact le
        · exact (first z mem).trans le
      exact ⟨y :: front, back, by simp [split], by simp [insertDeadline, due, inserted],
        List.forall_mem_cons.2 ⟨head, before⟩, behind⟩
    · refine ⟨[], y :: t, rfl, by rw [insertDeadline, if_neg due]; rfl, nofun, fun z mem => ?_⟩
      by_contra late
      exact due (List.any_eq_true.2 ⟨z, mem, by simpa [dueNoLater] using late⟩)

theorem insertDeadline_order (now : Tick) (x : DeadlineEntry) {l : List DeadlineEntry} (order : inDeadlineOrder now l) :
    inDeadlineOrder now (insertDeadline now x l) := by
  obtain ⟨front, back, split, inserted, before, behind⟩ := insertDeadline_splits now x order
  subst split
  obtain ⟨ordered, ordered', apart⟩ := List.pairwise_append.1 order
  rw [inserted]
  refine List.pairwise_append.2 ⟨ordered, List.pairwise_cons.2 ⟨fun y mem => (behind y mem).le, ordered'⟩, ?_⟩
  intro y mem z mem'
  rcases List.mem_cons.1 mem' with rfl | mem'
  · exact before y mem
  · exact apart y mem z mem'

section
variable {free : Freed} {s : State}

theorem insertDeadline_keeps (x : DeadlineEntry) :
    Keeps free s (s.mapDeadlines fun d => { d with list := insertDeadline d.tick x d.list }) :=
  mapDeadlines_keeps (insertDeadline_order _ x)

theorem moveDeadline_keeps (x : DeadlineEntry) (handle : Nat) :
    Keeps free s (s.mapDeadlines fun d => { d with list := insertDeadline d.tick x (removeDeadline handle d.list) }) :=
  mapDeadlines_keeps fun order => insertDeadline_order _ x (order.filter _)

/-! ## Requests on holds and their ends (chapter 2) -/

/-- The answer of an owner that keeps what is not freed. -/
def KeepsAfter (free : Freed) (s : State) (a : Answer) : Prop := ∀ t, a = .next t → Keeps free s t

theorem KeepsAfter.next {t : State} (keeps : Keeps free s t) : KeepsAfter free s (.next t) := by
  intro t' next
  cases next
  exact keeps

theorem KeepsAfter.fault (r : Fault) : KeepsAfter free s (.fault r) := by
  intro t next
  cases next

theorem ite_keeps {c : Prop} [Decidable c] {t u : State} (yes : Keeps free s t) (no : Keeps free s u) :
    Keeps free s (if c then t else u) := by
  split
  · exact yes
  · exact no

theorem KeepsAfter.ite {c : Prop} [Decidable c] {a b : Answer} (yes : KeepsAfter free s a) (no : KeepsAfter free s b) :
    KeepsAfter free s (if c then a else b) := by
  split
  · exact yes
  · exact no

theorem placeHold_keeps (l : Lane) (cardSlot : Nat) (sponsor : Option Nat) (a c parts slot : Nat) (rest : List Nat)
    (closing : s.period.state ≠ .closeWrite) : Keeps free s (placeHold l cardSlot sponsor a c parts slot rest s) := by
  unfold placeHold
  dsimp only
  refine Keeps.trans (Keeps.reported (Keeps.trans ?_ (insertDeadline_keeps _))) (fillReply_keeps _ _ _)
  refine mapEngine_keeps_untold (fun e => ?_) fun now => absurd now closing
  refine .trans (.trans ?_ (Engine.mapSponsor?_keeps _ _)) (Engine.mapLaneHolds_keeps _ _)
  refine .trans (.trans (Engine.withFreeList_keeps rest) (Engine.mapHold_keeps _ _)) (Engine.mapCard_keeps _ ?_)
  exact fun _ _ => rfl

theorem holdOnPurse_keeps (l : Lane) (cardSlot amount parts : Nat) (closing : s.period.state ≠ .closeWrite) :
    KeepsAfter free s (holdOnPurse l cardSlot amount parts s) := by
  unfold holdOnPurse
  have refused (r : Result) : KeepsAfter free s (.next (refuse l r s)) := KeepsAfter.next (refuse_keeps l r)
  have answered (r : Result) (body : List Byte) : KeepsAfter free s (.next (fillReply l r body s)) :=
    KeepsAfter.next (fillReply_keeps l r body)
  dsimp only
  refine KeepsAfter.ite (refused _) (KeepsAfter.ite (refused _) (KeepsAfter.ite (answered _ _)
    (KeepsAfter.ite (answered _ _) ?_)))
  split
  · exact KeepsAfter.next (placeHold_keeps _ _ _ _ _ _ _ _ closing)
  · exact KeepsAfter.fault _

theorem engineHold_keeps (l : Lane) (card amount parts : Nat) : KeepsAfter free s (engineHold l card amount parts s) := by
  unfold engineHold
  have refused (r : Result) : KeepsAfter free s (.next (refuse l r s)) := KeepsAfter.next (refuse_keeps l r)
  refine KeepsAfter.ite (refused _) (KeepsAfter.ite (refused _) (KeepsAfter.ite (refused _) ?_))
  split
  next => exact refused _
  next opened =>
    refine KeepsAfter.ite (refused _) (KeepsAfter.ite (refused _) ?_)
    split
    · exact refused _
    · refine KeepsAfter.ite (refused _) fun t next => (refresh_keeps _).trans (holdOnPurse_keeps l _ amount parts ?_ t next)
      rw [refresh_period, not_not.1 opened]
      nofun

theorem releaseHold_keeps (l : Lane) (handle : Nat) : Keeps free s (releaseHold l handle s) :=
  (endHold_keeps _ _).trans (fillReply_keeps _ _ _)

theorem engineRelease_keeps (l : Lane) (handle : Nat) : Keeps free s (engineRelease l handle s) := by
  unfold engineRelease
  refine ite_keeps (refuse_keeps l _) ?_
  split
  · exact holdGone_keeps _ _
  · exact holdGone_keeps _ _
  · exact refuse_keeps l _
  · exact ite_keeps (refuse_keeps l _) (releaseHold_keeps _ _)

theorem extendHold_keeps (l : Lane) (handle : Nat) : Keeps free s (extendHold l handle s) := by
  unfold extendHold
  dsimp only
  exact (((refresh_keeps _).trans (mapHold_keeps _ _)).trans (moveDeadline_keeps _ _)).trans (fillReply_keeps _ _ _)

theorem engineExtend_keeps (l : Lane) (handle : Nat) : Keeps free s (engineExtend l handle s) := by
  unfold engineExtend
  dsimp only
  have refused (r : Result) : Keeps free s (refuse l r s) := refuse_keeps l r
  refine ite_keeps (refused _) ?_
  split
  · exact holdGone_keeps _ _
  · exact holdGone_keeps _ _
  · exact ite_keeps (refused _) (ite_keeps (refused _) (ite_keeps (refused _) (ite_keeps (refused _)
      (extendHold_keeps _ _))))

theorem markDeadlinePassed_keeps (handle : Nat) : Keeps free s (markDeadlinePassed handle s) :=
  ((refresh_keeps _).trans (mapHold_keeps _ _)).trans (filterDeadlines_keeps _)

theorem expireHold_keeps (handle : Nat) (deadline : Tick) : Keeps free s (expireHold handle deadline s) := by
  unfold expireHold
  dsimp only
  split
  · exact ite_keeps (endHold_keeps _ _) (.refl s)
  · exact ite_keeps (markDeadlinePassed_keeps _) (.refl s)
  · exact .refl s
  · exact .refl s

theorem loseHold_keeps (handle : Nat) : Keeps free s (loseHold handle s) := by
  unfold loseHold
  dsimp only
  split
  · exact endHold_keeps _ _
  · exact (refresh_keeps _).trans (markHold_keeps _ _)
  · exact .refl s
  · exact .refl s

theorem walk_keeps {f : Nat → State → State} (keeps : ∀ x s, Keeps free s (f x s)) (handles : List Nat) :
    Keeps free s (walk f handles s) :=
  walk_induction (P := fun _ t => Keeps free s t) (.refl s) (fun _ x kept => kept.trans (keeps x _)) handles

theorem loseLane_keeps (l : Lane) : Keeps free s (loseLane l s) :=
  (walk_keeps (fun x _ => loseHold_keeps x) _).trans (placeNotice_keeps _ _)

/-! ## Captures and reversals (chapter 3) -/

theorem acceptCapture_keeps (l : Lane) (handle amount : Nat) (final : Bool) :
    Keeps free s (acceptCapture l handle amount final s) :=
  ((refresh_keeps _).trans (engineQueues_keeps _ _ _)).trans (mapHold_keeps _ _)

theorem captureOnHold_keeps (l : Lane) (handle amount : Nat) (final : Bool) :
    Keeps free s (captureOnHold l handle amount final s) := by
  unfold captureOnHold
  dsimp only
  split
  · exact holdGone_keeps _ _
  · exact holdGone_keeps _ _
  · exact refuse_keeps l _
  · exact ite_keeps (refuse_keeps l _) (ite_keeps (fillReply_keeps _ _ _) (ite_keeps (refuse_keeps l _)
      (acceptCapture_keeps _ _ _ _)))

theorem engineCapture_keeps (l : Lane) (handle amount final : Nat) : Keeps free s (engineCapture l handle amount final s) := by
  unfold engineCapture
  refine ite_keeps (refuse_keeps l _) (ite_keeps (refuse_keeps l _) ?_)
  split
  · exact refuse_keeps l _
  · exact captureOnHold_keeps _ _ _ _

theorem refreshNamed_keeps (b : RecordBody) : Keeps free s (refreshNamed b s) := by
  unfold refreshNamed
  split
  · exact refresh_keeps _
  · exact .refl s

/-- A durable record's effect, the cash balance of the slot it names freed. -/
theorem applyRecord_keeps (b : RecordBody) (freed : ∀ slot, free.cash slot) : Keeps free s (applyRecord b s) :=
  (refreshNamed_keeps b).trans (onNamed_keeps b _ fun slot _ kept => absurd (freed slot) kept)

theorem forgetRecord_keeps (b : RecordBody) : Keeps free s (forgetRecord b s) := onNamed_keeps b _ fun _ _ _ _ => rfl

theorem countRecord_keeps (r : Record) : Keeps free s (countRecord r s) := mapEngine_keeps fun _ => .of_cards rfl rfl id id

theorem chargeHeld_keeps (b : RecordBody) (ap cp : Nat) : Keeps free s (chargeHeld b ap cp s) :=
  onNamed_keeps b _ fun _ _ _ _ => rfl

theorem settleHold_keeps (handle receipt ap cp : Nat) (final : Bool) :
    Keeps free s (settleHold handle receipt ap cp final s) := by
  unfold settleHold
  dsimp only
  exact Keeps.trans (mapHold_keeps (handleSlot handle) (Hold.charged receipt ap cp))
    (ite_keeps (endHold_keeps _ _) (settlementEnds_keeps _))

theorem ringAppend_length (x : RingEntry) (ring : List RingEntry) (bound : ring.length ≤ 256) :
    (ringAppend x ring).length ≤ 256 := by
  unfold ringAppend
  split
  · simp only [List.length_append, List.length_tail, List.length_singleton]
    omega
  · simp only [List.length_append, List.length_singleton]
    omega

/-- The ring changed within its bound, and no table. -/
theorem Engine.withRing_keeps {cash : Nat → Prop} {e : Engine} {ring : List RingEntry}
    (bound : e.ring.length ≤ 256 → ring.length ≤ 256) : e.Keeps cash { e with ring := ring } :=
  ⟨bound, id, fun _ _ _ => rfl⟩

theorem mapRing_keeps (f : RingEntry → RingEntry) :
    Keeps free s (s.mapEngine fun e => { e with ring := e.ring.map f }) :=
  mapEngine_keeps fun _ => Engine.withRing_keeps fun bound => by simpa using bound

theorem checkSponsorLow_keeps (b : RecordBody) (ap : Nat) : Keeps free s (checkSponsorLow b ap s) := by
  unfold checkSponsorLow
  split
  · exact ite_keeps (raiseFlag_keeps _) (.refl s)
  · exact .refl s

theorem takeCaptureDurable_keeps (r : Record) (ap cp : Nat) (l : Lane) (handle : Nat) (final : Bool)
    (freed : ∀ slot, free.cash slot) : Keeps free s (takeCaptureDurable r ap cp l handle final s) := by
  unfold takeCaptureDurable
  dsimp only
  refine Keeps.trans (Keeps.trans (Keeps.trans ?_ (settleHold_keeps _ _ _ _ _)) (checkSponsorLow_keeps _ _))
    (fillReply_keeps _ _ _)
  refine Keeps.trans (t := countRecord r (chargeHeld r.body ap cp (applyRecord r.body s))) ?_ ?_
  · exact ((applyRecord_keeps _ freed).trans (chargeHeld_keeps _ _ _)).trans (countRecord_keeps _)
  · exact mapEngine_keeps fun _ => Engine.withRing_keeps (ringAppend_length _ _)

theorem takeCaptureAbandoned_keeps (r : Record) (l : Lane) (handle : Nat) :
    Keeps free s (takeCaptureAbandoned r l handle s) :=
  ((forgetRecord_keeps _).trans (settlementEnds_keeps _)).trans (fillReply_keeps _ _ _)

theorem markReversal_keeps (receipt : Nat) (v : ReversalState) : Keeps free s (markReversal receipt v s) := mapRing_keeps _

theorem acceptReverse_keeps (l : Lane) (x : RingEntry) (sponsor : Option Nat) :
    Keeps free s (acceptReverse l x sponsor s) := by
  unfold acceptReverse
  dsimp only
  exact ite_keeps (refuse_keeps l _) (ite_keeps (refuse_keeps l _)
    (((refresh_keeps _).trans (markReversal_keeps _ _)).trans (engineQueues_keeps _ _ _)))

theorem reverseEntry_keeps (l : Lane) (x : RingEntry) : Keeps free s (reverseEntry l x s) := by
  unfold reverseEntry
  have refused (r : Result) : Keeps free s (refuse l r s) := refuse_keeps l r
  refine ite_keeps (refused _) (ite_keeps (refused _) (ite_keeps (refused _) (ite_keeps (refused _)
    (ite_keeps (refused _) ?_))))
  split
  · exact refused _
  · exact acceptReverse_keeps _ _ _

theorem engineReverse_keeps (l : Lane) (receipt : Nat) : Keeps free s (engineReverse l receipt s) := by
  unfold engineReverse
  refine ite_keeps (refuse_keeps l _) (ite_keeps (refuse_keeps l _) ?_)
  split
  · exact refuse_keeps l _
  · exact reverseEntry_keeps _ _

theorem takeReversalDurable_keeps (r : Record) (ap cp : Nat) (back : Bool) (l : Lane) (receipt : Nat)
    (freed : ∀ slot, free.cash slot) : Keeps free s (takeReversalDurable r ap cp back l receipt s) :=
  (((applyRecord_keeps _ freed).trans (countRecord_keeps _)).trans (markReversal_keeps _ _)).trans (fillReply_keeps _ _ _)

theorem takeReversalAbandoned_keeps (r : Record) (l : Lane) (receipt : Nat) :
    Keeps free s (takeReversalAbandoned r l receipt s) :=
  ((forgetRecord_keeps _).trans (markReversal_keeps _ _)).trans (refuse_keeps _ _)

/-! ## Office operations (chapter 4) -/

theorem acceptOffice_keeps (l : Lane) (body : State → RecordBody) {reserve : State → State}
    (reserves : Keeps free s (reserve s)) : Keeps free s (acceptOffice l body reserve s) := by
  unfold acceptOffice
  split
  · exact reserves.trans (engineQueues_keeps _ _ _)
  · exact refuse_keeps _ _

theorem reserveOn_keeps (slot : Nat) {f : CardPurse → CardPurse} (keeps : ∀ p, (f p).cashBalance = p.cashBalance) :
    Keeps free s (reserveOn slot f s) := mapEngine_keeps fun e => e.mapCard_keeps slot fun _ => keeps

theorem onOpenCard_keeps (l : Lane) (card : Nat) {own : Nat → State → State} (keeps : ∀ slot t, Keeps free t (own slot t)) :
    Keeps free s (onOpenCard l card own s) := by
  unfold onOpenCard
  split
  next => exact refuse_keeps l _
  next slot _ => exact (refresh_keeps slot).trans (ite_keeps (refuse_keeps l _) (keeps slot _))

theorem engineOpenPurse_keeps (l : Lane) (card : Nat) : Keeps free s (engineOpenPurse l card s) := by
  unfold engineOpenPurse
  split
  · exact refuse_keeps l _
  · exact ite_keeps (refuse_keeps l _) (ite_keeps (refuse_keeps l _) (acceptOffice_keeps _ _ (reserveOn_keeps _ fun _ => rfl)))

theorem engineClosePurse_keeps (l : Lane) (card : Nat) : Keeps free s (engineClosePurse l card s) :=
  onOpenCard_keeps l card fun _ _ => ite_keeps (fillReply_keeps _ _ _) (ite_keeps (refuse_keeps l _)
    (ite_keeps (refuse_keeps l _) (acceptOffice_keeps _ _ (reserveOn_keeps _ fun _ => rfl))))

theorem engineChangeState_keeps (l : Lane) (card : Nat) (needed : PurseState) (kind : StateKind) :
    Keeps free s (engineChangeState l card needed kind s) :=
  onOpenCard_keeps l card fun _ t => ite_keeps (refuse_keeps l _) (acceptOffice_keeps _ _ (.refl t))

theorem engineTopUp_keeps (l : Lane) (card amount : Nat) : Keeps free s (engineTopUp l card amount s) :=
  ite_keeps (refuse_keeps l _) (onOpenCard_keeps l card fun _ _ => ite_keeps (fillReply_keeps _ _ _)
    (acceptOffice_keeps _ _ (reserveOn_keeps _ fun _ => rfl)))

theorem engineWithdraw_keeps (l : Lane) (card amount : Nat) : Keeps free s (engineWithdraw l card amount s) :=
  ite_keeps (refuse_keeps l _) (onOpenCard_keeps l card fun _ _ => ite_keeps (fillReply_keeps _ _ _)
    (acceptOffice_keeps _ _ (reserveOn_keeps _ fun _ => rfl)))

theorem engineFundSponsor_keeps (l : Lane) (sponsor amount : Nat) : Keeps free s (engineFundSponsor l sponsor amount s) :=
  ite_keeps (refuse_keeps l _) (ite_keeps (refuse_keeps l _) (ite_keeps (fillReply_keeps _ _ _)
    (acceptOffice_keeps _ _ (.refl s))))

theorem unreserve_keeps (b : RecordBody) : Keeps free s (unreserve b s) := by
  refine onNamed_keeps b _ fun _ _ _ p => ?_
  unfold CardPurse.unreserve
  split <;> rfl

theorem markClosed_keeps (b : RecordBody) : Keeps free s (markClosed b s) := by
  unfold markClosed
  split
  · exact mapRing_keeps _
  · exact .refl s

theorem takeOfficeDurable_keeps (r : Record) (l : Lane) (freed : ∀ slot, free.cash slot) :
    Keeps free s (takeOfficeDurable r l s) :=
  (((((refreshNamed_keeps _).trans (applyRecord_keeps _ freed)).trans (unreserve_keeps _)).trans
    (countRecord_keeps _)).trans (markClosed_keeps _)).trans (fillReply_keeps _ _ _)

theorem takeOfficeAbandoned_keeps (r : Record) (l : Lane) : Keeps free s (takeOfficeAbandoned r l s) :=
  ((forgetRecord_keeps _).trans (unreserve_keeps _)).trans (refuse_keeps _ _)

end

end Sys2Proof.Machine
end

section
/-! PROOF. What the requests and events of the periods, the purse table, the configuration, the lanes, the notices, the journal and
the restore keep. -/

namespace Sys2Proof.Machine

section
variable {free : Freed} {s : State}

/-! ## Periods (chapter 5) -/

/-- Where no entry is due now, the next tick brings every deadline one tick nearer. -/
theorem ticksRemaining_succ {now d : Tick} (later : d ≠ now) : ticksRemaining now d = ticksRemaining (now + 1) d + 1 := by
  unfold ticksRemaining
  bv_omega

theorem tick_keeps_order (later : ∀ y ∈ s.deadlines.list, y.deadline ≠ s.now) (order : s.deadlineOrder) :
    inDeadlineOrder (s.now + 1) s.deadlines.list := by
  refine List.Pairwise.imp_of_mem (fun {x y} memx memy le => ?_) order
  have atx := ticksRemaining_succ (later x memx)
  have aty := ticksRemaining_succ (later y memy)
  omega

theorem tick_keeps (due : ¬ free.order → ∀ y ∈ s.deadlines.list, y.deadline ≠ s.now) :
    Keeps free s ((reachTimers (countTick s)).mapPeriod PeriodControl.countClock) where
  memory := rfl
  lock := id
  engine := .of_cards rfl rfl id id
  slots l agree := by
    have lane : (reachTimers (countTick s)).lanes[l] = { s.lanes[l] with silence := s.lanes[l].silence.reach (s.now + 1) } :=
      Vector.getElem_map ..
    show (reachTimers (countTick s)).lanes[l].slotsAgree = true
    rw [lane]
    exact agree
  number _ := by
    show (PeriodControl.countClock _).number = _
    unfold PeriodControl.countClock
    split
    · rfl
    · split <;> rfl
  order kept := tick_keeps_order (due kept)
  drain h := by
    have same : ∀ p : PeriodControl, p.countClock.holdCount = p.holdCount ∧ p.countClock.state = p.state := fun p => by
      unfold PeriodControl.countClock
      split
      · exact ⟨rfl, rfl⟩
      · split <;> exact ⟨rfl, rfl⟩
    exact ⟨fun told => (same _).1.trans (h.1 told), 
      fun closing => h.2 ((same (reachTimers (countTick s)).period).2.symm.trans closing)⟩

/-- A close starts, the hold count being told. -/
theorem startClose_keeps (told : ¬ free.count) (origin : Origin) : Keeps free s (startClose origin s) := by
  unfold startClose
  refine Keeps.trans (t := s.mapPeriod fun p => { p with
    origin := some origin, state := .freezing, drainTimer := .running (ticksFrom s.now p.drainLimit) }) ?_ ?_
  · exact mapPeriod_keeps_of_state (fun _ _ => rfl) (fun _ => rfl) fun _ => nofun
  · dsimp only
    split
    next none => exact completeDrain_keeps fun drains => (drains.1 told).symm.trans none
    next => exact .refl _

theorem advanceClock_keeps (told : ¬ free.count) (c : Nat) : Keeps free s (advanceClock c s) := by
  unfold advanceClock
  refine Keeps.trans (mapPeriod_keeps (f := fun p => { p with clock := some (nextSecond c), clockDue := p.clockDue - 1 })
    fun _ => rfl) ?_
  dsimp only
  split
  · exact ite_keeps (startClose_keeps told _) (.refl _)
  · exact .refl _

theorem controlClosePeriod_keeps (told : ¬ free.count) (l : Lane) : Keeps free s (controlClosePeriod l s) :=
  ite_keeps (fillReply_keeps _ _ _) ((startClose_keeps told _).trans (fillReply_keeps _ _ _))

theorem drainHold_keeps (handle : Nat) : Keeps free.untold s (drainHold handle s) := by
  unfold drainHold
  dsimp only
  split
  · exact endHoldQuietly_keeps _ _
  · exact (refresh_keeps _).trans (markHold_keeps _ _)
  · exact .refl s
  · exact .refl s

theorem drainWalk_keeps : Keeps free s (drainWalk s) :=
  Keeps.reported ((walk_keeps (fun x _ => drainHold_keeps x) _).trans (ite_keeps (raiseFlag_keeps _) (.refl _)))

theorem closeTotals_keeps : Keeps free s (closeTotals s) := by
  unfold closeTotals
  refine .trans ?_ (mapPeriod_keeps fun _ => rfl)
  exact mapEngine_keeps fun _ => .of_cards rfl rfl id id

theorem advancePeriod_keeps (freed : free.number) : Keeps free s (advancePeriod s) :=
  Keeps.trans (t := s.mapPeriod fun p =>
      { p with number := nextPeriod p.number, state := .opened, origin := none, closeEnd := none })
    (mapPeriod_keeps_of_state (fun kept => absurd freed kept) (fun _ => rfl) fun _ => nofun) (raiseFlag_keeps _)

theorem controlSetClock_keeps (l : Lane) (seconds : Nat) : Keeps free s (controlSetClock l seconds s) :=
  ite_keeps (refuse_keeps l _)
    ((mapPeriod_keeps (f := fun p => { p with clock := some seconds, clockTicks := 0, clockDue := 0 }) fun _ => rfl).trans
      (fillReply_keeps _ _ _))

theorem controlSetSchedule_keeps (l : Lane) (entry time enable : Nat) :
    Keeps free s (controlSetSchedule l entry time enable s) := by
  unfold controlSetSchedule
  split
  · split
    · refine Keeps.trans ?_ (fillReply_keeps _ _ _)
      exact mapPeriod_keeps fun _ => rfl
    · exact refuse_keeps l _
  · exact refuse_keeps l _

theorem controlSetDrainLimit_keeps (l : Lane) (seconds : Nat) : Keeps free s (controlSetDrainLimit l seconds s) :=
  ite_keeps (refuse_keeps l _)
    ((mapPeriod_keeps (f := fun p => { p with drainLimit := seconds }) fun _ => rfl).trans (fillReply_keeps _ _ _))

theorem engineReadTotals_keeps (l : Lane) (part : Nat) : Keeps free s (engineReadTotals l part s) := by
  unfold engineReadTotals
  split
  · exact fillReply_keeps _ _ _
  · exact fillReply_keeps _ _ _
  · exact fillReply_keeps _ _ _
  · exact fillReply_keeps _ _ _
  · exact refuse_keeps l _

/-! ## The purse table and the range map (chapter 1) -/

theorem engineBalance_keeps (l : Lane) (card : Nat) : Keeps free s (engineBalance l card s) := by
  unfold engineBalance
  split
  · exact refuse_keeps l _
  · exact (refresh_keeps _).trans (fillReply_keeps _ _ _)

theorem engineReadPurse_keeps (l : Lane) (slot : Nat) : Keeps free s (engineReadPurse l slot s) :=
  ite_keeps (refuse_keeps l _) (ite_keeps ((refresh_keeps _).trans (fillReply_keeps _ _ _)) (fillReply_keeps _ _ _))

theorem writeRange_keeps (l : Lane) (k : Fin 8) (x : RangeEntry) : Keeps free s (writeRange l k x s) := by
  unfold writeRange
  dsimp only
  refine ite_keeps (refuse_keeps l _) (ite_keeps (refuse_keeps l _) (ite_keeps (refuse_keeps l _) (ite_keeps (refuse_keeps l _)
    (ite_keeps (refuse_keeps l _) ?_))))
  have placed : Keeps free s (s.mapEngine fun e => { e with ranges := s.engine.ranges.set k x }) :=
    mapEngine_keeps fun _ => .of_cards rfl rfl id id
  exact placed.trans (fillReply_keeps _ _ _)

theorem engineSetRange_keeps (l : Lane) (entry enabled firstCard slotEnd grant sponsor limit : Nat) :
    Keeps free s (engineSetRange l entry enabled firstCard slotEnd grant sponsor limit s) := by
  unfold engineSetRange
  split
  · exact refuse_keeps l _
  · exact writeRange_keeps _ _ _

/-- A new sponsor count empties the slots that change region, and no other. -/
theorem Engine.withSponsorCount_keeps {cash : Nat → Prop} {e : Engine} {count : Nat}
    (freed : ∀ slot, slot + min count e.sponsorCount < 4096 → 4096 ≤ slot + max count e.sponsorCount → cash slot) :
    e.Keeps cash (e.withSponsorCount count) where
  ring := id
  tables := fun ⟨c, p, h⟩ => ⟨e.wf_emptyCards c _ _, Table.wf_clearRange _ _ p, h⟩
  cash _ slot kept := by
    have outside : ¬ (4096 - max count e.sponsorCount ≤ slot ∧ slot < 4096 - min count e.sponsorCount) := fun inside =>
      kept (freed slot (by omega) (by omega))
    exact congrArg CardPurse.cashBalance (e.card_emptyCards_other outside)

theorem engineSetSponsorCount_keeps (l : Lane) (count : Nat)
    (freed : ∀ slot, slot + min count s.engine.sponsorCount < 4096 → 4096 ≤ slot + max count s.engine.sponsorCount →
      free.cash slot) : Keeps free s (engineSetSponsorCount l count s) :=
  ite_keeps (refuse_keeps l _) (ite_keeps (refuse_keeps l _) (ite_keeps (refuse_keeps l _)
    (Keeps.trans (t := s.mapEngine (Engine.withSponsorCount count))
      { Keeps.refl s with engine := Engine.withSponsorCount_keeps freed } (fillReply_keeps _ _ _))))

/-! ## The configuration (chapter 9) -/

theorem configSetCeiling_keeps (l : Lane) (amount : Nat) : Keeps free s (configSetCeiling l amount s) :=
  ite_keeps (refuse_keeps l _)
    ((mapConfig_keeps (f := fun c => { c with ceiling := amount }) fun _ => id).trans (fillReply_keeps _ _ _))

theorem configSetLowMark_keeps (l : Lane) (amount : Nat) : Keeps free s (configSetLowMark l amount s) :=
  ite_keeps (refuse_keeps l _)
    ((mapConfig_keeps (f := fun c => { c with lowMark := amount }) fun _ => id).trans (fillReply_keeps _ _ _))

theorem lockConfig_keeps (l : Lane) :
    Keeps free s (fillReply l .ok [] (s.mapConfig fun c => { c with lock := true })) :=
  (mapConfig_keeps (f := fun c => { c with lock := true }) fun _ _ => rfl).trans (fillReply_keeps _ _ _)

theorem configSaveConfig_keeps (l : Lane) : Keeps free s (configSaveConfig l s) :=
  ite_keeps (refuse_keeps l _) (mapJournal_keeps _)

theorem configReadConfig_keeps (l : Lane) (part : Nat) : Keeps free s (configReadConfig l part s) := by
  unfold configReadConfig
  split
  · exact fillReply_keeps _ _ _
  · exact refuse_keeps l _

/-! ## Lanes and notices (chapters 7 and 8) -/

theorem linkErrorAt_keeps (l : Lane) (next : Receiver) : Keeps free s (linkErrorAt l next s) :=
  (mapLane_keeps l (f := fun u => { u with linkError := true, receiver := next }) fun agree => agree).trans (raiseFlag_keeps _)

theorem setReceiver_keeps (l : Lane) (r : Receiver) : Keeps free s (setReceiver l r s) := mapLane_keeps l fun agree => agree

theorem frameArrives_keeps (l : Lane) (f : Frame) : Keeps free s (frameArrives l f s) :=
  mapLane_keeps l fun agree => LaneUnit.accept_slotsAgree f (LaneUnit.heard_slotsAgree s.now agree)

theorem frameComplete_keeps (l : Lane) (got : List Byte) : Keeps free s (frameComplete l got s) := by
  unfold frameComplete
  dsimp only
  split
  · exact ite_keeps ((setReceiver_keeps _ _).trans (frameArrives_keeps _ _)) (linkErrorAt_keeps _ _)
  · exact linkErrorAt_keeps _ _

theorem byteInFrame_keeps (l : Lane) (got : List Byte) (b : Byte) : Keeps free s (byteInFrame l got b s) := by
  unfold byteInFrame
  split
  · exact ite_keeps (linkErrorAt_keeps _ _) (setReceiver_keeps _ _)
  · exact ite_keeps (frameComplete_keeps _ _) (setReceiver_keeps _ _)

theorem receiveByte_keeps (l : Lane) (b : Byte) (stopBit : Bool) : Keeps free s (receiveByte l b stopBit s) := by
  unfold receiveByte
  split
  · exact .refl s
  · exact ite_keeps (linkErrorAt_keeps _ _) (ite_keeps (setReceiver_keeps _ _) (.refl s))
  · exact ite_keeps (linkErrorAt_keeps _ _) (byteInFrame_keeps _ _ _)
  · exact ite_keeps (linkErrorAt_keeps _ _) (.refl s)

theorem RequestSlot.waitingFrame_some {r : RequestSlot} {f : Frame} : r.waitingFrame = some f ↔ r = .waiting f := by
  cases r <;> simp [RequestSlot.waitingFrame]

/-- The lane of the next grant has a request that waits. -/
theorem State.waiting_of_nextGrant {l : Lane} {f : Frame} (grant : s.nextGrant = some (l, f)) :
    s.lanes[l].request = .waiting f := by
  unfold State.nextGrant at grant
  split at grant
  · cases grant
  · obtain ⟨k, _, found⟩ := List.exists_of_findSome?_eq_some grant
    obtain ⟨g, waits, same⟩ := Option.map_eq_some_iff.1 found
    cases same
    exact RequestSlot.waitingFrame_some.1 waits

theorem grantRequest_keeps {l : Lane} {f : Frame} (waits : s.lanes[l].request = .waiting f) :
    Keeps free s (grantRequest l f s) := by
  have notReplying (g : Frame) : s.lanes[l].request ≠ .replying g := by
    rw [waits]
    nofun
  unfold grantRequest answerPing
  dsimp only
  refine Keeps.trans (mapArbiter_keeps fun a => { a with pointer := l }) (ite_keeps ?_ (ite_keeps ?_ ?_))
  · refine mapLane_keeps l fun agree => ?_
    exact LaneUnit.slotsAgree_of_replying (u := s.lanes[l]) notReplying rfl rfl rfl rfl agree
  · refine mapLane_keeps l fun agree => ?_
    exact LaneUnit.slotsAgree_of_replying (u := s.lanes[l]) notReplying rfl rfl rfl rfl agree
  · refine Keeps.trans (mapLane_keeps l fun agree => ?_) (mapArbiter_keeps _)
    exact LaneUnit.slotsAgree_of_waiting (v := { s.lanes[l] with request := .withOwner f }) notReplying nofun rfl rfl rfl agree

theorem loseSilentLane_keeps (l : Lane) :
    Keeps free s (raiseFlag .laneLost
      ((s.mapLane l fun u => { u with state := .lost, silence := .stopped, noticeAwaited := true }).mapEngine fun e =>
        { e with lostLanes := e.lostLanes ++ [l] })) := by
  refine .trans (.trans ?_ (mapEngine_keeps (f := fun e => { e with lostLanes := e.lostLanes ++ [l] })
    fun _ => .of_cards rfl rfl id id)) (raiseFlag_keeps _)
  exact mapLane_keeps l fun agree => agree

theorem writeLane_keeps (l named : Lane) (c : LaneSettings) : Keeps free s (writeLane l named c s) :=
  Keeps.trans (Keeps.trans (mapLane_keeps named fun agree => LaneUnit.withSettings_slotsAgree s.now c agree)
    (ite_keeps (mapNoticeLane_keeps _ _) (.refl _))) (fillReply_keeps _ _ _)

theorem engineSetLane_keeps (l : Lane) (named role holdLifetime silenceLimit holdLimit : Nat) :
    Keeps free s (engineSetLane l named role holdLifetime silenceLimit holdLimit s) := by
  unfold engineSetLane
  split
  · exact ite_keeps (refuse_keeps l _) (ite_keeps (refuse_keeps l _) (writeLane_keeps _ _ _))
  · exact refuse_keeps l _

theorem LaneUnit.lossCollected_slotsAgree (now : Tick) {u : LaneUnit} (agree : u.slotsAgree = true) :
    (u.lossCollected now).slotsAgree = true := by
  unfold LaneUnit.lossCollected
  split <;> exact agree

theorem noticesPoll_keeps (l : Lane) : Keeps free s (noticesPoll l s) :=
  Keeps.trans (Keeps.trans (mapNoticeLane_keeps _ _)
    (ite_keeps (mapLane_keeps l fun agree => LaneUnit.lossCollected_slotsAgree _ agree) (.refl _))) (fillReply_keeps _ _ _)

theorem noticesSetRoute_keeps (l : Lane) (eventClass route : Nat) : Keeps free s (noticesSetRoute l eventClass route s) := by
  unfold noticesSetRoute
  split
  · split
    · exact (mapNotices_keeps _).trans (fillReply_keeps _ _ _)
    · exact refuse_keeps l _
  · exact refuse_keeps l _

theorem noticesClearEvents_keeps (l : Lane) (classes : Nat) : Keeps free s (noticesClearEvents l classes s) :=
  ite_keeps (refuse_keeps l _) ((mapNotices_keeps _).trans (fillReply_keeps _ _ _))

/-! ## The journal's requests and reads (chapter 6) -/

theorem freePort_keeps : Keeps free s (freePort s) := mapJournal_keeps _
theorem holdPort_keeps (op : PortOp) : Keeps free s (holdPort op s) := mapJournal_keeps _
theorem startWrite_keeps (op : PortOp) (address : Nat) (bytes : List Byte) : Keeps free s (startWrite op address bytes s) :=
  mapJournal_keeps _

theorem journalSync_keeps (l : Lane) : Keeps free s (journalSync l s) := ite_keeps (refuse_keeps l _) (mapJournal_keeps _)

theorem answerSyncs_keeps : Keeps free s (answerSyncs s) := (mapJournal_keeps _).trans (fillAll_keeps _ _)

theorem journalReadJournal_keeps (l : Lane) (sequence : Nat) : Keeps free s (journalReadJournal l sequence s) :=
  ite_keeps (mapJournal_keeps _) (refuse_keeps l _)

theorem judgeRead_keeps (l : Lane) (sequence readsDone : Nat) (voided : Bool) (unit : List Byte) :
    Keeps free s (judgeRead l sequence readsDone voided unit s) := by
  have refused (r : Result) : Keeps free s (refuse l r (freePort s)) := freePort_keeps.trans (refuse_keeps l r)
  unfold judgeRead
  split
  · exact ite_keeps (freePort_keeps.trans (fillReply_keeps _ _ _)) (refused _)
  · exact ite_keeps (holdPort_keeps _) (ite_keeps (refused _) (refused _))

theorem journalRetryStore_keeps (l : Lane) : Keeps free s (journalRetryStore l s) :=
  ite_keeps (refuse_keeps l _) (ite_keeps (refuse_keeps l _) (mapJournal_keeps _))

theorem endRetry_keeps (r : Result) : Keeps free s (endRetry r s) :=
  ((mapJournal_keeps _).trans freePort_keeps).trans (fillAll_keeps _ _)

theorem retryFails_keeps : Keeps free s (retryFails s) := endRetry_keeps _

theorem retrySucceeds_keeps : Keeps free s (retrySucceeds s) :=
  ((mapJournal_keeps _).trans (raiseFlag_keeps _)).trans (endRetry_keeps _)

/-! ## The restore and the format (chapter 9) -/

theorem loadConfig_keeps (c : WorkingConfig) (source : ConfigSource) : Keeps free s (loadConfig c source s) where
  memory := rfl
  lock := id
  engine := .of_cards rfl rfl id id
  slots l agree := by
    have lane : (loadConfig c source s).lanes[l] = s.lanes[l].opened c.lanes[l] := Vector.getElem_ofFn ..
    rw [lane]
    exact agree
  number _ := rfl
  order _ := id
  drain := id

theorem restoreStops_keeps (part : PartState) (finding : Finding) : Keeps free s (restoreStops part finding s) :=
  mapRestore_keeps _

theorem loadHeader_keeps (found : HeaderFound) : Keeps free s (loadHeader found s) := by
  unfold loadHeader
  split
  · exact (loadConfig_keeps _ _).trans (restoreStops_keeps _ _)
  · exact (loadConfig_keeps _ _).trans (restoreStops_keeps _ _)
  · exact ((loadConfig_keeps _ _).trans (raiseFlag_keeps _)).trans (mapRestore_keeps _)
  · exact (loadConfig_keeps _ _).trans (mapRestore_keeps _)

theorem scanRing_keeps (defaulted : Bool) (units : List (Option Record)) : Keeps free s (scanRing defaulted units s) :=
  ite_keeps (mapRestore_keeps _) (restoreStops_keeps _ _)

theorem restoredRing_length (records : List Record) : (restoredRing records).length ≤ 256 := by
  simp only [restoredRing, List.length_map, List.length_drop]
  omega

theorem finishRestore_keeps (newest : Nat) (records : List Record) (freed : free.number) :
    Keeps free s (finishRestore newest records s) := by
  unfold finishRestore
  dsimp only
  refine Keeps.trans (Keeps.trans (Keeps.trans ?_ (ite_keeps (raiseFlag_keeps _) (.refl _))) (mapJournal_keeps _))
    (mapRestore_keeps _)
  refine Keeps.trans (t := s.mapPeriod fun p => { p with
    number := restoredPeriod s.restore.formatPeriod records, state := .opened }) ?_ ?_
  · exact mapPeriod_keeps_of_state (fun kept => absurd freed kept) (fun _ => rfl) fun _ => nofun
  · refine mapEngine_keeps fun e => .trans (e' := { e with ring := restoredRing records }) ?_ (.of_cards rfl rfl id id)
    exact Engine.withRing_keeps fun _ => restoredRing_length records

theorem nextRewrite_keeps (newest : Nat) (records : List Record) (rewrites : List (Nat × List Byte)) (freed : free.number) :
    Keeps free s (nextRewrite newest records rewrites s) := by
  unfold nextRewrite
  split
  · exact (mapRestore_keeps _).trans (startWrite_keeps _ _ _)
  · exact finishRestore_keeps _ _ freed

theorem placePurse_keeps {cash : Nat → Prop} (k : Nat) (x : Fitted) {e : Engine} (freed : ∀ slot, cash slot) :
    e.Keeps cash (placePurse k x e) := by
  cases x with
  | card p => exact Engine.mapCard_keeps k (f := fun _ => p) fun kept => absurd (freed k) kept
  | sponsor balance => exact Engine.mapSponsor_keeps (4095 - k) fun _ => { SponsorPurse.zero with balance := balance }

theorem rebuild_keeps {cash : Nat → Prop} (freed : ∀ slot, cash slot) (images : Nat → Option Image) (records : List Record)
    (ks : List Nat) {e e' : Engine} {rewrites rewrites' : List (Nat × List Byte)}
    (ok : rebuild images records ks e rewrites = .ok (e', rewrites')) : e.Keeps cash e' := by
  induction ks generalizing e rewrites with
  | nil =>
    cases ok
    exact .refl _
  | cons k ks ih =>
    simp only [rebuild] at ok
    split at ok
    · cases ok
    · split at ok
      · cases ok
      · exact (placePurse_keeps k _ freed).trans (ih ok)

theorem placePurse_freeList (k : Nat) (x : Fitted) (e : Engine) : (placePurse k x e).freeList = e.freeList := by cases x <;> rfl

theorem rebuild_freeList {images : Nat → Option Image} {records : List Record} {ks : List Nat} {e e' : Engine}
    {rewrites rewrites' : List (Nat × List Byte)} (ok : rebuild images records ks e rewrites = .ok (e', rewrites')) :
    e'.freeList = e.freeList := by
  induction ks generalizing e rewrites with
  | nil =>
    cases ok
    rfl
  | cons k ks ih =>
    simp only [rebuild] at ok
    split at ok
    · cases ok
    · split at ok
      · cases ok
      · exact (ih ok).trans (placePurse_freeList k _ e)

theorem restoreImages_keeps (defaulted : Bool) (newest : Nat) (records : List Record) (images : Nat → Option Image)
    (number : free.number) (freed : ∀ slot, free.cash slot) :
    Keeps free s (restoreImages defaulted newest records images s) := by
  unfold restoreImages
  split
  next e rewrites ok =>
    refine Keeps.trans (t := { s with engine := e }) ?_ (nextRewrite_keeps _ _ _ number)
    exact mapEngine_keeps_to (rebuild_keeps freed _ _ _ ok) (rebuild_freeList ok)
  next => exact restoreStops_keeps _ _

theorem restoreContinues_keeps (freed : free.number) : Keeps free s (restoreContinues s) := by
  unfold restoreContinues
  split
  · exact nextRewrite_keeps _ _ _ freed
  · exact freePort_keeps

theorem restoreWriteFails_keeps : Keeps free s (restoreWriteFails s) := freePort_keeps.trans (restoreStops_keeps _ _)

theorem dropReads_keeps : Keeps free s (dropReads s) := (mapJournal_keeps _).trans (fillAll_keeps _ _)

theorem restoreFormatStore_keeps (l : Lane) : Keeps free s (restoreFormatStore l s) := by
  unfold restoreFormatStore
  split
  · exact refuse_keeps l _
  · exact refuse_keeps l _
  · exact mapRestore_keeps _
  · exact mapRestore_keeps _
  · exact ite_keeps (refuse_keeps l _) (ite_keeps (refuse_keeps l _) (ite_keeps (refuse_keeps l _)
      (dropReads_keeps.trans (mapRestore_keeps _))))

theorem answerFormat_keeps (r : Result) (body : List Byte) : Keeps free s (answerFormat r body s) := by
  unfold answerFormat
  dsimp only
  refine Keeps.trans (t := freePort (s.mapRestore fun x => { x with format := none })) ?_ ?_
  · exact (mapRestore_keeps _).trans freePort_keeps
  · split
    · exact fillReply_keeps _ _ _
    · exact .refl _

theorem formatFails_keeps : Keeps free s (formatFails s) := by
  refine Keeps.trans (Keeps.trans (restoreStops_keeps .unformatted .storeWrite) ?_) (answerFormat_keeps _ _)
  exact mapEngine_keeps fun _ => Engine.withRing_keeps fun _ => Nat.zero_le 256

theorem formatDone_keeps (number : free.number) (freed : ∀ slot, free.cash slot) : Keeps free s (formatDone s) := by
  refine Keeps.trans ?_ (answerFormat_keeps _ _)
  exact
    { memory := rfl, lock := id, slots := fun _ => id, number := fun kept => absurd number kept, order := fun _ => id,
      drain := fun h => ⟨h.1, nofun⟩,
      engine :=
        { ring := fun _ => Nat.zero_le 256
          tables := fun ⟨c, _, h⟩ => ⟨s.engine.wf_emptyCards c _ _, rfl, h⟩
          cash := fun _ slot kept => absurd (freed slot) kept } }

theorem formatRing_keeps (k : Nat) : Keeps free s (formatRing k s) := ite_keeps (startWrite_keeps _ _ _) (startWrite_keeps _ _ _)
theorem formatImages_keeps (k : Nat) : Keeps free s (formatImages k s) :=
  ite_keeps (startWrite_keeps _ _ _) (startWrite_keeps _ _ _)

/-! ## The store port (chapter 6) -/

theorem endRecord_keeps (r : Record) : Keeps free s (endRecord r s) := (mapJournal_keeps _).trans freePort_keeps

theorem nextImage_keeps (r : Record) (slots : List Nat) : Keeps free s (nextImage r slots s) := by
  unfold nextImage
  split
  · exact startWrite_keeps _ _ _
  · exact endRecord_keeps r

theorem grantWaitingRead_keeps : Keeps free s (grantWaitingRead s) := by
  unfold grantWaitingRead
  split
  · exact (mapJournal_keeps _).trans (holdPort_keeps _)
  · exact .refl s

theorem grantOk_keeps : Keeps free s (grantOk s) := by
  refine ite_keeps grantWaitingRead_keeps ?_
  split
  · exact startWrite_keeps _ _ _
  · split
    · exact (mapJournal_keeps _).trans (startWrite_keeps _ _ _)
    · split
      · exact (mapJournal_keeps _).trans (startWrite_keeps _ _ _)
      · exact grantWaitingRead_keeps

theorem grantFault_keeps : Keeps free s (grantFault s) := by
  unfold grantFault
  split
  · exact holdPort_keeps _
  · exact grantWaitingRead_keeps

theorem grantPort_keeps : Keeps free s (grantPort s) := by
  unfold grantPort
  split
  · exact ite_keeps grantOk_keeps grantFault_keeps
  · exact ite_keeps (.refl s) (startWrite_keeps _ _ _)
  · exact .refl s
  · exact .refl s
  · exact .refl s

theorem recordDurable_keeps (r : Record) : Keeps free s (recordDurable r s) := by
  unfold recordDurable
  dsimp only
  refine .trans (.trans (.trans (mapJournal_keeps fun j => { j with lastDurable := r.sequence }) ?_) answerSyncs_keeps)
    (nextImage_keeps _ _)
  exact mapEngine_keeps (f := fun e => { e with journalEvents := e.journalEvents ++ [.durable r (s.journal.ownerOf r)] })
    fun _ => .of_cards rfl rfl id id

theorem retryContinues_keeps : Keeps free s (retryContinues s) := by
  unfold retryContinues
  split
  · exact startWrite_keeps _ _ _
  · exact retrySucceeds_keeps

theorem retryVoided_keeps : Keeps free s (retryVoided s) := by
  unfold retryVoided
  split
  · exact Keeps.trans (mapJournal_keeps _) retrySucceeds_keeps
  · exact retrySucceeds_keeps

theorem saveDone_keeps (lanes : List Lane) : Keeps free s (saveDone lanes s) :=
  ((mapConfig_keeps (f := fun c => { c with source := .header }) fun _ => id).trans (fillAll_keeps _ _)).trans freePort_keeps

/-- A write that succeeds: the last write of a format frees the period number and every cash balance, a rewrite of the restore the
period number. -/
theorem writeSucceeded_keeps {op : PortOp} (number : op = .formatHeader ∨ op = .restoreImage → free.number)
    (cash : op = .formatHeader → ∀ slot, free.cash slot) : Keeps free s (writeSucceeded op s) := by
  cases op with
  | recordWrite r => exact recordDurable_keeps r
  | imageWrites r k rest => exact nextImage_keeps r rest
  | staleImage k => exact (mapJournal_keeps _).trans freePort_keeps
  | saveBlock lanes check => exact startWrite_keeps _ _ _
  | saveCheck lanes => exact saveDone_keeps lanes
  | journalRead | retryHeader => exact .refl s
  | retryCheck => exact retryContinues_keeps
  | retryVoid => exact retryVoided_keeps
  | formatClear => exact formatRing_keeps _
  | formatVoid k => exact formatRing_keeps _
  | formatImage k => exact formatImages_keeps _
  | formatHeader => exact formatDone_keeps (number (.inl rfl)) (cash rfl)
  | restoreImage => exact restoreContinues_keeps (number (.inr rfl))

theorem writeFailed_keeps (op : PortOp) : Keeps free s (writeFailed op s) := by
  unfold writeFailed
  cases op with
  | recordWrite | staleImage => exact freePort_keeps.trans (enterFault_keeps _)
  | imageWrites => exact (freePort_keeps.trans (mapJournal_keeps _)).trans (enterFault_keeps _)
  | saveBlock | saveCheck => exact (freePort_keeps.trans (enterFault_keeps _)).trans (fillAll_keeps _ _)
  | journalRead | retryHeader => exact .refl s
  | retryCheck | retryVoid => exact retryFails_keeps
  | formatClear | formatVoid | formatImage | formatHeader => exact formatFails_keeps
  | restoreImage => exact restoreWriteFails_keeps

theorem attemptFails_keeps (op : PortOp) (w : StoreWrite) : Keeps free s (attemptFails op w s) :=
  ite_keeps (mapJournal_keeps _) (writeFailed_keeps op)

end

end Sys2Proof.Machine
end

section
/-! PROOF. What each command keeps, and the laws of a step read off it: the store and the tables canonical, the ring bounded, the
deadlines in order, the slots in agreement, and where the bytes of the store, the lock, the period and the cash balances change. -/

namespace Sys2Proof.Machine

/-! ## The answer of a command -/

/-- The store holds what it held, or the write under way has left bytes in it. -/
def State.Lands (s : State) (m : Memory) : Prop :=
  m = s.memory ∨ ∃ op w effect, s.journal.port = some { op := op, write := some w } ∧
    (m = writeEffect effect w s.memory ∨ m = unfinishedEffect op effect w s.memory)

theorem State.Lands.wf {s : State} {m : Memory} (lands : s.Lands m) (canonical : s.memoryCanonical) : Memory.wf m = true := by
  obtain same | ⟨op, w, effect, _, done | cut⟩ := lands
  · exact same ▸ canonical
  · exact done ▸ writeEffect_wf effect w _ canonical
  · exact cut ▸ unfinishedEffect_wf op effect w _ canonical

theorem State.Lands.outside {s : State} {m : Memory} (lands : s.Lands m) {a : Nat} (uncovered : ¬ s.writeCovers a) :
    readByte m a = readByte s.memory a := by
  obtain rfl | ⟨op, w, effect, port, written⟩ := lands
  · rfl
  · have outside : a < w.address ∨ w.address + w.bytes.length ≤ a := by
      by_contra inside
      exact uncovered ⟨op, w, port, by omega, by omega⟩
    obtain rfl | rfl := written
    · exact readByte_writeEffect_outside effect w _ a outside
    · exact readByte_unfinishedEffect_outside op effect w _ a outside

theorem cutWrite_lands (cut : WriteEffect) (s : State) : s.Lands (cutWrite cut s) := by
  unfold cutWrite
  split
  next op w port => exact .inr ⟨op, w, cut, port, .inr rfl⟩
  next => exact .inl rfl

/-- A command's answer keeps what is not freed, once the write under way has left its bytes. -/
def KeepsRest (free : Freed) (s : State) (a : Answer) : Prop :=
  ∀ t, a = .next t → ∃ m, s.Lands m ∧ Keeps free (s.withMemory m) t

section
variable {free : Freed} {s : State}

theorem KeepsRest.of_after {a : Answer} (keeps : KeepsAfter free s a) : KeepsRest free s a := fun t next =>
  ⟨s.memory, .inl rfl, keeps t next⟩

theorem running_keepsAfter {f : State → Answer} (keeps : s.restore.inReset = false → KeepsAfter free s (f s)) :
    KeepsAfter free s (running f s) := by
  unfold running
  split
  next => exact KeepsAfter.next (.refl s)
  next released => exact keeps (by simpa using released)

theorem event_keepsAfter {f : State → State} (keeps : Keeps free s (f s)) : KeepsAfter free s (event f s) :=
  running_keepsAfter fun _ => KeepsAfter.next keeps

theorem takeRequest_keepsAfter {c : Instr} {owner : State → Answer} (keeps : KeepsAfter free s.taken (owner s.taken)) :
    KeepsAfter free s (takeRequest c owner s) := by
  refine running_keepsAfter fun _ => ?_
  split
  · exact fun t next => (mapArbiter_keeps fun a => { a with intake := none }).trans (keeps t next)
  · exact KeepsAfter.next (.refl s)

theorem request_keepsAfter {c : Instr} {owner : State → State} (keeps : Keeps free s.taken (owner s.taken)) :
    KeepsAfter free s (request c owner s) := takeRequest_keepsAfter (KeepsAfter.next keeps)

theorem readyRequest_keepsAfter {c : Instr} {l : Lane} {owner : State → State}
    (keeps : Keeps free s.taken (owner s.taken)) : KeepsAfter free s (readyRequest c l owner s) :=
  request_keepsAfter (ite_keeps keeps (refuse_keeps l _))

theorem lockedRequest_keepsAfter {c : Instr} {l : Lane} {owner : State → State}
    (keeps : Keeps free s.taken (owner s.taken)) : KeepsAfter free s (lockedRequest c l owner s) :=
  readyRequest_keepsAfter (ite_keeps (refuse_keeps l _) keeps)

theorem officeRequest_keepsAfter {c : Instr} {l : Lane} {own : State → State}
    (keeps : Keeps free s.taken (own s.taken)) : KeepsAfter free s (officeRequest c l own s) :=
  readyRequest_keepsAfter (ite_keeps (refuse_keeps l _) keeps)

theorem takeEvent_keeps (rest : List JournalEvent) : Keeps free s (s.mapEngine fun e => { e with journalEvents := rest }) :=
  mapEngine_keeps fun _ => .of_cards rfl rfl id id

theorem takeJournalEvent_keepsAfter {act : JournalEvent → Option (State → State)}
    (keeps : ∀ x f, act x = some f → ∀ t, Keeps free t (f t)) : KeepsAfter free s (takeJournalEvent act s) := by
  refine event_keepsAfter ?_
  split
  · split
    next acts => exact (takeEvent_keeps _).trans (keeps _ _ acts _)
    next => exact .refl s
  · exact .refl s

theorem takeCloseEvent_keepsAfter {wanted : JournalEvent → Option Record} {sequence : Nat} {act : State → State}
    (keeps : ∀ t, Keeps free t (act t)) : KeepsAfter free s (takeCloseEvent wanted sequence act s) := by
  refine event_keepsAfter ?_
  split
  · split
    · exact ite_keeps ((takeEvent_keeps _).trans (keeps _)) (.refl s)
    · exact .refl s
  · exact .refl s

/-! ## The journal events the engine takes -/

theorem execCaptureDurable_keepsAfter (sequence : Nat) (freed : ∀ slot, free.cash slot) :
    KeepsAfter free s (execCaptureDurable sequence s) := by
  refine takeJournalEvent_keepsAfter fun x f acts t => ?_
  repeat' split at acts
  all_goals cases acts
  exact takeCaptureDurable_keeps _ _ _ _ _ _ freed

theorem execCaptureAbandoned_keepsAfter (sequence : Nat) : KeepsAfter free s (execCaptureAbandoned sequence s) := by
  refine takeJournalEvent_keepsAfter fun x f acts t => ?_
  repeat' split at acts
  all_goals cases acts
  exact takeCaptureAbandoned_keeps _ _ _

theorem execReversalDurable_keepsAfter (sequence : Nat) (freed : ∀ slot, free.cash slot) :
    KeepsAfter free s (execReversalDurable sequence s) := by
  refine takeJournalEvent_keepsAfter fun x f acts t => ?_
  repeat' split at acts
  all_goals cases acts
  exact takeReversalDurable_keeps _ _ _ _ _ _ freed

theorem execReversalAbandoned_keepsAfter (sequence : Nat) : KeepsAfter free s (execReversalAbandoned sequence s) := by
  refine takeJournalEvent_keepsAfter fun x f acts t => ?_
  repeat' split at acts
  all_goals cases acts
  exact takeReversalAbandoned_keeps _ _ _

theorem execOfficeRecordDurable_keepsAfter (sequence : Nat) (freed : ∀ slot, free.cash slot) :
    KeepsAfter free s (execOfficeRecordDurable sequence s) := by
  refine takeJournalEvent_keepsAfter fun x f acts t => ?_
  repeat' split at acts
  all_goals cases acts
  exact takeOfficeDurable_keeps _ _ freed

theorem execOfficeRecordAbandoned_keepsAfter (sequence : Nat) : KeepsAfter free s (execOfficeRecordAbandoned sequence s) := by
  refine takeJournalEvent_keepsAfter fun x f acts t => ?_
  repeat' split at acts
  all_goals cases acts
  exact takeOfficeAbandoned_keeps _ _

/-! ## Events of the other blocks -/

theorem execHoldExpiryEvent_keepsAfter (handle : Nat) (deadline : Tick) :
    KeepsAfter free s (execHoldExpiryEvent handle deadline s) := by
  refine event_keepsAfter ?_
  split
  next x rest _ =>
    have taken : Keeps free s (s.mapEngine fun e => { e with expiries := rest }) :=
      mapEngine_keeps fun _ => .of_cards rfl rfl id id
    exact ite_keeps (taken.trans (expireHold_keeps _ _)) (.refl s)
  next => exact .refl s

theorem execClockAdvance_keepsAfter (told : ¬ free.count) : KeepsAfter free s (execClockAdvance s) := by
  refine event_keepsAfter ?_
  split
  · exact ite_keeps (.refl s) (advanceClock_keeps told _)
  · exact .refl s

theorem execDrainTimerExpiry_keepsAfter : KeepsAfter free s (execDrainTimerExpiry s) := by
  have stopped : Keeps free s (s.mapPeriod fun p => { p with drainTimer := .stopped }) := mapPeriod_keeps fun _ => rfl
  have counted (t : State) : Keeps free t (t.mapEngine fun e => { e with drains := e.drains + 1 }) :=
    mapEngine_keeps fun _ => .of_cards rfl rfl id id
  exact event_keepsAfter (ite_keeps (stopped.trans (counted _)) (.refl s))

theorem execDrainEvent_keepsAfter : KeepsAfter free s (execDrainEvent s) := by
  have taken : Keeps free s (s.mapEngine fun e => { e with drains := e.drains - 1 }) :=
    mapEngine_keeps fun _ => .of_cards rfl rfl id id
  exact event_keepsAfter (ite_keeps (.refl s) (ite_keeps (taken.trans drainWalk_keeps) (taken.trans reportHolds_keeps)))

theorem execSilenceTimerExpiry_keepsAfter (l : Lane) : KeepsAfter free s (execSilenceTimerExpiry l s) :=
  event_keepsAfter (ite_keeps (loseSilentLane_keeps l) (.refl s))

theorem execLaneLostEvent_keepsAfter (l : Lane) : KeepsAfter free s (execLaneLostEvent l s) := by
  have taken : Keeps free s (s.mapEngine fun e => { e with lostLanes := e.lostLanes.erase l }) :=
    mapEngine_keeps fun _ => .of_cards rfl rfl id id
  exact event_keepsAfter (ite_keeps (taken.trans (loseLane_keeps l)) (.refl s))

theorem execGapTimerExpiry_keepsAfter (l : Lane) : KeepsAfter free s (execGapTimerExpiry l s) := by
  refine event_keepsAfter ?_
  split
  · exact linkErrorAt_keeps _ _
  · exact setReceiver_keeps _ _
  · exact .refl s
  · exact .refl s

theorem execLaneGrant_keepsAfter : KeepsAfter free s (execLaneGrant s) := by
  refine event_keepsAfter ?_
  split
  next l f grant => exact grantRequest_keeps (s.waiting_of_nextGrant grant)
  next => exact .refl s

theorem execPing_keepsAfter (l : Lane) : KeepsAfter free s (execPing l s) := by
  refine event_keepsAfter ?_
  split
  next l' f grant =>
    split
    next asked =>
      obtain ⟨rfl, _⟩ := asked
      exact grantRequest_keeps (s.waiting_of_nextGrant grant)
    next => exact .refl s
  next => exact .refl s

theorem execJournalExhaustion_keepsAfter : KeepsAfter free s (execJournalExhaustion s) :=
  event_keepsAfter (ite_keeps ((mapJournal_keeps _).trans (enterFault_keeps _)) (.refl s))

theorem execJournalReadComplete_keepsAfter (answer : StoreAnswer) : KeepsAfter free s (execJournalReadComplete answer s) := by
  refine event_keepsAfter ?_
  split
  · exact judgeRead_keeps _ _ _ _ _
  · exact .refl s

theorem execRetryHeaderRead_keepsAfter (answer : StoreAnswer) : KeepsAfter free s (execRetryHeaderRead answer s) := by
  refine event_keepsAfter ?_
  split
  · exact ite_keeps (startWrite_keeps _ _ _) retryFails_keeps
  · exact .refl s

theorem execStorePortGrant_keepsAfter : KeepsAfter free s (execStorePortGrant s) := by
  refine event_keepsAfter ?_
  split
  · exact grantPort_keeps
  · exact .refl s

theorem execRestoreHeaderLoaded_keepsAfter (answer : StoreAnswer) : KeepsAfter free s (execRestoreHeaderLoaded answer s) :=
  event_keepsAfter (ite_keeps (loadHeader_keeps _) (.refl s))

theorem execRestoreRingScan_keepsAfter (answer : StoreAnswer) : KeepsAfter free s (execRestoreRingScan answer s) := by
  refine event_keepsAfter ?_
  split
  · exact scanRing_keeps _ _
  · exact .refl s

theorem execRestoreImages_keepsAfter (answer : StoreAnswer) (number : s.restore.part ≠ .ready → free.number)
    (freed : ∀ slot, free.cash slot) : KeepsAfter free s (execRestoreImages answer s) := by
  refine event_keepsAfter ?_
  split
  next restoring _ => exact restoreImages_keeps _ _ _ _ (number (by rw [restoring]; nofun)) freed
  next => exact .refl s

/-! ## The ends of writes -/

/-- The write under way has left the bytes `m`, and the rest is kept. -/
theorem keepsRest_of_writes {op : PortOp} {w : StoreWrite} {f : State → State} {m : Memory}
    (port : s.journal.port = some { op := op, write := some w })
    (written : ∃ effect, m = writeEffect effect w s.memory ∨ m = unfinishedEffect op effect w s.memory)
    (keeps : Keeps free (s.withMemory m) (f (s.withMemory m))) : KeepsRest free s (.next (f (s.withMemory m))) := by
  intro t next
  cases next
  obtain ⟨effect, written⟩ := written
  exact ⟨m, .inr ⟨op, w, effect, port, written⟩, keeps⟩

theorem keepsRest_self : KeepsRest free s (.next s) := .of_after (KeepsAfter.next (.refl s))

theorem running_keepsRest {f : State → Answer} (keeps : KeepsRest free s (f s)) : KeepsRest free s (running f s) := by
  unfold running
  split
  · exact keepsRest_self
  · exact keeps

theorem execWriteStatusTimeout_keepsRest (effect : WriteEffect) : KeepsRest free s (execWriteStatusTimeout effect s) := by
  unfold execWriteStatusTimeout event
  refine running_keepsRest ?_
  dsimp only
  split
  next op w port =>
    split
    · exact keepsRest_of_writes (f := attemptFails op w) port ⟨effect, .inr rfl⟩ (attemptFails_keeps op w)
    · exact keepsRest_self
  next => exact keepsRest_self

theorem execStoreWriteComplete_keepsRest (effect : WriteEffect) (answers : WriteAnswers)
    (number : ∀ p ∈ s.journal.port, p.op = .formatHeader ∨ p.op = .restoreImage → free.number)
    (cash : s.journal.port.map PortUse.op = some .formatHeader → ∀ slot, free.cash slot) :
    KeepsRest free s (execStoreWriteComplete effect answers s) := by
  unfold execStoreWriteComplete event
  refine running_keepsRest ?_
  dsimp only
  split
  next op w port =>
    have last : op = .formatHeader → ∀ slot, free.cash slot := fun same => cash (by rw [port, same]; rfl)
    split
    · exact keepsRest_self
    · unfold writeReported
      dsimp only
      split
      · exact keepsRest_of_writes (f := writeSucceeded op) port ⟨effect, .inl rfl⟩
          (writeSucceeded_keeps (number _ port) last)
      · exact keepsRest_of_writes (f := attemptFails op w) port ⟨effect, .inr rfl⟩ (attemptFails_keeps op w)
  next => exact keepsRest_self

end

/-! ## Every command but the resets -/

/-- What the command `c` frees: the period number at PERIOD_ADVANCE, in the restore and at the end of a format, the order of the
deadlines at a tick that comes late, and the cash balances the manual lets it move. -/
def State.freed (s : State) (c : Instr) : Freed where
  number := c = .periodAdvance ∨ s.restore.part ≠ .ready ∨ ∃ p ∈ s.journal.port, p.op = .formatHeader ∨ p.op = .restoreImage
  order := c = .tick ∧ ∃ y ∈ s.deadlines.list, y.deadline = s.now
  cash := s.movesCash c
  count := False

theorem execTick_keepsAfter {s : State} : KeepsAfter (s.freed .tick) s (execTick s) :=
  event_keepsAfter (tick_keeps fun kept y mem due => kept ⟨rfl, y, mem, due⟩)

theorem execLockConfig_keepsAfter {free : Freed} {s : State} (l : Lane) : KeepsAfter free s (execLockConfig l s) :=
  readyRequest_keepsAfter (lockConfig_keeps l)

theorem exec_keepsRest (c : Instr) (s : State) (other : ¬ isReset c) : KeepsRest (s.freed c) s (exec c s) := by
  cases c with
  | powerOnReset | pinReset | resetNLow => exact absurd trivial other
  | restoreHeaderLoaded answer => exact .of_after (execRestoreHeaderLoaded_keepsAfter answer)
  | restoreRingScan answer => exact .of_after (execRestoreRingScan_keepsAfter answer)
  | restoreImages answer => exact .of_after (execRestoreImages_keepsAfter answer (fun h => .inr (.inl h)) fun _ => trivial)
  | journalExhaustion => exact .of_after execJournalExhaustion_keepsAfter
  | tick => exact .of_after execTick_keepsAfter
  | holdExpiryEvent handle deadline => exact .of_after (execHoldExpiryEvent_keepsAfter handle deadline)
  | clockAdvance => exact .of_after (execClockAdvance_keepsAfter id)
  | drainTimerExpiry => exact .of_after execDrainTimerExpiry_keepsAfter
  | drainEvent => exact .of_after execDrainEvent_keepsAfter
  | silenceTimerExpiry l => exact .of_after (execSilenceTimerExpiry_keepsAfter l)
  | laneLostEvent l => exact .of_after (execLaneLostEvent_keepsAfter l)
  | gapTimerExpiry l => exact .of_after (execGapTimerExpiry_keepsAfter l)
  | byteReceived l b stopBit => exact .of_after (event_keepsAfter (receiveByte_keeps l b stopBit))
  | frameReceived l lastByte => exact .of_after (event_keepsAfter (ite_keeps (receiveByte_keeps l lastByte true) (.refl s)))
  | frameSent l => exact .of_after (event_keepsAfter (mapLane_keeps l LaneUnit.sent_slotsAgree))
  | laneGrant => exact .of_after execLaneGrant_keepsAfter
  | ping l => exact .of_after (execPing_keepsAfter l)
  | pollNotice l => exact .of_after (request_keepsAfter (noticesPoll_keeps l))
  | balance l card => exact .of_after (readyRequest_keepsAfter (engineBalance_keeps l card))
  | hold l card amount parts => exact .of_after (takeRequest_keepsAfter (engineHold_keeps l card amount parts))
  | capture l handle amount final => exact .of_after (readyRequest_keepsAfter (engineCapture_keeps l handle amount final))
  | release l handle => exact .of_after (readyRequest_keepsAfter (engineRelease_keeps l handle))
  | extend l handle => exact .of_after (readyRequest_keepsAfter (engineExtend_keeps l handle))
  | reverse l receipt => exact .of_after (readyRequest_keepsAfter (engineReverse_keeps l receipt))
  | openPurse l card => exact .of_after (officeRequest_keepsAfter (engineOpenPurse_keeps l card))
  | closePurse l card => exact .of_after (officeRequest_keepsAfter (engineClosePurse_keeps l card))
  | block l card => exact .of_after (officeRequest_keepsAfter (engineChangeState_keeps l card _ _))
  | unblock l card => exact .of_after (officeRequest_keepsAfter (engineChangeState_keeps l card _ _))
  | topUp l card amount => exact .of_after (officeRequest_keepsAfter (engineTopUp_keeps l card amount))
  | withdraw l card amount => exact .of_after (officeRequest_keepsAfter (engineWithdraw_keeps l card amount))
  | fundSponsor l sponsor amount => exact .of_after (officeRequest_keepsAfter (engineFundSponsor_keeps l sponsor amount))
  | readPurse l slot => exact .of_after (readyRequest_keepsAfter (engineReadPurse_keeps l slot))
  | readTotals l part => exact .of_after (readyRequest_keepsAfter (engineReadTotals_keeps l part))
  | setRange l entry enabled firstCard slotEnd grant sponsor limit =>
    exact .of_after (lockedRequest_keepsAfter (engineSetRange_keeps l entry enabled firstCard slotEnd grant sponsor limit))
  | setSponsorCount l count =>
    exact .of_after (lockedRequest_keepsAfter (engineSetSponsorCount_keeps l count fun _ low high => ⟨low, high⟩))
  | setLane l named role holdLifetime silenceLimit holdLimit =>
    exact .of_after (lockedRequest_keepsAfter (engineSetLane_keeps l named role holdLifetime silenceLimit holdLimit))
  | setCeiling l amount => exact .of_after (lockedRequest_keepsAfter (configSetCeiling_keeps l amount))
  | setLowMark l amount => exact .of_after (lockedRequest_keepsAfter (configSetLowMark_keeps l amount))
  | saveConfig l => exact .of_after (readyRequest_keepsAfter (configSaveConfig_keeps l))
  | lockConfig l => exact .of_after (execLockConfig_keepsAfter l)
  | readConfig l part => exact .of_after (request_keepsAfter (configReadConfig_keeps l part))
  | closePeriod l => exact .of_after (readyRequest_keepsAfter (controlClosePeriod_keeps id l))
  | setClock l seconds => exact .of_after (readyRequest_keepsAfter (controlSetClock_keeps l seconds))
  | setSchedule l entry time enable => exact .of_after (lockedRequest_keepsAfter (controlSetSchedule_keeps l entry time enable))
  | setDrainLimit l seconds => exact .of_after (lockedRequest_keepsAfter (controlSetDrainLimit_keeps l seconds))
  | sync l => exact .of_after (readyRequest_keepsAfter (journalSync_keeps l))
  | readJournal l sequence => exact .of_after (readyRequest_keepsAfter (journalReadJournal_keeps l sequence))
  | retryStore l => exact .of_after (readyRequest_keepsAfter (journalRetryStore_keeps l))
  | formatStore l => exact .of_after (request_keepsAfter (restoreFormatStore_keeps l))
  | setRoute l eventClass route => exact .of_after (lockedRequest_keepsAfter (noticesSetRoute_keeps l eventClass route))
  | clearEvents l classes => exact .of_after (readyRequest_keepsAfter (noticesClearEvents_keeps l classes))
  | readEvents l => exact .of_after (readyRequest_keepsAfter (fillReply_keeps l _ _))
  | storePortGrant => exact .of_after execStorePortGrant_keepsAfter
  | writeStatusTimeout effect => exact execWriteStatusTimeout_keepsRest effect
  | storeWriteComplete effect answers =>
    exact execStoreWriteComplete_keepsRest effect answers (fun p port last => .inr (.inr ⟨p, port, last⟩)) fun last _ => last
  | retryHeaderRead answer => exact .of_after (execRetryHeaderRead_keepsAfter answer)
  | journalReadComplete answer => exact .of_after (execJournalReadComplete_keepsAfter answer)
  | captureDurable sequence => exact .of_after (execCaptureDurable_keepsAfter sequence fun _ => trivial)
  | captureAbandoned sequence => exact .of_after (execCaptureAbandoned_keepsAfter sequence)
  | reversalDurable sequence => exact .of_after (execReversalDurable_keepsAfter sequence fun _ => trivial)
  | reversalAbandoned sequence => exact .of_after (execReversalAbandoned_keepsAfter sequence)
  | officeRecordDurable sequence => exact .of_after (execOfficeRecordDurable_keepsAfter sequence fun _ => trivial)
  | officeRecordAbandoned sequence => exact .of_after (execOfficeRecordAbandoned_keepsAfter sequence)
  | periodCloseDurable sequence => exact .of_after (takeCloseEvent_keepsAfter fun _ => closeTotals_keeps)
  | periodAdvance => exact .of_after (event_keepsAfter (ite_keeps (advancePeriod_keeps (.inl rfl)) (.refl s)))
  | periodCloseAbandoned sequence => exact .of_after (takeCloseEvent_keepsAfter fun _ => mapPeriod_keeps fun _ => rfl)
  | closeFailed =>
    refine .of_after (event_keepsAfter (ite_keeps (.trans ?_ closeFails_keeps) (.refl s)))
    exact mapPeriod_keeps fun _ => rfl

/-- While a pin reset holds the part a command that is no reset changes nothing (R207): each is a `running` at heart. -/
theorem exec_of_held {c : Instr} {s : State} (held : s.restore.inReset = true) (other : ¬ isReset c) :
    exec c s = .next s := by
  cases c with
  | powerOnReset | pinReset | resetNLow => exact absurd trivial other
  | _ => exact if_pos held

/-! ## The laws read off -/

theorem lanesAfterReset_getElem (l : Lane) : lanesAfterReset[l] = LaneUnit.afterReset (LaneSettings.default l) :=
  Vector.getElem_ofFn ..

theorem lanesAfterReset_slotsAgree (l : Lane) : lanesAfterReset[l].slotsAgree = true := by
  rw [lanesAfterReset_getElem]
  rfl

/-- A step runs the command at the front of the queue, or leaves the state as it stands. -/
theorem step_cases {s t : State} (next : step s = .next t) :
    t = s ∨ ∃ c rest, s.pending = c :: rest ∧ exec c { s with pending := rest } = .next t := by
  unfold step at next
  split at next
  next =>
    cases next
    exact .inl rfl
  next c rest front => exact .inr ⟨c, rest, front, next⟩

theorem exec_lands {c : Instr} {s t : State} (next : exec c s = .next t) : s.Lands t.memory := by
  by_cases reset : isReset c
  · cases c with
    | powerOnReset | pinReset | resetNLow =>
      cases next
      exact cutWrite_lands _ s
    | _ => exact reset.elim
  · obtain ⟨m, lands, keeps⟩ := exec_keepsRest c s reset t next
    exact keeps.memory ▸ lands

theorem exec_keeps_tables {c : Instr} {s t : State} (tables : s.tablesCanonical) (ring : s.ringBounded)
    (next : exec c s = .next t) : t.tablesCanonical ∧ t.ringBounded := by
  by_cases reset : isReset c
  · cases c with
    | powerOnReset | pinReset =>
      cases next
      exact ⟨⟨rfl, rfl, rfl⟩, Nat.zero_le 256⟩
    | resetNLow =>
      cases next
      exact ⟨tables, ring⟩
    | _ => exact reset.elim
  · obtain ⟨m, _, keeps⟩ := exec_keepsRest c s reset t next
    exact ⟨keeps.engine.tables tables, keeps.engine.ring ring⟩

theorem exec_keeps_deadlineOrder {c : Instr} {s t : State} (order : s.deadlineOrder)
    (inTime : c = .tick → ∀ y ∈ s.deadlines.list, y.deadline ≠ s.now) (next : exec c s = .next t) : t.deadlineOrder := by
  by_cases reset : isReset c
  · cases c with
    | powerOnReset | pinReset =>
      cases next
      exact List.Pairwise.nil
    | resetNLow =>
      cases next
      exact order
    | _ => exact reset.elim
  · obtain ⟨m, _, keeps⟩ := exec_keepsRest c s reset t next
    refine keeps.order ?_ order
    rintro ⟨tick, y, mem, due⟩
    exact inTime tick y mem due

theorem exec_keeps_slotLaw {c : Instr} {s t : State} (law : s.slotLaw) (next : exec c s = .next t) : t.slotLaw := by
  by_cases reset : isReset c
  · cases c with
    | powerOnReset | pinReset =>
      cases next
      exact fun _ => lanesAfterReset_slotsAgree
    | resetNLow =>
      cases next
      exact nofun
    | _ => exact reset.elim
  · by_cases held : s.restore.inReset = true
    · rw [exec_of_held held reset] at next
      cases next
      exact law
    · obtain ⟨m, _, keeps⟩ := exec_keepsRest c s reset t next
      exact fun _ l => keeps.slots l (law (by simpa using held) l)

/-- Settles O3: a step is a command on the rest of the queue, and the list splits where the entry joins it. -/
theorem stepKeepsDataForms : Obligations.stepKeepsDataForms := by
  unfold Obligations.stepKeepsDataForms
  refine ⟨fun s t memory tables ring next => ?_, fun s t order inTime next => ?_, fun s x order => ?_⟩
  · rcases step_cases next with rfl | ⟨c, rest, _, next⟩
    · exact ⟨memory, tables, ring⟩
    · exact ⟨(exec_lands next).wf memory, exec_keeps_tables (s := { s with pending := rest }) tables ring next⟩
  · rcases step_cases next with rfl | ⟨c, rest, front, next⟩
    · exact order
    · refine exec_keeps_deadlineOrder (s := { s with pending := rest }) order (fun tick => inTime ?_) next
      rw [front, tick]
      rfl
  · exact insertDeadline_splits s.now x order

/-- Settles O6: the slots of each Lane Unit agree after every command, outside a pin reset. -/
theorem stepKeepsSlotLaw : Obligations.stepKeepsSlotLaw := by
  unfold Obligations.stepKeepsSlotLaw
  intro s t law next
  rcases step_cases next with rfl | ⟨c, rest, _, next⟩
  · exact law
  · exact exec_keeps_slotLaw (s := { s with pending := rest }) law next

/-- Settles O7: what a command leaves in the store is what the write under way leaves. -/
theorem onlyWritesTouchStore : Obligations.onlyWritesTouchStore := by
  unfold Obligations.onlyWritesTouchStore
  exact fun c s t a next uncovered => (exec_lands next).outside uncovered

/-- Settles O8: no update but a power-on reset clears the lock, and none but PERIOD_ADVANCE, the restore and the end of a format
sets the period number. -/
theorem lockAndPeriodKept : Obligations.lockAndPeriodKept := by
  unfold Obligations.lockAndPeriodKept
  intro c s t next
  refine ⟨fun other locked => ?_, fun ready port advance reset => ?_⟩
  · by_cases reset : isReset c
    · cases c with
      | powerOnReset cut => exact absurd rfl (other cut)
      | pinReset | resetNLow =>
        cases next
        exact locked
      | _ => exact reset.elim
    · obtain ⟨m, _, keeps⟩ := exec_keepsRest c s reset t next
      exact keeps.lock locked
  · obtain ⟨m, _, keeps⟩ := exec_keepsRest c s reset t next
    refine keeps.number ?_
    rintro (rfl | unready | ⟨p, mem, last⟩)
    · exact advance rfl
    · exact unready ready
    · exact last.elim (port p mem).1 (port p mem).2

/-- Settles O9: the updates that set a cash balance are those of the named commands. -/
theorem cashMovesAtDurability : Obligations.cashMovesAtDurability := by
  unfold Obligations.cashMovesAtDurability
  intro c s t slot tables unmoved next
  by_cases reset : isReset c
  · cases c with
    | powerOnReset | pinReset => exact absurd trivial unmoved
    | resetNLow =>
      cases next
      rfl
    | _ => exact reset.elim
  · obtain ⟨m, _, keeps⟩ := exec_keepsRest c s reset t next
    exact keeps.engine.cash tables slot unmoved

end Sys2Proof.Machine
end

section
/-! PROOF. The formats (R199, R200, R205): numbers in bytes and fields in bits read back, a request from its frame and a record or an
image from its unit. -/

namespace Sys2Proof

/-! ## Numbers in bytes (R200) -/

@[simp] theorem beBytes_length (n v : Nat) : (beBytes n v).length = n := by
  induction n with
  | zero => rfl
  | succ n ih => simp [beBytes, ih]

theorem beNat_append (xs ys : List Byte) : beNat (xs ++ ys) = beNat xs * 256 ^ ys.length + beNat ys := by
  induction ys using List.reverseRecOn with
  | nil => simp [beNat]
  | append_singleton ys y ih =>
    rw [← List.append_assoc]
    simp only [beNat, List.foldl_append, List.foldl_cons, List.foldl_nil, List.length_append, List.length_singleton] at ih ⊢
    rw [ih, pow_succ]
    ring

theorem beNat_cons (x : Byte) (xs : List Byte) : beNat (x :: xs) = x.toNat * 256 ^ xs.length + beNat xs := by
  simpa [beNat] using beNat_append [x] xs

theorem beNat_lt (bytes : List Byte) : beNat bytes < 256 ^ bytes.length := by
  induction bytes with
  | nil => simp [beNat]
  | cons b bytes ih =>
    have byte := b.isLt
    rw [beNat_cons, List.length_cons, pow_succ]
    nlinarith

theorem beNat_beBytes (n v : Nat) : beNat (beBytes n v) = v % 256 ^ n := by
  induction n with
  | zero => simp [beBytes, beNat, Nat.mod_one]
  | succ n ih =>
    have split : v % 256 ^ (n + 1) = v % 256 ^ n + 256 ^ n * (v / 256 ^ n % 256) := by rw [pow_succ, Nat.mod_mul]
    rw [beBytes, beNat_cons, ih, beBytes_length, split, BitVec.toNat_ofNat, mul_comm, add_comm]

/-- Bits above the bytes written are dropped. -/
theorem beBytes_mod {n m : Nat} (fits : n ≤ m) (v : Nat) : beBytes n (v % 256 ^ m) = beBytes n v := by
  induction n with
  | zero => rfl
  | succ n ih =>
    have digit : v % 256 ^ m / 256 ^ n % 256 = v / 256 ^ n % 256 := by
      rw [← Nat.add_sub_of_le (Nat.le_of_succ_le fits), pow_add, Nat.mod_mul_right_div_self]
      exact Nat.mod_mod_of_dvd _ (dvd_pow_self 256 (by omega))
    rw [beBytes, beBytes, ih (by omega)]
    congr 1
    exact BitVec.eq_of_toNat_eq (by simpa [BitVec.toNat_ofNat] using digit)

theorem beBytes_beNat (bytes : List Byte) : beBytes bytes.length (beNat bytes) = bytes := by
  induction bytes with
  | nil => rfl
  | cons b bytes ih =>
    have low := beNat_lt bytes
    have high : beNat (b :: bytes) / 256 ^ bytes.length = b.toNat := by
      rw [beNat_cons, mul_comm, Nat.mul_add_div (by positivity), Nat.div_eq_of_lt low, Nat.add_zero]
    have rest : beNat (b :: bytes) % 256 ^ bytes.length = beNat bytes := by
      rw [beNat_cons, mul_comm, Nat.mul_add_mod, Nat.mod_eq_of_lt low]
    rw [List.length_cons, beBytes, high, ← beBytes_mod le_rfl (beNat (b :: bytes)), rest, ih]
    simp

/-! ## Fields of a frame body (R200) -/

/-- The number of a field at the front of the bytes. -/
theorem readField_beBytes {n v : Nat} (fits : fitsBytes n v) (rest : List Byte) :
    readField (beBytes n v ++ rest) 0 n = v := by
  rw [readField, List.drop_zero, List.take_left' (beBytes_length n v), beNat_beBytes, Nat.mod_eq_of_lt fits]

/-- A field behind the first `n` bytes. -/
theorem readField_append {bytes rest : List Byte} {off len : Nat} (behind : bytes.length ≤ off) :
    readField (bytes ++ rest) off len = readField rest (off - bytes.length) len := by
  rw [readField, readField, List.drop_append, List.drop_eq_nil_of_le behind, List.nil_append]

theorem readField_last {n v : Nat} (fits : fitsBytes n v) : readField (beBytes n v) 0 n = v := by
  simpa using readField_beBytes fits []

/-- The bytes of a field written back are the bytes it was read from. -/
theorem beBytes_readField {bytes : List Byte} {off len : Nat} (inside : off + len ≤ bytes.length) :
    beBytes len (readField bytes off len) = (bytes.drop off).take len := by
  have length : ((bytes.drop off).take len).length = len := by
    rw [List.length_take, List.length_drop]
    omega
  have back := beBytes_beNat ((bytes.drop off).take len)
  rwa [length] at back

theorem beBytes_readField_front {bytes : List Byte} {len : Nat} (inside : len ≤ bytes.length) :
    beBytes len (readField bytes 0 len) = bytes.take len := by
  rw [beBytes_readField (by omega), List.drop_zero]

/-- The fields of a body written back one after another are its bytes. -/
theorem take_append_beBytes_readField {bytes : List Byte} {off len : Nat} (inside : off + len ≤ bytes.length) :
    bytes.take off ++ beBytes len (readField bytes off len) = bytes.take (off + len) := by
  rw [beBytes_readField inside, List.take_add]

/-! ## Requests (R200) -/

@[simp] theorem kindOfCode_kindCode (k : RequestKind) : kindOfCode (kindCode k) = some k := by
  cases k <;> rfl

/-- A kind byte names the kind whose code it is. -/
theorem kindOfCode_eq_some {b : Byte} {k : RequestKind} : kindOfCode b = some k ↔ kindCode k = b := by
  refine ⟨fun named => ?_, fun code => code ▸ kindOfCode_kindCode k⟩
  simpa using List.find?_some named

/-- The frame of a well-formed request has the length of its kind and spells the request. -/
theorem requestCommand_of_encodeRequest {i : Instr} {l : Lane} {k : RequestKind} {body : List Byte} (wf : i.wf)
    (encoded : encodeRequest i = some (l, k, body)) : body.length = bodyLength k ∧ requestCommand l k body = i := by
  cases i <;> cases encoded <;> refine ⟨by simp [bodyLength], ?_⟩ <;>
    simp_all [Instr.wf, requestCommand, readField_append, readField_beBytes, readField_last]

/-- A body of its kind's length spells a request whose frame it is. -/
theorem encodeRequest_requestCommand {l : Lane} {k : RequestKind} {body : List Byte} (length : body.length = bodyLength k) :
    encodeRequest (requestCommand l k body) = some (l, k, body) := by
  have all : body.take (bodyLength k) = body := List.take_of_length_le length.le
  cases k <;> simp only [bodyLength] at length all <;>
    simp_all [requestCommand, encodeRequest, beBytes_readField_front, take_append_beBytes_readField, -List.append_assoc]

/-- Settles O10: the kind's code names the kind, and each field of the body reads back. -/
theorem requestRoundTrip : Obligations.requestRoundTrip := by
  unfold Obligations.requestRoundTrip
  intro i l k body wf encoded
  obtain ⟨length, spells⟩ := requestCommand_of_encodeRequest wf encoded
  rw [decodeRequest, kindOfCode_kindCode]
  simp only [length, if_true, spells]

end Sys2Proof
end

section
/-! PROOF. Record and image units (R124, R205): fields packed into bits read back, so each unit spells what it was made from. -/

namespace Sys2Proof.Machine

/-! ## Fields packed into bits -/

/-- The bits that fields of the given widths take. -/
def bitsOf (fields : List (Nat × Nat)) : Nat := (fields.map Prod.fst).sum

/-- A field's value as its width keeps it. -/
def keptBits (field : Nat × Nat) : Nat := field.2 % 2 ^ field.1

theorem packBits_lt {room : Nat} {fields : List (Nat × Nat)} (fits : bitsOf fields ≤ room) :
    packBits room fields < 2 ^ room := by
  induction fields generalizing room with
  | nil => exact Nat.two_pow_pos room
  | cons field fields ih =>
    obtain ⟨w, v⟩ := field
    have width : w ≤ room ∧ bitsOf fields ≤ room - w := by simp [bitsOf] at fits ⊢; omega
    have rest := ih width.2
    have top : v % 2 ^ w < 2 ^ w := Nat.mod_lt _ (Nat.two_pow_pos w)
    calc v % 2 ^ w * 2 ^ (room - w) + packBits (room - w) fields
        < (v % 2 ^ w + 1) * 2 ^ (room - w) := by rw [add_mul, one_mul]; omega
      _ ≤ 2 ^ w * 2 ^ (room - w) := Nat.mul_le_mul_right _ top
      _ = 2 ^ room := by rw [← pow_add, Nat.add_sub_of_le width.1]

/-- The bits above the room do not matter to the fields in it. -/
theorem unpackBits_above {room : Nat} {widths : List Nat} (fits : widths.sum ≤ room) (high low : Nat) :
    unpackBits room (high * 2 ^ room + low) widths = unpackBits room low widths := by
  induction widths generalizing room high low with
  | nil => rfl
  | cons w widths ih =>
    have width : w ≤ room ∧ widths.sum ≤ room - w := by simp at fits ⊢; omega
    have parts : high * 2 ^ room + low = (high * 2 ^ w) * 2 ^ (room - w) + low := by
      rw [mul_assoc, ← pow_add, Nat.add_sub_of_le width.1]
    have head : (high * 2 ^ room + low) / 2 ^ (room - w) % 2 ^ w = low / 2 ^ (room - w) % 2 ^ w := by
      rw [parts, mul_comm, Nat.mul_add_div (Nat.two_pow_pos _), mul_comm high, Nat.mul_add_mod]
    rw [unpackBits, unpackBits, head, parts, ih width.2]

/-- Fields packed behind others are read back from where they stand. -/
theorem unpackBits_packBits_behind {room : Nat} {front : List (Nat × Nat)} (fields : List (Nat × Nat))
    (fits : bitsOf front + bitsOf fields ≤ room) :
    unpackBits (room - bitsOf front) (packBits room (front ++ fields)) (fields.map Prod.fst) =
      unpackBits (room - bitsOf front) (packBits (room - bitsOf front) fields) (fields.map Prod.fst) := by
  induction front generalizing room with
  | nil => rfl
  | cons field front ih =>
    obtain ⟨w, v⟩ := field
    have width : bitsOf ((w, v) :: front) = w + bitsOf front := by simp [bitsOf]
    rw [width] at fits ⊢
    have inner : bitsOf front + bitsOf fields ≤ room - w := by omega
    have room' : room - (w + bitsOf front) = room - w - bitsOf front := by omega
    have parts : packBits room ((w, v) :: front ++ fields) =
        (v % 2 ^ w * 2 ^ bitsOf front) * 2 ^ (room - w - bitsOf front) + packBits (room - w) (front ++ fields) := by
      rw [mul_assoc, ← pow_add, Nat.add_sub_of_le (by omega)]
      rfl
    rw [parts, room', unpackBits_above (by simp only [bitsOf] at inner ⊢; omega), ih inner]

/-- Fields packed ahead of others are read back. -/
theorem unpackBits_packBits {room : Nat} {fields : List (Nat × Nat)} (rest : List (Nat × Nat))
    (fits : bitsOf fields + bitsOf rest ≤ room) :
    unpackBits room (packBits room (fields ++ rest)) (fields.map Prod.fst) = fields.map keptBits := by
  induction fields generalizing room with
  | nil => rfl
  | cons field fields ih =>
    obtain ⟨w, v⟩ := field
    have width : bitsOf ((w, v) :: fields) = w + bitsOf fields := by simp [bitsOf]
    rw [width] at fits
    have inner : bitsOf fields + bitsOf rest ≤ room - w := by omega
    have low : packBits (room - w) (fields ++ rest) < 2 ^ (room - w) :=
      packBits_lt (by simpa [bitsOf] using inner)
    have parts : packBits room ((w, v) :: fields ++ rest) =
        v % 2 ^ w * 2 ^ (room - w) + packBits (room - w) (fields ++ rest) := rfl
    have head : packBits room ((w, v) :: fields ++ rest) / 2 ^ (room - w) % 2 ^ w = v % 2 ^ w := by
      rw [parts, mul_comm, Nat.mul_add_div (Nat.two_pow_pos _), Nat.div_eq_of_lt low, Nat.add_zero, Nat.mod_mod]
    rw [List.map_cons, unpackBits, head, parts, unpackBits_above (by simp only [bitsOf] at inner ⊢; omega), ih inner]
    rfl

/-! ## Units -/

theorem unitBytes_take (fields : List (Nat × Nat)) : (unitBytes fields).take 30 = beBytes 30 (packBits 240 fields) :=
  List.take_left' (beBytes_length 30 _)

theorem unitCheckOk_unitBytes (fields : List (Nat × Nat)) : unitCheckOk (unitBytes fields) = true := by
  rw [unitCheckOk, unitBytes_take, unitBytes, List.drop_left' (beBytes_length 30 _)]
  exact decide_eq_true rfl

/-- The number in the thirty bytes of a unit is its fields packed. -/
theorem beNat_unitBytes {fields : List (Nat × Nat)} (fits : bitsOf fields ≤ 240) :
    beNat ((unitBytes fields).take 30) = packBits 240 fields := by
  have room : packBits 240 fields < 256 ^ 30 := packBits_lt fits
  rw [unitBytes_take, beNat_beBytes, Nat.mod_eq_of_lt room]

/-! ## Codes of R203 and R205 read back -/

theorem stateOfBit_cardStateBit {state : PurseState} (open_ : state = .opened ∨ state = .blocked) :
    stateOfBit (cardStateBit state) = state := by
  rcases open_ with rfl | rfl <;> rfl

theorem purseOfCode_purseCode (state : PurseState) : purseOfCode (purseCode state) = state := by
  cases state <;> rfl

theorem sponsorAfterOf_sponsor {sp : Option SponsorAfter} (fits : ∀ a ∈ sp, a.fits) :
    sponsorAfterOf (sponsorNumber sp) (sponsorBalance sp) = sp := by
  cases sp with
  | none => rfl
  | some a =>
    have below : a.balance < 2 ^ 27 - 1 := (fits a rfl).2
    exact if_neg (by simp only [sponsorBalance, noSponsorMark]; omega)

theorem sponsorNumber_lt {sp : Option SponsorAfter} (fits : ∀ a ∈ sp, a.fits) : sponsorNumber sp < 2 ^ 6 := by
  cases sp with
  | none => decide
  | some a => exact (fits a rfl).1

theorem sponsorBalance_lt {sp : Option SponsorAfter} (fits : ∀ a ∈ sp, a.fits) : sponsorBalance sp < 2 ^ 27 := by
  cases sp with
  | none => decide
  | some a => exact Nat.lt_of_lt_of_le (fits a rfl).2 (by decide)

theorem cardStateBit_lt (state : PurseState) : cardStateBit state < 2 ^ 1 := by cases state <;> decide
theorem purseCode_lt (state : PurseState) : purseCode state < 2 ^ 2 := by cases state <;> decide
theorem boolCode_lt (b : Bool) : boolCode b < 2 ^ 1 := by cases b <;> decide
theorem boolCode_eq_one (b : Bool) : decide (boolCode b = 1) = b := by cases b <;> rfl

/-- A receipt within reach, or 0, reads back from its low part (R205). -/
theorem receiptOfLow_receiptLow {r q : Nat} (reach : q = 0 ∨ 0 < q ∧ q < r ∧ r ≤ q + 8191) :
    receiptOfLow r (receiptLow r q) = q := by
  unfold receiptOfLow receiptLow
  rcases reach with rfl | ⟨positive, earlier, near⟩
  · split
    next within => exact if_pos (.inr (by omega))
    next => simp
  · have back : (r % 8192 + 8192 - q % 8192) % 8192 = r - q := by omega
    simp only [earlier, near, and_self, if_true, back]
    rw [if_neg (by omega)]
    omega

theorem receiptLow_lt (r q : Nat) : receiptLow r q < 2 ^ 13 := by
  unfold receiptLow
  split <;> exact Nat.mod_lt _ (by decide)

/-! ## Records -/

/-- The head fields of a record unit. -/
def headFields (r : Record) : List (Nat × Nat) :=
  [(19, r.sequence / 8192), (4, recordKind r.body), (3, r.lane.val), (32, r.period)]

theorem recordKind_lt (b : RecordBody) : recordKind b < 2 ^ 4 := by
  cases b with
  | change kind => cases kind <;> simp [recordKind]
  | _ => simp [recordKind]

theorem headFields_kept {r : Record} (sequence : r.sequence < 2 ^ 32) (period : r.period < 2 ^ 32) :
    (headFields r).map keptBits = [r.sequence / 8192, recordKind r.body, r.lane.val, r.period] := by
  have high : r.sequence / 8192 < 2 ^ 19 := by omega
  have lane : r.lane.val < 2 ^ 3 := r.lane.isLt
  simp only [headFields, List.map_cons, List.map_nil, keptBits, Nat.mod_eq_of_lt high, Nat.mod_eq_of_lt lane,
    Nat.mod_eq_of_lt period, Nat.mod_eq_of_lt (recordKind_lt r.body)]

/-- The widths of a record's body fields are those of its kind, within the room behind the head. -/
theorem bodyWidths_recordKind (q : Nat) (b : RecordBody) :
    bodyWidths (recordKind b) = some ((bodyFields q b).map Prod.fst) ∧ bitsOf (bodyFields q b) ≤ 182 := by
  cases b with
  | change kind => cases kind <;> exact ⟨rfl, by simp [bitsOf, bodyFields]⟩
  | _ => exact ⟨rfl, by simp [bitsOf, bodyFields]⟩

theorem CardAfter.eq_of_period {c : CardAfter} {period : Nat} (same : c.allowancePeriod = period) :
    (⟨c.state, c.cardNumber, c.cashBalance, c.allowanceRemaining, period, c.spent⟩ : CardAfter) = c := by
  subst same
  rfl

theorem clockBits_lt {clock : Option Nat} (fits : ∀ c ∈ clock, c < 2 ^ 17 - 1) : clockBits clock < 2 ^ 17 := by
  cases clock with
  | none => decide
  | some c => exact Nat.lt_of_lt_of_le (fits c rfl) (by decide)

theorem clockBits_back {clock : Option Nat} (fits : ∀ c ∈ clock, c < 2 ^ 17 - 1) :
    (if clockBits clock = 0x1FFFF then none else some (clockBits clock)) = clock := by
  cases clock with
  | none => rfl
  | some c =>
    have below : c < 2 ^ 17 - 1 := fits c rfl
    exact if_neg (by simp only [clockBits]; omega)

/-- The body fields of a record that fits have values within their widths, and spell its body. -/
theorem bodyFields_spell {r : Record} (fits : r.fits) :
    (∀ x ∈ bodyFields r.sequence r.body, x.2 < 2 ^ x.1) ∧
      bodyOfFields (recordKind r.body) r.sequence r.period r.lane ((bodyFields r.sequence r.body).map Prod.snd) =
        some r.body := by
  obtain ⟨_, _, fits⟩ := fits
  cases body : r.body with
  | capture slot c sp ap cp =>
    rw [body] at fits
    obtain ⟨slot_lt, ⟨⟨card, cash, allowance, period, spent⟩, open_⟩, sponsor, ap_lt, cp_lt⟩ := fits
    refine ⟨?_, ?_⟩
    · simp only [bodyFields, List.forall_mem_cons]
      exact ⟨slot_lt, cardStateBit_lt _, sponsorNumber_lt sponsor, card, ap_lt, cp_lt, cash, allowance, spent,
        sponsorBalance_lt sponsor, nofun⟩
    · simp [bodyFields, bodyOfFields, recordKind, stateOfBit_cardStateBit open_, sponsorAfterOf_sponsor sponsor,
        CardAfter.eq_of_period period]
  | reversal slot c sp ap cp q back =>
    rw [body] at fits
    obtain ⟨slot_lt, ⟨⟨card, cash, allowance, period, spent⟩, open_⟩, sponsor, ap_lt, cp_lt, reach⟩ := fits
    refine ⟨?_, ?_⟩
    · simp only [bodyFields, List.forall_mem_cons]
      exact ⟨slot_lt, cardStateBit_lt _, boolCode_lt _, sponsorNumber_lt sponsor, card, ap_lt, cp_lt, cash, allowance, spent,
        sponsorBalance_lt sponsor, receiptLow_lt _ _, nofun⟩
    · simp [bodyFields, bodyOfFields, recordKind, stateOfBit_cardStateBit open_, sponsorAfterOf_sponsor sponsor,
        CardAfter.eq_of_period period, receiptOfLow_receiptLow reach, boolCode_eq_one]
  | topUp slot c amount | withdraw slot c amount =>
    rw [body] at fits
    obtain ⟨slot_lt, ⟨⟨card, cash, allowance, period, spent⟩, open_⟩, amount_lt⟩ := fits
    refine ⟨?_, ?_⟩
    · simp only [bodyFields, List.forall_mem_cons]
      exact ⟨slot_lt, cardStateBit_lt _, card, amount_lt, cash, allowance, spent, nofun⟩
    · simp [bodyFields, bodyOfFields, recordKind, stateOfBit_cardStateBit open_, CardAfter.eq_of_period period]
  | change kind slot c =>
    rw [body] at fits
    obtain ⟨slot_lt, card, cash, allowance, period, spent⟩ := fits
    refine ⟨?_, ?_⟩
    · simp only [bodyFields, List.forall_mem_cons]
      exact ⟨slot_lt, purseCode_lt _, card, cash, allowance, spent, nofun⟩
    · cases kind <;> simp [bodyFields, bodyOfFields, recordKind, purseOfCode_purseCode, CardAfter.eq_of_period period]
  | fund sp amount =>
    rw [body] at fits
    obtain ⟨sponsor, balance, amount_lt⟩ := fits
    refine ⟨?_, rfl⟩
    simp only [bodyFields, List.forall_mem_cons]
    exact ⟨sponsor, amount_lt, balance, nofun⟩
  | periodClose origin clock f =>
    rw [body] at fits
    obtain ⟨origin_fits, clock_fits, count, cash, allowance, back, allowanceBack⟩ := fits
    refine ⟨?_, ?_⟩
    · simp only [bodyFields, List.forall_mem_cons]
      refine ⟨?_, ?_, clockBits_lt clock_fits, boolCode_lt _, count, cash, allowance, back, allowanceBack, nofun⟩
      · cases origin <;> simp
      · cases origin with
        | lane l => simp
        | schedule e => exact origin_fits.1
    · cases origin with
      | lane l =>
        simp only at origin_fits
        simp [bodyFields, bodyOfFields, recordKind, clockBits_back clock_fits, boolCode_eq_one, origin_fits]
      | schedule e =>
        simp [bodyFields, bodyOfFields, recordKind, clockBits_back clock_fits, boolCode_eq_one]

theorem map_keptBits {fields : List (Nat × Nat)} (fit : ∀ x ∈ fields, x.2 < 2 ^ x.1) :
    fields.map keptBits = fields.map Prod.snd :=
  List.map_congr_left fun x mem => Nat.mod_eq_of_lt (fit x mem)

theorem bodyOfFields_bodyFields {r : Record} (fits : r.fits) :
    bodyOfFields (recordKind r.body) r.sequence r.period r.lane ((bodyFields r.sequence r.body).map keptBits) =
      some r.body := by
  rw [map_keptBits (bodyFields_spell fits).1, (bodyFields_spell fits).2]

theorem readRecord_recordUnit {r : Record} (fits : r.fits) :
    readRecord (ringSlot r.sequence) (recordUnit r) = some r := by
  obtain ⟨sequence, period, _⟩ := id fits
  obtain ⟨widths, room⟩ := bodyWidths_recordKind r.sequence r.body
  have unit : recordUnit r = unitBytes (headFields r ++ bodyFields r.sequence r.body) := rfl
  have headBits : bitsOf (headFields r) = 58 := rfl
  have bits : bitsOf (headFields r ++ bodyFields r.sequence r.body) ≤ 240 := by
    simp only [bitsOf, List.map_append, List.sum_append] at headBits room ⊢
    omega
  have head : unpackBits 240 (packBits 240 (headFields r ++ bodyFields r.sequence r.body)) [19, 4, 3, 32] =
      [r.sequence / 8192, recordKind r.body, r.lane.val, r.period] := by
    rw [← headFields_kept sequence period]
    exact unpackBits_packBits _ (by omega)
  have behind : unpackBits 182 (packBits 240 (headFields r ++ bodyFields r.sequence r.body))
      ((bodyFields r.sequence r.body).map Prod.fst) = (bodyFields r.sequence r.body).map keptBits := by
    have behind := unpackBits_packBits_behind (room := 240) (front := headFields r) (bodyFields r.sequence r.body) (by omega)
    rw [headBits] at behind
    refine behind.trans ?_
    simpa using unpackBits_packBits (room := 182) (fields := bodyFields r.sequence r.body) [] (by simpa [bitsOf] using room)
  have number : r.sequence / 8192 * 8192 + ringSlot r.sequence = r.sequence := Nat.div_add_mod' _ _
  have lane : Fin.ofNat 8 r.lane.val = r.lane := Fin.ext (Nat.mod_eq_of_lt r.lane.isLt)
  rw [readRecord, unit, if_pos (unitCheckOk_unitBytes _), beNat_unitBytes bits]
  simp only [head, widths, behind, number, lane, bodyOfFields_bodyFields fits, Option.map_some]

/-! ## Images -/

/-- The fields of an image unit (R205). -/
def imageFields (k : Nat) : Image → List (Nat × Nat)
  | .card c q =>
    [(8, 1), (12, k), (2, purseCode c.state), (24, c.cardNumber), (21, c.cashBalance), (14, c.allowanceRemaining),
     (32, c.allowancePeriod), (32, c.spent), (32, q)]
  | .sponsor balance q => [(8, 2), (12, k), (6, 4095 - k), (27, balance), (32, q)]

theorem imageUnit_eq (k : Nat) (i : Image) : imageUnit k i = unitBytes (imageFields k i) := by cases i <;> rfl

theorem readImage_imageUnit (k : Nat) {i : Image} (fits : i.fits) : readImage (imageUnit k i) = some i := by
  have bits : bitsOf (imageFields k i) ≤ 240 := by cases i <;> simp [bitsOf, imageFields]
  have fields := unpackBits_packBits (room := 240) (fields := imageFields k i) [] (by simpa [bitsOf] using bits)
  rw [imageUnit_eq, readImage, if_pos (unitCheckOk_unitBytes _), beNat_unitBytes bits]
  rw [List.append_nil] at fields
  generalize packBits 240 (imageFields k i) = n at fields
  cases i with
  | card c q =>
    obtain ⟨⟨card, cash, allowance, _, spent⟩, period, sequence⟩ := fits
    simp only [imageFields, List.map_cons, List.map_nil, keptBits, Nat.mod_eq_of_lt card, Nat.mod_eq_of_lt cash,
      Nat.mod_eq_of_lt allowance, Nat.mod_eq_of_lt spent, Nat.mod_eq_of_lt period, Nat.mod_eq_of_lt sequence,
      Nat.mod_eq_of_lt (purseCode_lt c.state)] at fields
    obtain ⟨_, _, _, _, _, other⟩ : ∃ v w x y z, unpackBits 240 n [8, 12, 6, 27, 32] = [v, w, x, y, z] :=
      ⟨_, _, _, _, _, rfl⟩
    simp [fields, other, purseOfCode_purseCode]
  | sponsor balance q =>
    obtain ⟨balance_lt, sequence⟩ := fits
    simp only [imageFields, List.map_cons, List.map_nil, keptBits, Nat.mod_eq_of_lt balance_lt,
      Nat.mod_eq_of_lt sequence] at fields
    have kind : n / 2 ^ (240 - 8) % 2 ^ 8 = 2 := (List.cons.inj fields).1
    obtain ⟨_, _, _, _, _, _, _, _, other⟩ : ∃ a b c d e f g h,
        unpackBits 240 n [8, 12, 2, 24, 21, 14, 32, 32, 32] = [2, a, b, c, d, e, f, g, h] :=
      ⟨_, _, _, _, _, _, _, _, by rw [unpackBits, kind]; rfl⟩
    simp [fields, other]

/-- Settles O11: a unit's check is good and its fields, which fit, spell what it was made from. -/
theorem unitsRoundTrip : Obligations.unitsRoundTrip := by
  unfold Obligations.unitsRoundTrip
  exact ⟨fun _ fits => readRecord_recordUnit fits, fun k _ fits => readImage_imageUnit k fits⟩

/-! ## The formats written out -/

theorem unitCheckOk_voidUnit : unitCheckOk voidUnit = false := by decide +kernel

theorem readRecord_voidUnit (k : Nat) : readRecord k voidUnit = none := by
  rw [readRecord, unitCheckOk_voidUnit]
  rfl

theorem readImage_voidUnit : readImage voidUnit = none := by
  rw [readImage, unitCheckOk_voidUnit]
  rfl

/-- Settles O12: the written frames, units and commands are computed; the void unit's check is bad; a read walks the bytes held. -/
theorem formatsAsWritten : Obligations.formatsAsWritten := by
  unfold Obligations.formatsAsWritten
  refine ⟨by decide +kernel, by decide +kernel, by decide +kernel, by decide +kernel, by decide +kernel, by decide +kernel,
    by decide +kernel, readRecord_voidUnit, readImage_voidUnit, by decide +kernel, fun m a n canonical => ?_, fun m a n => rfl⟩
  exact readBytes_eq m a n canonical

end Sys2Proof.Machine
end

section
/-! PROOF. The state after reset, the resets themselves (R167, R182, R187, R207), and what a request meets before its own checks (R154,
R155, R157, R182, R190). -/

namespace Sys2Proof.Machine

/-- Settles O1: `step` names the command at the front. -/
theorem stepTakesFrontCommand : Obligations.stepTakesFrontCommand := by
  unfold Obligations.stepTakesFrontCommand
  exact fun _ _ _ => rfl

/-! ## The state after reset -/

theorem forall_mem_none {α : Type} (p : α → Prop) : ∀ x ∈ none, p x := fun x mem => absurd mem (Option.not_mem_none x)

@[simp] theorem reset_hold (k : Nat) : State.reset.engine.hold k = Hold.free := rfl
@[simp] theorem reset_card (slot : Nat) : State.reset.engine.card slot = CardPurse.free := rfl
@[simp] theorem reset_sponsor (n : Nat) : State.reset.engine.sponsor n = SponsorPurse.zero := rfl
@[simp] theorem reset_inFlight : State.reset.inFlight = [] := rfl
@[simp] theorem reset_earlierRecords : State.reset.earlierRecords = [] := rfl

theorem reset_isOpen (h : Nat) : ¬ State.reset.engine.isOpen h := by
  rintro (live | settling)
  · exact absurd ((Engine.resolve_eq_live _ _).1 live).2 nofun
  · exact absurd ((Engine.resolve_eq_settling _ _).1 settling).2 nofun

theorem reset_slotLaw : State.reset.slotLaw := fun _ => lanesAfterReset_slotsAgree

theorem reset_noticeLaw : State.reset.noticeLaw := by
  intro l
  have queue : State.reset.notices.lanes[l] = { queue := [], lost := false, attention := false } := Vector.getElem_replicate ..
  rw [queue]
  exact ⟨Nat.zero_le 8, fun _ => rfl⟩

theorem reset_laneHolds (l : Lane) : State.reset.engine.laneHolds[l] = [] := Vector.getElem_replicate ..

theorem reset_holdLimit (l : Lane) : State.reset.lanes[l].settings.holdLimit ≤ 64 := by
  revert l
  decide

theorem reset_freeList : State.reset.engine.freeList = List.range 512 := by
  rw [State.reset, State.afterReset, Engine.afterReset]

theorem reset_openHolds : State.reset.engine.openHolds = 0 := by
  rw [Engine.openHolds, reset_freeList, List.length_range]

theorem reset_drainLaw : State.reset.drainLaw := ⟨reset_openHolds.symm, nofun⟩

theorem reset_journalLaw : State.reset.journalLaw := by
  refine ⟨?_, ?_, ?_, ?_, ?_, List.forall_mem_nil _⟩
  · exact ⟨rfl, rfl, ⟨rfl, List.forall_mem_nil _⟩, List.forall_mem_nil _, Nat.zero_le 63, Nat.zero_le 1⟩
  · exact ⟨trivial, nofun, absurd rfl, absurd rfl, nofun, List.forall_mem_nil _⟩
  · exact ⟨fun _ => ⟨reset_openHolds, rfl, rfl, rfl, .inr rfl⟩, fun _ => ⟨rfl, .inr ⟨rfl, rfl⟩⟩⟩
  · exact ⟨nofun, rfl⟩
  · exact ⟨List.nodup_nil, List.forall_mem_nil _⟩

theorem reset_holdLaw : State.reset.holdLaw := by
  refine ⟨by rw [reset_freeList]; exact List.nodup_range, fun k => ?_, fun _ _ => rfl, fun l => ?_, fun slot => ?_, List.nodup_nil,
    fun y => ?_, fun _ _ => ⟨rfl, rfl⟩, fun _ _ => ⟨rfl, rfl⟩⟩
  · rw [reset_freeList]
    exact List.mem_range.trans ⟨fun bound => ⟨bound, rfl⟩, And.left⟩
  · refine ⟨reset_holdLimit l, ?_⟩
    rw [reset_laneHolds]
    exact ⟨Nat.zero_le 64, List.nodup_nil, fun h => iff_of_false List.not_mem_nil fun listed => reset_isOpen h listed.1⟩
  · exact ⟨Nat.zero_le 4, List.nodup_nil, fun h => iff_of_false List.not_mem_nil fun listed => reset_isOpen h listed.1⟩
  · exact iff_of_false List.not_mem_nil fun listed => reset_isOpen y.handle listed.1

theorem reset_settlingLaw : State.reset.settlingLaw :=
  ⟨List.nodup_nil, fun h => iff_of_false List.not_mem_nil fun settling => reset_isOpen h (.inr settling), List.forall_mem_nil _⟩

theorem reset_balanceLaw : State.reset.balanceLaw := by
  refine ⟨?_, fun n => ⟨?_, Nat.le_refl 0⟩⟩
  · rintro slot _ rfl
    exact ⟨rfl, rfl, rfl, rfl, Nat.le_refl 0, Nat.le_refl 0, fun held => absurd rfl held⟩
  · simp [Engine.sponsorShares, Hold.free, SponsorPurse.zero]

theorem reset_mapOk : State.reset.engine.mapOk := by
  refine ⟨by decide, by decide, by decide, ?_⟩
  decide

theorem reset_placeLaw : State.reset.placeLaw := by
  refine ⟨reset_mapOk, ?_, fun n => rfl, fun k opened => absurd rfl opened, List.forall_mem_nil _, List.forall_mem_nil _⟩
  rintro slot _ rfl
  exact ⟨rfl, fun _ => rfl, fun held => absurd held (by simp [CardPurse.free]), nofun⟩

theorem reset_capLaw : State.reset.capLaw := by
  intro n
  simp only [reset_earlierRecords, List.take_nil]
  exact ⟨fun _ => Nat.zero_le _, fun _ => Nat.zero_le _⟩

/-- Settles O2: after a power-on reset every list and table is empty. -/
theorem resetIsSound : Obligations.resetIsSound := by
  unfold Obligations.resetIsSound
  have tables : State.reset.tablesCanonical := ⟨rfl, rfl, rfl⟩
  exact ⟨rfl, tables, reset_noticeLaw, Nat.zero_le 256, reset_drainLaw, reset_slotLaw, List.Pairwise.nil,
    ⟨tables, reset_drainLaw, reset_slotLaw,
      fun _ => ⟨reset_journalLaw, reset_holdLaw, reset_settlingLaw, reset_balanceLaw, reset_placeLaw⟩⟩, reset_capLaw⟩

/-! ## Resets -/

theorem silenced_lane (s : State) (l : Lane) : (s.lanes.map LaneUnit.silenced)[l] = { s.lanes[l] with tx := [] } :=
  Vector.getElem_map ..

/-- Settles O55: each reset gives the state after reset but for what it names, over the store as the write under way leaves it. -/
theorem resetsClear : Obligations.resetsClear := by
  unfold Obligations.resetsClear
  intro cut s
  refine ⟨_, _, _, rfl, rfl, rfl, rfl, rfl, rfl, rfl, rfl, rfl, rfl, rfl, rfl, rfl, rfl, reset_openHolds, rfl, fun l => ?_, rfl,
    fun l => ?_, fun a uncovered => ?_⟩
  · refine ⟨?_, ?_, ?_, ?_, ?_, Vector.getElem_replicate ..⟩ <;>
      exact congrArg _ (lanesAfterReset_getElem l)
  · have lane := silenced_lane s l
    refine ⟨lane, ?_, Vector.getElem_map ..⟩
    simp only [State.txBytes, lane]
  · exact ⟨(cutWrite_lands cut s).outside uncovered, (cutWrite_lands cut s).outside uncovered⟩

/-- Settles O56. -/
theorem heldInReset : Obligations.heldInReset := by
  unfold Obligations.heldInReset
  exact fun c s held other => exec_of_held held other

end Sys2Proof.Machine
end

section
/-! PROOF. The request in the intake and the reply to it (R153, R154), and what a request meets before its own checks: at its arrival
(R155, R157), and at its owner while the part is not READY (R190) or the config lock is set (R182). -/

namespace Sys2Proof.Machine

/-! ## The request in the intake -/

theorem decodeRequest_eq_some {l : Lane} {kind : Byte} {body : List Byte} {c : Instr} :
    decodeRequest l kind body = some c ↔
      ∃ k, kindCode k = kind ∧ body.length = bodyLength k ∧ requestCommand l k body = c := by
  unfold decodeRequest
  split
  next k named =>
    have code := kindOfCode_eq_some.1 named
    constructor
    · intro spelt
      split at spelt
      next length => exact ⟨k, code, length, Option.some.inj spelt⟩
      next => cases spelt
    · rintro ⟨k', code', length, rfl⟩
      obtain rfl : k' = k := by simpa [code', named] using (kindOfCode_kindCode k').symm
      exact if_pos length
  next unnamed =>
    constructor
    · nofun
    · rintro ⟨k, code, _⟩
      simp [← code] at unnamed

/-- The command in the intake is spelt by the frame of one lane, which is WITH_OWNER. -/
theorem State.granted_eq_some {s : State} {c : Instr} (granted : s.granted = some c) :
    ∃ l f, s.arbiter.intake = some l ∧ s.lanes[l].request = .withOwner f ∧ decodeRequest l f.kind f.body = some c := by
  unfold State.granted at granted
  split at granted
  next l intake =>
    split at granted
    next f owned => exact ⟨l, f, intake, owned, granted⟩
    next => cases granted
  next => cases granted

theorem fillReply_withOwner {l : Lane} {s : State} {f : Frame} (owned : s.lanes[l].request = .withOwner f) (r : Result)
    (body : List Byte) : fillReply l r body s = { s with
      lanes := s.lanes.set l { s.lanes[l] with
        request := .replying f, tx := s.lanes[l].tx ++ [.reply],
        reply := some { kind := f.kind, tag := f.tag, result := r, body := body } } } := by
  simp only [fillReply, State.mapLane, owned]

/-- Settles O13: the intake's command is decoded from its lane's frame, of which it is the encoding. -/
theorem ownerFillsReply : Obligations.ownerFillsReply := by
  unfold Obligations.ownerFillsReply
  refine ⟨fun c s asks => ?_, fun l r body s f owned => fillReply_withOwner owned r body⟩
  obtain ⟨l, f, intake, owned, spelt⟩ := State.granted_eq_some asks.2
  obtain ⟨k, code, length, rfl⟩ := decodeRequest_eq_some.1 spelt
  exact ⟨l, k, f.body, f, encodeRequest_requestCommand length, owned, code.symm, rfl, intake⟩

/-! ## At arrival (R155, R157) -/

theorem arrivalRefusal_unknown {r : Role} {state : LaneState} {f : Frame} (unknown : kindOfCode f.kind = none) :
    arrivalRefusal r state f = some .badRequest := by
  simp [arrivalRefusal, unknown]

theorem arrivalRefusal_length {r : Role} {state : LaneState} {f : Frame} {k : RequestKind} (kind : kindOfCode f.kind = some k)
    (length : f.body.length ≠ bodyLength k) : arrivalRefusal r state f = some .badLength := by
  simp [arrivalRefusal, kind, length]

section
variable {state : LaneState} {f : Frame} {k : RequestKind} (kind : kindOfCode f.kind = some k)
  (length : f.body.length = bodyLength k)
include kind length

/-- A kind that its role allows is taken on a lane that is not LOST. -/
theorem arrivalRefusal_none_of_heard {r : Role} (may : roleMaySend r k = true) (heard : state ≠ .lost) :
    arrivalRefusal r state f = none := by
  simp [arrivalRefusal_wellFormed kind length, may, refusesWhileLost_notLost k heard]

/-- A kind that is taken on a LOST lane is taken in every lane state. -/
theorem arrivalRefusal_none_of_taken {r : Role} (may : roleMaySend r k = true) (taken : takenWhileLost k = true) :
    arrivalRefusal r state f = none := by
  simp [arrivalRefusal_wellFormed kind length, may, refusesWhileLost, taken]

/-- A kind that its role allows is refused on a LOST lane for the loss. -/
theorem arrivalRefusal_lost {r : Role} (may : roleMaySend r k = true) (untaken : takenWhileLost k = false) :
    arrivalRefusal r .lost f = some .laneRecovering := by
  simp [arrivalRefusal_wellFormed kind length, may, untaken]

/-- A kind that the role of a LOST lane does not allow is refused as the free value says. -/
theorem arrivalRefusal_lost_role {r : Role} (not : roleMaySend r k = false) (untaken : takenWhileLost k = false) :
    arrivalRefusal r .lost f = some (if Config.lossRefusesFirst f.kind then .laneRecovering else .notPermitted) := by
  simp [arrivalRefusal_wellFormed kind length, not, roleRefusal_lost untaken, kindOfCode_eq_some.1 kind]

end

/-! ## At the owner (R182, R190) -/

theorem State.unready_taken {s : State} (unready : s.restore.part ≠ .ready) : s.taken.ready = false := decide_eq_false unready

/-- A request taken while the part is not READY is answered NOT_READY. -/
theorem readyRequest_of_unready {c : Instr} {l : Lane} {owner : State → State} {s : State} (asks : s.Asks c)
    (unready : s.restore.part ≠ .ready) : readyRequest c l owner s = .next (fillReply l .notReady [] s.taken) := by
  rw [readyRequest, request_of_asks asks]
  exact congrArg _ (if_neg (by simp [State.unready_taken unready]))

theorem officeRequest_of_unready {c : Instr} {l : Lane} {own : State → State} {s : State} (asks : s.Asks c)
    (unready : s.restore.part ≠ .ready) : officeRequest c l own s = .next (fillReply l .notReady [] s.taken) :=
  readyRequest_of_unready asks unready

theorem lockedRequest_of_unready {c : Instr} {l : Lane} {owner : State → State} {s : State} (asks : s.Asks c)
    (unready : s.restore.part ≠ .ready) : lockedRequest c l owner s = .next (fillReply l .notReady [] s.taken) :=
  readyRequest_of_unready asks unready

/-- A SET_ request taken while the config lock is set is answered LOCKED. -/
theorem lockedRequest_of_locked {c : Instr} {l : Lane} {owner : State → State} {s : State} (asks : s.AsksReady c)
    (locked : s.config.lock = true) : lockedRequest c l owner s = .next (fillReply l .locked [] s.taken) := by
  rw [lockedRequest, readyRequest_of_asks asks]
  exact congrArg _ (if_pos locked)

/-- A SET_ request taken with the config lock clear is its owner's. -/
theorem lockedRequest_of_clear {c : Instr} {l : Lane} {owner : State → State} {s : State} (asks : s.AsksReady c)
    (clear : s.config.lock = false) : lockedRequest c l owner s = .next (owner s.taken) := by
  rw [lockedRequest, readyRequest_of_asks asks]
  exact congrArg _ (if_neg (by simp [clear]))

theorem exec_lockConfig (l : Lane) (s : State) : exec (.lockConfig l) s = execLockConfig l s := rfl

theorem exec_of_unready {c : Instr} {s : State} {l : Lane} {k : RequestKind} {body : List Byte} (asks : s.Asks c)
    (encoded : encodeRequest c = some (l, k, body)) (late : ¬ takenBeforeReady k) (unready : s.restore.part ≠ .ready) :
    exec c s = .next (fillReply l .notReady [] s.taken) := by
  cases c <;> cases encoded
  case ping | pollNotice | readConfig | formatStore => exact absurd trivial late
  case hold card amount parts =>
    rw [exec_hold, execHold, takeRequest_of_asks asks, engineHold]
    exact if_pos (by simp [State.unready_taken unready])
  case openPurse | closePurse | block | unblock | topUp | withdraw | fundSponsor =>
    exact officeRequest_of_unready asks unready
  case setLane | setRange | setSponsorCount | setCeiling | setLowMark | setSchedule | setDrainLimit | setRoute =>
    exact lockedRequest_of_unready asks unready
  case lockConfig =>
    rw [exec_lockConfig, execLockConfig]
    exact readyRequest_of_unready asks unready
  all_goals exact readyRequest_of_unready asks unready

theorem exec_of_locked {c : Instr} {s : State} {l : Lane} {k : RequestKind} {body : List Byte} (asks : s.AsksReady c)
    (encoded : encodeRequest c = some (l, k, body)) (kind : lockedKind k) (locked : s.config.lock = true) :
    exec c s = .next (fillReply l .locked [] s.taken) := by
  cases c <;> cases encoded
  case setLane | setRange | setSponsorCount | setCeiling | setLowMark | setSchedule | setDrainLimit | setRoute =>
    exact lockedRequest_of_locked asks locked
  all_goals exact kind.elim

/-- Settles O14: the checks at arrival kind by kind, then NOT_READY and LOCKED at the owner. -/
theorem requestsRefusedFirst : Obligations.requestsRefusedFirst := by
  unfold Obligations.requestsRefusedFirst
  refine ⟨?_, ?_, fun c s l k body => exec_of_unready, fun c s l k body => exec_of_locked⟩
  · rintro kinds listed
    have rows : ∀ x ∈ kinds, kindCode x.1 = x.2.1 ∧ bodyLength x.1 = x.2.2 := by
      subst listed
      decide
    have codes (k code length) (mem : (k, code, length) ∈ kinds) : kindCode k = code ∧ bodyLength k = length := rows _ mem
    have every (k : RequestKind) : (k, kindCode k, bodyLength k) ∈ kinds := by
      subst listed
      cases k <;> decide
    refine ⟨fun k code length mem => ?_, fun role state f => ⟨fun unlisted => ?_, fun k length mem wrong => ?_⟩⟩
    · obtain ⟨rfl, rfl⟩ := codes _ _ _ mem
      exact ⟨rfl, kindOfCode_kindCode k, rfl⟩
    · refine arrivalRefusal_unknown ?_
      by_contra known
      obtain ⟨k, kind⟩ := Option.ne_none_iff_exists'.1 known
      exact unlisted _ (every k) (kindOfCode_eq_some.1 kind)
    · obtain ⟨code, rfl⟩ := codes _ _ _ mem
      exact arrivalRefusal_length (kindOfCode_eq_some.2 code) wrong
  · rintro state f k office rfl kind length
    refine ⟨fun mem heard => ?_, fun mem heard => ?_, fun mem => ?_, fun mem => ?_, fun mem => ?_, fun mem heard => ?_,
      fun mem => ?_⟩
    · have roles : roleMaySend .office k = false ∧ roleMaySend .till k = true := by clear kind length; revert k; decide
      exact ⟨arrivalRefusal_notLost kind length roles.1 heard, arrivalRefusal_none_of_heard kind length roles.2 heard⟩
    · have roles : roleMaySend .till k = false ∧ roleMaySend .office k = true := by clear kind length; revert k; decide
      exact ⟨arrivalRefusal_notLost kind length roles.1 heard, arrivalRefusal_none_of_heard kind length roles.2 heard⟩
    · have untaken : roleMaySend .till k = false ∧ takenWhileLost k = false := by clear kind length; revert k; decide
      exact arrivalRefusal_lost_role kind length untaken.1 untaken.2
    · have untaken : roleMaySend .office k = false ∧ takenWhileLost k = false := by clear kind length; revert k; decide
      exact arrivalRefusal_lost_role kind length untaken.1 untaken.2
    · have taken : roleMaySend .till k = true ∧ roleMaySend .office k = true ∧ takenWhileLost k = true := by
        clear kind length; revert k; decide
      exact ⟨arrivalRefusal_none_of_taken kind length taken.1 taken.2.2,
        arrivalRefusal_none_of_taken kind length taken.2.1 taken.2.2⟩
    · have roles : roleMaySend .till k = true ∧ roleMaySend .office k = true := by clear kind length; revert k; decide
      exact ⟨arrivalRefusal_none_of_heard kind length roles.1 heard, arrivalRefusal_none_of_heard kind length roles.2 heard⟩
    · have untaken : roleMaySend .till k = true ∧ takenWhileLost k = false := by clear kind length; revert k; decide
      exact arrivalRefusal_lost kind length untaken.1 untaken.2

end Sys2Proof.Machine
end

section
/-! PROOF. Lanes (chapter 7): bytes and frames on a receive line, the transmitter, the arbiter's grants, and the silence timer. -/

namespace Sys2Proof.Machine

/-! ## Commands of the lanes -/

theorem exec_byteReceived (l : Lane) (b : Byte) (stopBit : Bool) (s : State) :
    exec (.byteReceived l b stopBit) s = execByteReceived l b stopBit s := rfl
theorem exec_frameReceived (l : Lane) (b : Byte) (s : State) : exec (.frameReceived l b) s = execFrameReceived l b s := rfl
theorem exec_gapTimerExpiry (l : Lane) (s : State) : exec (.gapTimerExpiry l) s = execGapTimerExpiry l s := rfl
theorem exec_frameSent (l : Lane) (s : State) : exec (.frameSent l) s = execFrameSent l s := rfl
theorem exec_laneGrant (s : State) : exec .laneGrant s = execLaneGrant s := rfl
theorem exec_ping (l : Lane) (s : State) : exec (.ping l) s = execPing l s := rfl
theorem exec_silenceTimerExpiry (l : Lane) (s : State) : exec (.silenceTimerExpiry l) s = execSilenceTimerExpiry l s := rfl

section
variable {l : Lane} {b : Byte} {s : State}

/-! ## A byte on a receive line (R151) -/

theorem receiveByte_closed (closed : s.lanes[l].receiver = .closed) (stopBit : Bool) : receiveByte l b stopBit s = s := by
  simp [receiveByte, closed, -Fin.getElem_fin]

theorem receiveByte_unstopped (opened : s.lanes[l].receiver ≠ .closed) :
    receiveByte l b false s = linkErrorAt l .discarding s := by
  cases receiver : s.lanes[l].receiver <;> simp_all [receiveByte, -Fin.getElem_fin]

theorem receiveByte_hunt (hunt : s.lanes[l].receiver = .hunt) :
    receiveByte l b true s = if b = startMark then setReceiver l (.receiving []) s else s := by
  simp [receiveByte, hunt, -Fin.getElem_fin]

theorem receiveByte_receiving {got : List Byte} (receiving : s.lanes[l].receiver = .receiving got) :
    receiveByte l b true s = byteInFrame l got b s := by
  simp [receiveByte, receiving, -Fin.getElem_fin]

theorem receiveByte_discarding (discarding : s.lanes[l].receiver = .discarding) : receiveByte l b true s = s := by
  simp [receiveByte, discarding, -Fin.getElem_fin]

theorem frameLength_cons (n : Byte) (got : List Byte) : frameLength (n :: got) = n.toNat := by
  simp [frameLength, readField, beNat]

/-- A byte after the length byte, short of the last check byte. -/
theorem byteInFrame_short {n : Byte} {got : List Byte} (short : got.length < n.toNat + 1) :
    byteInFrame l (n :: got) b s = setReceiver l (.receiving (n :: got ++ [b])) s := by
  refine if_neg ?_
  rw [frameLength_cons, List.length_cons]
  omega

section
variable {n kind tag c1 : Byte} {body : List Byte} (length : n.toNat = body.length + 2)
include length

/-- The last check byte of a frame: the check is compared. -/
theorem byteInFrame_last : byteInFrame l (n :: kind :: tag :: body ++ [c1]) b s =
    if checkBytes (kind :: tag :: body) = [c1, b] then
      frameArrives l { kind := kind, tag := tag, body := body } (setReceiver l .hunt s)
    else linkErrorAt l .hunt s := by
  have complete : byteInFrame l (n :: kind :: tag :: body ++ [c1]) b s =
      frameComplete l (n :: kind :: tag :: body ++ [c1] ++ [b]) s := by
    refine if_pos ?_
    rw [List.cons_append, frameLength_cons]
    simp only [List.length_cons, List.length_append, List.length_nil]
    omega
  have counted : ((n :: kind :: tag :: body ++ [c1] ++ [b]).drop 1).take (body.length + 2) = kind :: tag :: body := by
    simp
  have check : (n :: kind :: tag :: body ++ [c1] ++ [b]).drop (1 + (body.length + 2)) = [c1, b] := by
    simp [Nat.add_comm 1]
  have size : frameLength (n :: kind :: tag :: body ++ [c1] ++ [b]) = body.length + 2 := by
    rw [List.cons_append, List.cons_append, frameLength_cons, length]
  rw [complete, frameComplete]
  simp only [size, counted, check, frameOf, eq_comm (a := [c1, b])]

/-- FRAME_RECEIVED is the byte that completes the frame in reception. -/
theorem atLastByte_of_frame (receiving : s.lanes[l].receiver = .receiving (n :: kind :: tag :: body ++ [c1])) :
    s.lanes[l].atLastByte = true := by
  simp [LaneUnit.atLastByte, receiving, length, -Fin.getElem_fin]

end

theorem exec_byteReceived_of_released (released : s.restore.inReset = false) (stopBit : Bool) :
    exec (.byteReceived l b stopBit) s = .next (receiveByte l b stopBit s) := event_of_released released

theorem exec_frameReceived_of_released (released : s.restore.inReset = false) (last : s.lanes[l].atLastByte = true) :
    exec (.frameReceived l b) s = .next (receiveByte l b true s) := by
  rw [exec_frameReceived, execFrameReceived, event_of_released released, if_pos last]

end

/-- Settles O15: by the state of the receiver, and of the transmitter's order. -/
theorem linesMoveLaneUnit : Obligations.linesMoveLaneUnit := by
  unfold Obligations.linesMoveLaneUnit
  rintro l b s _ error released rfl errors
  have error_eq (next : Receiver) : linkErrorAt l next s = error next := (errors next).symm
  have received (stopBit : Bool) := exec_byteReceived_of_released (l := l) (b := b) released stopBit
  refine ⟨fun hunt start => ?_, fun hunt other => ?_, fun receiving low high => ?_, fun receiving range => ?_,
    fun n got receiving short => ?_, fun n kind tag c1 body receiving length bad => ?_, fun opened => ?_,
    fun discarding => ?_, fun closed => ?_, fun got receiving => ?_, fun discarding => ?_, fun rest tx => ?_, fun rest tx => ?_⟩
  · rw [received, receiveByte_hunt hunt, if_pos (show b = startMark from start)]
    rfl
  · rw [received, receiveByte_hunt hunt, if_neg (show b ≠ startMark from other)]
  · rw [received, receiveByte_receiving receiving, byteInFrame, if_neg (by omega)]
    rfl
  · rw [received, receiveByte_receiving receiving, byteInFrame, if_pos range, error_eq]
  · rw [received, receiveByte_receiving receiving, byteInFrame_short short]
    rfl
  · have falls : receiveByte l b true s = error .hunt := by
      rw [receiveByte_receiving receiving, byteInFrame_last length, if_neg bad, error_eq]
    rw [exec_frameReceived_of_released released (atLastByte_of_frame length receiving), received, falls]
    exact ⟨rfl, rfl⟩
  · rw [received, receiveByte_unstopped opened, error_eq]
  · rw [received, receiveByte_discarding discarding]
  · rw [received, received, receiveByte_closed closed, receiveByte_closed closed]
    exact ⟨rfl, rfl⟩
  · rw [exec_gapTimerExpiry, execGapTimerExpiry, event_of_released released]
    simp only [receiving, error_eq]
  · rw [exec_gapTimerExpiry, execGapTimerExpiry, event_of_released released]
    simp only [discarding]
    rfl
  · rw [exec_frameSent, execFrameSent, event_of_released released, State.mapLane, LaneUnit.sent]
    simp only [tx]
  · rw [exec_frameSent, execFrameSent, event_of_released released, State.mapLane, LaneUnit.sent]
    simp only [tx]

/-! ## A valid frame (R154 to R156, R161) -/

/-- What hearing a frame leaves of a Lane Unit: all but its state and its timer. -/
theorem LaneUnit.heard_eq (now : Tick) (u : LaneUnit) :
    u.heard now = { u with state := (u.heard now).state, silence := (u.heard now).silence } := by
  unfold LaneUnit.heard
  split
  · rfl
  · split <;> rfl
  · rfl

/-- What a frame at the slots leaves of a Lane Unit: all but the slots and the transmitter's order. -/
theorem LaneUnit.accept_eq (f : Frame) (u : LaneUnit) : u.accept f = { u with
    request := (u.accept f).request, reply := (u.accept f).reply, busy := (u.accept f).busy, tx := (u.accept f).tx } := by
  unfold LaneUnit.accept LaneUnit.refuseFrame
  split <;> split <;> rfl

@[simp] theorem LaneUnit.accept_settings (f : Frame) (u : LaneUnit) : (u.accept f).settings = u.settings := by
  rw [LaneUnit.accept_eq]
@[simp] theorem LaneUnit.accept_state (f : Frame) (u : LaneUnit) : (u.accept f).state = u.state := by
  rw [LaneUnit.accept_eq]
@[simp] theorem LaneUnit.accept_receiver (f : Frame) (u : LaneUnit) : (u.accept f).receiver = u.receiver := by
  rw [LaneUnit.accept_eq]
@[simp] theorem LaneUnit.accept_silence (f : Frame) (u : LaneUnit) : (u.accept f).silence = u.silence := by
  rw [LaneUnit.accept_eq]
@[simp] theorem LaneUnit.accept_linkError (f : Frame) (u : LaneUnit) : (u.accept f).linkError = u.linkError := by
  rw [LaneUnit.accept_eq]
@[simp] theorem LaneUnit.accept_noticeAwaited (f : Frame) (u : LaneUnit) : (u.accept f).noticeAwaited = u.noticeAwaited := by
  rw [LaneUnit.accept_eq]

@[simp] theorem LaneUnit.heard_settings (now : Tick) (u : LaneUnit) : (u.heard now).settings = u.settings := by
  rw [LaneUnit.heard_eq]
@[simp] theorem LaneUnit.heard_receiver (now : Tick) (u : LaneUnit) : (u.heard now).receiver = u.receiver := by
  rw [LaneUnit.heard_eq]
@[simp] theorem LaneUnit.heard_request (now : Tick) (u : LaneUnit) : (u.heard now).request = u.request := by
  rw [LaneUnit.heard_eq]
@[simp] theorem LaneUnit.heard_reply (now : Tick) (u : LaneUnit) : (u.heard now).reply = u.reply := by
  rw [LaneUnit.heard_eq]
@[simp] theorem LaneUnit.heard_busy (now : Tick) (u : LaneUnit) : (u.heard now).busy = u.busy := by
  rw [LaneUnit.heard_eq]
@[simp] theorem LaneUnit.heard_tx (now : Tick) (u : LaneUnit) : (u.heard now).tx = u.tx := by
  rw [LaneUnit.heard_eq]
@[simp] theorem LaneUnit.heard_linkError (now : Tick) (u : LaneUnit) : (u.heard now).linkError = u.linkError := by
  rw [LaneUnit.heard_eq]
@[simp] theorem LaneUnit.heard_noticeAwaited (now : Tick) (u : LaneUnit) : (u.heard now).noticeAwaited = u.noticeAwaited := by
  rw [LaneUnit.heard_eq]

theorem LaneUnit.accept_busy {f : Frame} {u : LaneUnit} (occupied : u.request ≠ .empty) (unanswered : u.busy = none) :
    u.accept f =
      { u with busy := some { kind := f.kind, tag := f.tag, result := .busy, body := [] }, tx := u.tx ++ [.busy] } := by
  cases request : u.request <;> simp_all [LaneUnit.accept]

theorem LaneUnit.accept_dropped {f : Frame} {u : LaneUnit} (occupied : u.request ≠ .empty) (answered : u.busy ≠ none) :
    u.accept f = u := by
  obtain ⟨x, busy⟩ := Option.ne_none_iff_exists'.1 answered
  cases request : u.request <;> simp_all [LaneUnit.accept]

theorem LaneUnit.accept_refused {f : Frame} {u : LaneUnit} (empty : u.request = .empty) {r : Result}
    (refused : arrivalRefusal u.settings.role u.state f = some r) : u.accept f = u.refuseFrame f r := by
  simp [LaneUnit.accept, empty, refused]

theorem LaneUnit.accept_waits {f : Frame} {u : LaneUnit} (empty : u.request = .empty)
    (allowed : arrivalRefusal u.settings.role u.state f = none) : u.accept f = { u with request := .waiting f } := by
  simp [LaneUnit.accept, empty, allowed]

/-- A Lane Unit once a valid frame has arrived on it. -/
def LaneUnit.framed (now : Tick) (f : Frame) (u : LaneUnit) : LaneUnit :=
  (LaneUnit.heard now { u with receiver := .hunt }).accept f

theorem exec_validFrame {l : Lane} {n kind tag c1 c2 : Byte} {body : List Byte} {s : State}
    (released : s.restore.inReset = false)
    (receiving : s.lanes[l].receiver = .receiving (n :: kind :: tag :: body ++ [c1])) (length : n.toNat = body.length + 2)
    (check : checkBytes (kind :: tag :: body) = [c1, c2]) :
    exec (.frameReceived l c2) s =
      .next { s with lanes := s.lanes.set l (s.lanes[l].framed s.now ⟨kind, tag, body⟩) } := by
  rw [exec_frameReceived_of_released released (atLastByte_of_frame length receiving), receiveByte_receiving receiving,
    byteInFrame_last length, if_pos check]
  simp only [frameArrives, setReceiver, State.mapLane, Fin.getElem_fin, Vector.getElem_set_self, Vector.set_set]
  rfl

/-- Settles O16: the frame is heard, then meets the slots of its Lane Unit. -/
theorem validFrameArrives : Obligations.validFrameArrives := by
  unfold Obligations.validFrameArrives
  refine ⟨fun now c => rfl, ?_⟩
  rintro l n kind tag c1 c2 body s _ released rfl receiving length check
  have received : exec (.byteReceived l c2 true) s = exec (.frameReceived l c2) s := by
    rw [exec_byteReceived_of_released released, exec_frameReceived_of_released released (atLastByte_of_frame length receiving)]
  refine ⟨_, exec_validFrame released receiving length check, received, ?_⟩
  unfold LaneUnit.framed
  generalize heard : LaneUnit.heard s.now { s.lanes[l] with receiver := .hunt } = h
  have request : h.request = s.lanes[l].request := heard ▸ LaneUnit.heard_request ..
  refine ⟨?_, ?_, ?_, ?_, fun idle => ?_, fun active => ?_, fun lost => ?_, fun empty => ⟨fun allowed => ?_, fun r refused => ?_⟩,
    fun occupied => ?_⟩
  iterate 4 simp [← heard, -Fin.getElem_fin]
  · simp [← heard, LaneUnit.heard, idle, -Fin.getElem_fin]
  · cases on : s.lanes[l].silence.isOn <;> simp [← heard, LaneUnit.heard, active, on, -Fin.getElem_fin]
  · simp [← heard, LaneUnit.heard, lost, -Fin.getElem_fin]
  · have allowed : arrivalRefusal h.settings.role h.state ⟨kind, tag, body⟩ = none := by
      simpa [← heard, -Fin.getElem_fin] using allowed
    rw [LaneUnit.accept_waits (request.trans empty) allowed]
    simp [← heard, -Fin.getElem_fin]
  · have refused : arrivalRefusal h.settings.role h.state ⟨kind, tag, body⟩ = some r := by
      simpa [← heard, -Fin.getElem_fin] using refused
    rw [LaneUnit.accept_refused (request.trans empty) refused]
    simp [← heard, LaneUnit.refuseFrame, -Fin.getElem_fin]
  · have busy : h.busy = s.lanes[l].busy := heard ▸ LaneUnit.heard_busy ..
    have reply : h.reply = s.lanes[l].reply := heard ▸ LaneUnit.heard_reply ..
    have tx : h.tx = s.lanes[l].tx := heard ▸ LaneUnit.heard_tx ..
    rw [← request] at occupied
    rw [← request, ← reply, ← busy, ← tx]
    by_cases answered : h.busy = none
    · rw [LaneUnit.accept_busy occupied answered]
      exact ⟨rfl, rfl, fun _ => ⟨rfl, rfl⟩, fun full => absurd answered full⟩
    · rw [LaneUnit.accept_dropped occupied answered]
      exact ⟨rfl, rfl, fun empty => absurd empty answered, fun _ => ⟨rfl, rfl⟩⟩

/-! ## Grants (R159, R160, R166) -/

theorem findSome?_finRange {α : Type} {n : Nat} {f : Fin n → Option α} {a : α} :
    (List.finRange n).findSome? f = some a ↔ ∃ i, f i = some a ∧ ∀ j < i, f j = none := by
  rw [List.findSome?_eq_some_iff]
  constructor
  · rintro ⟨front, i, back, split, found, before⟩
    refine ⟨i, found, fun j lt => before j ?_⟩
    have ordered := List.pairwise_lt_finRange n
    rw [split] at ordered
    have mem : j ∈ front ++ i :: back := split ▸ List.mem_finRange j
    rcases List.mem_append.1 mem with mem | mem
    · exact mem
    · rcases List.mem_cons.1 mem with rfl | mem
      · exact absurd lt (lt_irrefl _)
      · exact absurd lt (List.pairwise_cons.1 (List.pairwise_append.1 ordered).2.1 |>.1 j mem).asymm
  · rintro ⟨i, found, before⟩
    obtain ⟨front, back, split⟩ := List.append_of_mem (List.mem_finRange i)
    have ordered := List.pairwise_lt_finRange n
    rw [split] at ordered
    exact ⟨front, i, back, split, found, fun j mem => before j
      ((List.pairwise_append.1 ordered).2.2 j mem i List.mem_cons_self)⟩

/-- Settles O17: the lanes are looked at in rising order of their distance from the lane after the pointer. -/
theorem grantOrderFair : Obligations.grantOrderFair := by
  unfold Obligations.grantOrderFair
  intro s l f
  unfold State.nextGrant
  cases intake : s.arbiter.intake with
  | some k => simp
  | none =>
    simp only [grantOrder, List.findSome?_map, findSome?_finRange, Function.comp_def, Option.map_eq_some_iff,
      Option.map_eq_none_iff, true_and]
    constructor
    · rintro ⟨i, ⟨_, waits, same⟩, before⟩
      obtain ⟨rfl, rfl⟩ := Prod.mk.inj same
      refine ⟨RequestSlot.waitingFrame_some.1 waits, fun k nearer => ?_⟩
      have lane : s.arbiter.pointer + 1 + (k - (s.arbiter.pointer + 1)) = k := by abel
      rw [← lane]
      exact before _ (by simpa [add_sub_cancel_left] using nearer)
    · rintro ⟨waits, before⟩
      have lane : s.arbiter.pointer + 1 + (l - (s.arbiter.pointer + 1)) = l := by abel
      refine ⟨l - (s.arbiter.pointer + 1), ⟨f, ?_, by rw [lane]⟩, fun j nearer => before _ ?_⟩
      · rw [lane]
        exact RequestSlot.waitingFrame_some.2 waits
      · simpa [add_sub_cancel_left] using nearer

end Sys2Proof.Machine
end

section
/-! PROOF. Grants of the arbiter (R160, R166), the loss of a silent lane (R163), and SET_LANE (R149, R150). -/

namespace Sys2Proof.Machine

section
variable {s : State} {l : Lane} {f : Frame}

/-! ## Grants -/

theorem exec_laneGrant_of_next (released : s.restore.inReset = false) (grant : s.nextGrant = some (l, f)) :
    exec .laneGrant s = .next (grantRequest l f s) := by
  rw [exec_laneGrant, execLaneGrant, event_of_released released]
  simp only [grant]

theorem exec_ping_of_next (released : s.restore.inReset = false) (grant : s.nextGrant = some (l, f))
    (ping : kindOfCode f.kind = some .ping) : exec (.ping l) s = .next (grantRequest l f s) := by
  rw [exec_ping, execPing, event_of_released released]
  simp only [grant, ping, and_self, if_true]

/-- The lanes a grant finds LOST, after the pointer has moved. -/
theorem laneLost_pointed (p l : Lane) (s : State) :
    (s.mapArbiter fun a => { a with pointer := p }).laneLost l = s.laneLost l := rfl

theorem grantRequest_lost (lost : s.laneLost l = true) (untaken : (kindOfCode f.kind).all takenWhileLost = false) :
    grantRequest l f s = (s.mapArbiter fun a => { a with pointer := l }).mapLane l (LaneUnit.refuseFrame f .laneRecovering) := by
  unfold grantRequest
  dsimp only
  rw [laneLost_pointed, if_pos ⟨lost, untaken⟩]

theorem grantRequest_ping (ping : kindOfCode f.kind = some .ping) :
    grantRequest l f s = answerPing l f (s.mapArbiter fun a => { a with pointer := l }) := by
  unfold grantRequest
  dsimp only
  rw [if_neg (by simp [ping, takenWhileLost]), if_pos ping]

theorem grantRequest_owner (taken : s.laneLost l = false ∨ (kindOfCode f.kind).all takenWhileLost = true)
    (other : kindOfCode f.kind ≠ some .ping) : grantRequest l f s =
      ((s.mapArbiter fun a => { a with pointer := l }).mapLane l fun u => { u with request := .withOwner f }).mapArbiter
        fun a => { a with intake := some l } := by
  unfold grantRequest
  dsimp only
  rw [laneLost_pointed, if_neg (by rintro ⟨lost, untaken⟩; simp_all), if_neg other]

theorem intake_of_nextGrant (grant : s.nextGrant = some (l, f)) : s.arbiter.intake = none := by
  cases intake : s.arbiter.intake with
  | none => rfl
  | some k => simp [State.nextGrant, intake] at grant

end

/-- The arbiter's pointer moved while the intake stays free. -/
theorem pointed_of_free {s : State} (free : s.arbiter.intake = none) (l : Lane) :
    (s.mapArbiter fun a => { a with pointer := l }) = { s with arbiter := { pointer := l, intake := none } } := by
  rw [← free]
  rfl

theorem untaken_of_other {kind : Option RequestKind} (other : kind ∉ [some .ping, some .pollNotice, some .balance])
    (known : kind ≠ none) : kind.all takenWhileLost = false := by
  obtain ⟨k, rfl⟩ := Option.ne_none_iff_exists'.1 known
  cases k <;> simp_all [takenWhileLost]

/-- Settles O18: a grant refuses, answers a PING, or hands on, with the intake free before it. -/
theorem grantHandsOn : Obligations.grantHandsOn := by
  unfold Obligations.grantHandsOn
  rintro s l f _ released grant rfl
  have free := intake_of_nextGrant grant
  refine ⟨fun lost other known => ?_, fun taken other => ?_, fun ping => ⟨?_, ?_⟩⟩
  · rw [exec_laneGrant_of_next released grant,
      grantRequest_lost (State.laneLost_of_lost lost) (untaken_of_other other known), pointed_of_free free]
    rfl
  · have taken : s.laneLost l = false ∨ (kindOfCode f.kind).all takenWhileLost = true := by
      refine taken.imp State.laneLost_of_heard fun listed => ?_
      simp only [List.mem_cons, List.not_mem_nil, or_false] at listed
      rcases listed with kind | kind <;> simp [kind, takenWhileLost]
    rw [exec_laneGrant_of_next released grant, grantRequest_owner taken other, pointed_of_free free]
    rfl
  · rw [exec_laneGrant_of_next released grant, exec_ping_of_next released grant ping]
  · rw [exec_ping_of_next released grant ping, grantRequest_ping ping, pointed_of_free free]
    rfl

/-- Settles O19. -/
theorem silenceLosesLane : Obligations.silenceLosesLane := by
  unfold Obligations.silenceLosesLane
  intro l s e released active due
  rw [exec_silenceTimerExpiry, execSilenceTimerExpiry, event_of_released released]
  dsimp only
  rw [if_pos ⟨by rw [due]; rfl, active⟩]
  rfl

/-! ## SET_LANE -/

section
variable {l n : Lane} {role : Role} {life silence limit : Nat} {s : State}

theorem exec_setLane_of_asks {named code : Nat} (asks : s.AsksReady (.setLane l named code life silence limit))
    (clear : s.config.lock = false) :
    exec (.setLane l named code life silence limit) s =
      .next (engineSetLane l named code life silence limit s.taken) :=
  lockedRequest_of_clear asks clear

/-- A value out of range leaves no lane or no settings. -/
theorem setLane_outOfRange {named code : Nat}
    (range : 8 ≤ named ∨ 3 ≤ code ∨ life < 5 ∨ 600 < life ∨ silence = 1 ∨ 120 < silence ∨ limit = 0 ∨ 64 < limit) :
    laneOfCode named = none ∨ laneSettingsOf code life silence limit = none := by
  by_cases lane : 8 ≤ named
  · exact .inl (dif_neg (by omega))
  · refine .inr ?_
    unfold laneSettingsOf
    split
    next r known =>
      have low : code < 3 := by
        by_contra high
        obtain ⟨k, rfl⟩ : ∃ k, code = k + 3 := ⟨code - 3, by omega⟩
        cases known
      exact if_neg (by omega)
    next => rfl

theorem engineSetLane_badValue {named code : Nat}
    (range : laneOfCode named = none ∨ laneSettingsOf code life silence limit = none) :
    engineSetLane l named code life silence limit s = refuse l .badValue s := by
  unfold engineSetLane
  split
  next n c lane settings =>
    rcases range with none | none <;> simp_all
  next => rfl

theorem roleOfCode_roleCode (r : Role) : roleOfCode (roleCode r) = some r := by cases r <;> rfl

theorem laneOfCode_val (n : Lane) : laneOfCode n.val = some n := dif_pos n.isLt

theorem laneSettingsOf_roleCode (life_ok : 5 ≤ life ∧ life ≤ 600) (silence_ok : silence = 0 ∨ 2 ≤ silence ∧ silence ≤ 120)
    (limit_ok : 1 ≤ limit ∧ limit ≤ 64) : laneSettingsOf (roleCode role) life silence limit = some ⟨role, life, silence, limit⟩ := by
  rw [laneSettingsOf, roleOfCode_roleCode]
  exact if_pos ⟨life_ok, silence_ok, limit_ok⟩

theorem engineSetLane_inRange (settings : laneSettingsOf (roleCode role) life silence limit = some ⟨role, life, silence, limit⟩) :
    engineSetLane l n.val (roleCode role) life silence limit s =
      if !s.officeRemains n role then refuse l .lastOffice s
      else if role ≠ s.role n ∧ s.roleChangeClear l n = false then refuse l .inUse s
      else writeLane l n ⟨role, life, silence, limit⟩ s := by
  simp only [engineSetLane, laneOfCode_val, settings]

theorem officeRemains_iff : s.officeRemains n role = true ↔ ∃ k : Lane, (if k = n then role else s.role k) = .office := by
  simp [State.officeRemains]

theorem roleChangeClear_iff :
    s.roleChangeClear l n = true ↔ s.engine.laneHolds[n] = [] ∧ (l = n ∨ s.lanes[n].request = .empty) := by
  simp [State.roleChangeClear]

end

/-- What new settings leave of a Lane Unit whatever the change of role. -/
theorem LaneUnit.withSettings_kept (now : Tick) (c : LaneSettings) (u : LaneUnit) :
    (u.withSettings now c).settings = c ∧ (u.withSettings now c).request = u.request ∧
      (u.withSettings now c).reply = u.reply ∧ (u.withSettings now c).linkError = u.linkError ∧
      (u.withSettings now c).noticeAwaited = u.noticeAwaited := by
  unfold LaneUnit.withSettings LaneUnit.goOff
  dsimp only
  split
  · split <;> exact ⟨rfl, rfl, rfl, rfl, rfl⟩
  · repeat' split
    all_goals exact ⟨rfl, rfl, rfl, rfl, rfl⟩

section
variable {now : Tick} {c : LaneSettings} {u : LaneUnit}

theorem LaneUnit.withSettings_sameRole (same : c.role = u.settings.role) : u.withSettings now c = { u with
    settings := c,
    silence := if c.silenceLimit ≠ u.settings.silenceLimit ∧ u.state = .active then startSilence now c else u.silence } := by
  rw [LaneUnit.withSettings, if_pos same]
  split <;> rfl

theorem LaneUnit.withSettings_off (off : c.role = .off) (on : u.settings.role ≠ .off) :
    u.withSettings now c = LaneUnit.goOff { u with settings := c } := by
  rw [LaneUnit.withSettings, if_neg (by rw [off]; exact on.symm)]
  simp only [off]

theorem LaneUnit.withSettings_opened (on : c.role ≠ .off) (off : u.settings.role = .off) :
    u.withSettings now c = { u with settings := c, state := .idle, receiver := .discarding } := by
  rw [LaneUnit.withSettings, if_neg (by rwa [off])]
  cases role : c.role <;> simp_all

theorem LaneUnit.withSettings_till (till : c.role = .till) (office : u.settings.role = .office) : u.withSettings now c =
    { u with settings := c, silence := if u.state = .active then startSilence now c else u.silence } := by
  rw [LaneUnit.withSettings, if_neg (by rw [till, office]; nofun)]
  simp only [till, office, reduceCtorEq, if_false]
  split <;> rfl

theorem LaneUnit.withSettings_office (office : c.role = .office) (till : u.settings.role = .till) : u.withSettings now c =
    { u with settings := c, silence := .stopped, state := if u.state = .lost then .active else u.state } := by
  rw [LaneUnit.withSettings, if_neg (by rw [till, office]; nofun)]
  simp only [till, office, reduceCtorEq, if_false]

end

/-- Settles O20: the checks in their order, then the settings written by the change of role. -/
theorem setLaneWrites : Obligations.setLaneWrites := by
  unfold Obligations.setLaneWrites
  refine ⟨fun l named role life silence limit s asks clear range => ?_, ?_⟩
  · rw [exec_setLane_of_asks asks clear, engineSetLane_badValue (setLane_outOfRange range)]
    rfl
  · rintro l n role life silence limit s _ _ office clear asks unlocked life_low life_high silence_ok limit_low limit_high
      remains clears rfl rfl
    have settings := laneSettingsOf_roleCode (role := role) ⟨life_low, life_high⟩ silence_ok ⟨limit_low, limit_high⟩
    have remains : s.taken.officeRemains n role = true ↔ office := officeRemains_iff.trans remains.symm
    have inUse : (role ≠ s.taken.role n ∧ s.taken.roleChangeClear l n = false) ↔ ¬ clear := by
      rw [clears, ← Bool.not_eq_true, roleChangeClear_iff, Classical.not_imp]
      rfl
    rw [exec_setLane_of_asks asks unlocked, engineSetLane_inRange settings]
    refine ⟨fun gone => ?_, fun remain used => ?_, fun remain free => ?_⟩
    · rw [if_pos (by rw [Bool.not_eq_true', ← Bool.not_eq_true, remains]; exact gone)]
      rfl
    · rw [if_neg (by rw [Bool.not_eq_true', ← Bool.not_eq_true, remains]; exact not_not.2 remain), if_pos (inUse.2 used)]
      rfl
    · rw [if_neg (by rw [Bool.not_eq_true', ← Bool.not_eq_true, remains]; exact not_not.2 remain), if_neg (fun used => inUse.1 used free)]
      obtain ⟨settings, request, reply, linkError, awaited⟩ :=
        LaneUnit.withSettings_kept s.now ⟨role, life, silence, limit⟩ s.lanes[n]
      refine ⟨_, ?_, settings, request, reply, linkError, awaited, fun same => LaneUnit.withSettings_sameRole same,
        fun off on => ?_, fun on off => LaneUnit.withSettings_opened on off,
        fun till office => LaneUnit.withSettings_till till office, fun office till => LaneUnit.withSettings_office office till⟩
      · by_cases off : role = .off
        · subst off
          rfl
        · simp only [writeLane, off, if_false]
          rfl
      · rw [LaneUnit.withSettings_off off on]
        unfold LaneUnit.goOff
        dsimp only
        split
        next busy => exact ⟨rfl, rfl, rfl, fun _ => ⟨rfl, rfl⟩, fun other => absurd busy other⟩
        next other => exact ⟨rfl, rfl, rfl, fun busy => absurd busy other, fun _ => ⟨rfl, rfl⟩⟩

end Sys2Proof.Machine
end

section
/-! PROOF. The settings of one value (R96, R102, R103, R106, R177), the event flags (R178, R179), and the configuration saved, locked
and read (R183, R184, R186, R206). -/

namespace Sys2Proof.Machine

section
variable {l : Lane} {s : State}

/-! ## Settings of one value -/

theorem exec_setCeiling {a : Nat} (asks : s.AsksReady (.setCeiling l a)) (clear : s.config.lock = false) :
    exec (.setCeiling l a) s = .next (configSetCeiling l a s.taken) := lockedRequest_of_clear asks clear
theorem exec_setLowMark {a : Nat} (asks : s.AsksReady (.setLowMark l a)) (clear : s.config.lock = false) :
    exec (.setLowMark l a) s = .next (configSetLowMark l a s.taken) := lockedRequest_of_clear asks clear
theorem exec_setDrainLimit {a : Nat} (asks : s.AsksReady (.setDrainLimit l a)) (clear : s.config.lock = false) :
    exec (.setDrainLimit l a) s = .next (controlSetDrainLimit l a s.taken) := lockedRequest_of_clear asks clear
theorem exec_setClock {c : Nat} (asks : s.AsksReady (.setClock l c)) :
    exec (.setClock l c) s = .next (controlSetClock l c s.taken) := readyRequest_of_asks asks
theorem exec_setSchedule {entry time enable : Nat} (asks : s.AsksReady (.setSchedule l entry time enable))
    (clear : s.config.lock = false) :
    exec (.setSchedule l entry time enable) s = .next (controlSetSchedule l entry time enable s.taken) :=
  lockedRequest_of_clear asks clear
theorem exec_setRoute {c r : Nat} (asks : s.AsksReady (.setRoute l c r)) (clear : s.config.lock = false) :
    exec (.setRoute l c r) s = .next (noticesSetRoute l c r s.taken) := lockedRequest_of_clear asks clear
theorem exec_clearEvents {classes : Nat} (asks : s.AsksReady (.clearEvents l classes)) :
    exec (.clearEvents l classes) s = .next (noticesClearEvents l classes s.taken) := readyRequest_of_asks asks
theorem exec_readEvents (asks : s.AsksReady (.readEvents l)) :
    exec (.readEvents l) s = .next (fillReply l .ok (beBytes 2 s.notices.flags.toNat) s.taken) :=
  readyRequest_of_asks (owner := fun s => fillReply l .ok (beBytes 2 s.notices.flags.toNat) s) asks

/-- A value refused above its top, told from the other side. -/
theorem ite_lt_eq_ite_le {α : Type} (top a : Nat) (x y : α) : (if top < a then x else y) = if a ≤ top then y else x := by
  by_cases low : a ≤ top
  · rw [if_neg (by omega), if_pos low]
  · rw [if_pos (by omega), if_neg low]

theorem boolOfCode_boolCode (b : Bool) : boolOfCode (boolCode b) = some b := by cases b <;> rfl

theorem scheduleEntryOf_boolCode (time : Nat) (on : Bool) :
    scheduleEntryOf time (boolCode on) = if time ≤ 86399 then some ⟨time, on⟩ else none := by
  rw [scheduleEntryOf, boolOfCode_boolCode]

theorem controlSetSchedule_inRange (k : Fin 6) (time : Nat) (on : Bool) :
    controlSetSchedule l k.val time (boolCode on) s = if time ≤ 86399 then
      fillReply l .ok (beBytes 1 k.val ++ (beBytes 3 time ++ beBytes 1 (boolCode on)))
        (s.mapPeriod fun p => { p with schedule := p.schedule.set k.val ⟨time, on⟩ })
      else refuse l .badValue s := by
  simp only [controlSetSchedule, scheduleEntryOf_boolCode, k.isLt, dif_pos]
  by_cases low : time ≤ 86399
  · simp only [low, if_true]
    rfl
  · simp only [low, if_false]

theorem controlSetSchedule_badValue {entry time enable : Nat} (range : 6 ≤ entry ∨ 2 ≤ enable) :
    controlSetSchedule l entry time enable s = refuse l .badValue s := by
  unfold controlSetSchedule
  split
  next inside =>
    obtain ⟨k, rfl⟩ : ∃ k, enable = k + 2 := ⟨enable - 2, by omega⟩
    rfl
  next => rfl

theorem routeOfCode_routeField (r : Option Lane) : routeOfCode (routeField r) = some r := by
  cases r with
  | none => rfl
  | some l =>
    have other : l.val ≠ 0xFF := by omega
    simp [routeOfCode, routeField, other, laneOfCode]

theorem noticesSetRoute_inRange (c : Fin 10) (r : Option Lane) : noticesSetRoute l c.val (routeField r) s =
    fillReply l .ok (beBytes 1 c.val ++ beBytes 1 (routeField r))
      (s.mapNotices fun n => { n with routes := n.routes.set c.val r }) := by
  simp only [noticesSetRoute, routeOfCode_routeField, c.isLt, dif_pos]

theorem noticesSetRoute_badValue {c r : Nat} (range : 10 ≤ c ∨ 8 ≤ r ∧ r ≠ 0xFF) :
    noticesSetRoute l c r s = refuse l .badValue s := by
  unfold noticesSetRoute
  split
  next inside =>
    have none : routeOfCode r = none := by
      rw [routeOfCode, if_neg (by omega), laneOfCode, dif_neg (by omega)]
      rfl
    rw [none]
  next => rfl

/-! ## Event flags -/

theorem getLsbD_clearFlags (flags : BitVec 10) (classes : Nat) (c : Fin 10) :
    (flags &&& ~~~(BitVec.ofNat 10 classes)).getLsbD c.val = (flags.getLsbD c.val && !classes.testBit c.val) := by
  rw [BitVec.getLsbD_and, BitVec.getLsbD_not, BitVec.getLsbD_ofNat]
  simp [c.isLt]

end

/-- Settles O23: each setting is written by its owner, in range, and refused out of range. -/
theorem settingsWritten : Obligations.settingsWritten := by
  unfold Obligations.settingsWritten
  intro l s
  refine ⟨fun a asks clear => ?_, fun a asks clear => ?_, fun a asks clear => ?_, fun c asks => ?_,
    fun k on time asks clear => ?_, fun entry time enable asks clear range => ?_, fun c r asks clear => ?_,
    fun c r asks clear range => ?_, fun classes low asks => ?_, fun classes high asks => ?_, fun asks => exec_readEvents asks⟩
  · rw [exec_setCeiling asks clear, configSetCeiling, ite_lt_eq_ite_le]
    rfl
  · rw [exec_setLowMark asks clear, configSetLowMark, ite_lt_eq_ite_le]
    rfl
  · rw [exec_setDrainLimit asks clear, controlSetDrainLimit]
    by_cases range : 10 ≤ a ∧ a ≤ 900
    · rw [if_neg (by omega), if_pos range]
      rfl
    · rw [if_pos (by omega), if_neg range]
      rfl
  · rw [exec_setClock asks, controlSetClock, ite_lt_eq_ite_le]
    rfl
  · rw [exec_setSchedule asks clear, controlSetSchedule_inRange]
    rfl
  · rw [exec_setSchedule asks clear, controlSetSchedule_badValue range]
    rfl
  · rw [exec_setRoute asks clear, noticesSetRoute_inRange]
    rfl
  · rw [exec_setRoute asks clear, noticesSetRoute_badValue range]
    rfl
  · refine ⟨s.notices.flags &&& ~~~(BitVec.ofNat 10 classes), ?_, getLsbD_clearFlags _ _⟩
    rw [exec_clearEvents asks, noticesClearEvents, if_neg (by omega)]
    rfl
  · rw [exec_clearEvents asks, noticesClearEvents, if_pos high]
    rfl

/-! ## The configuration saved, locked and read -/

section
variable {l : Lane} {s : State}

theorem exec_saveConfig (asks : s.AsksReady (.saveConfig l)) :
    exec (.saveConfig l) s = .next (configSaveConfig l s.taken) := readyRequest_of_asks asks

theorem exec_lockConfig_of_asks (asks : s.AsksReady (.lockConfig l)) : exec (.lockConfig l) s =
    .next (fillReply l .ok [] { s.taken with config := { s.config with lock := true } }) := by
  rw [exec_lockConfig, execLockConfig, readyRequest_of_asks asks]
  rfl

theorem exec_readConfig {part : Nat} (asks : s.Asks (.readConfig l part)) :
    exec (.readConfig l part) s = .next (configReadConfig l part s.taken) := request_of_asks asks

theorem configReadConfig_of_part {part : Nat} {bytes : List Byte} (known : configPart part s = some bytes) :
    configReadConfig l part s = fillReply l .ok (beBytes 1 part ++ bytes) s := by
  rw [configReadConfig, known]

theorem configReadConfig_badValue {part : Nat} (high : 4 < part) : configReadConfig l part s = refuse l .badValue s := by
  obtain ⟨k, rfl⟩ : ∃ k, part = k + 5 := ⟨part - 5, by omega⟩
  rfl

end

theorem toList_eq_map {α : Type} {n : Nat} (v : Vector α n) : v.toList = (List.finRange n).map fun i => v[i] := by
  refine List.ext_getElem (by simp) fun i _ _ => ?_
  simp

theorem flatMap_toList {α : Type} {n : Nat} (v : Vector α n) (g : α → List Byte) :
    v.toList.flatMap g = (List.finRange n).flatMap fun i => g v[i] := by
  rw [toList_eq_map, List.flatMap_map]

theorem finRange_eight : List.finRange 8 = [0, 1, 2, 3, 4, 5, 6, 7] := by decide

theorem toList_eight {α : Type} (v : Vector α 8) : v.toList = [v[0], v[1], v[2], v[3], v[4], v[5], v[6], v[7]] := by
  rw [toList_eq_map, finRange_eight]
  rfl

/-- The eleven bytes of a range entry as R206 words its enable-and-sponsor byte. -/
theorem rangeBytes_eq (e : RangeEntry) : rangeBytes e = beBytes 3 e.firstCard ++ beBytes 2 e.slotEnd ++ beBytes 2 e.grant ++
    beBytes 1 ((if e.enabled then 0x80 else 0) + e.sponsor.getD 0x7F) ++ beBytes 3 e.limit := by
  obtain ⟨enabled, _, _, _, sponsor, _⟩ := e
  cases enabled <;> cases sponsor <;> rfl

/-- Settles O24: the store's block and the parts of READ_CONFIG are the same runs of bytes. -/
theorem configurationRequests : Obligations.configurationRequests := by
  unfold Obligations.configurationRequests
  refine ⟨fun l s => ⟨fun asks ok => ?_, fun asks fault => ?_, exec_lockConfig_of_asks, fun part high asks => ?_⟩, ?_⟩
  · rw [exec_saveConfig asks, configSaveConfig, if_neg (by simp [State.storeOk, ok])]
    rfl
  · rw [exec_saveConfig asks, configSaveConfig, if_pos (by simp [State.storeOk, fault])]
    rfl
  · rw [exec_readConfig asks, configReadConfig_badValue high]
    rfl
  · intro c scalars lanes schedule low high routes range scalars_eq lanes_eq schedule_eq range_eq low_eq high_eq routes_eq
    have scalars_block : scalarBytes c = scalars := scalars_eq.symm
    have lanes_block : c.lanes.toList.flatMap laneBytes = lanes := (flatMap_toList ..).trans lanes_eq.symm
    have schedule_block : c.schedule.toList.flatMap scheduleBytes = schedule := (flatMap_toList ..).trans schedule_eq.symm
    have routes_block : routeBytes c.routes = routes := (flatMap_toList ..).trans routes_eq.symm
    have range_block (k : Fin 8) : rangeBytes c.ranges[k] = range k := (rangeBytes_eq _).trans (range_eq k).symm
    have low_block : (c.ranges.toList.take 4).flatMap rangeBytes = low := by
      rw [low_eq, toList_eight, ← range_block, ← range_block, ← range_block, ← range_block]
      simp
    have high_block : (c.ranges.toList.drop 4).flatMap rangeBytes = high := by
      rw [high_eq, toList_eight, ← range_block, ← range_block, ← range_block, ← range_block]
      simp
    have ranges_block : c.ranges.toList.flatMap rangeBytes = low ++ high := by
      rw [← low_block, ← high_block, ← List.flatMap_append, List.take_append_drop]
    refine ⟨?_, fun l s part bytes asks working known => ?_⟩
    · rw [configBlock, scalars_block, lanes_block, schedule_block, ranges_block, routes_block]
    · have working : s.taken.workingConfig = c := working.symm
      rw [exec_readConfig asks]
      refine congrArg _ (configReadConfig_of_part ?_)
      rcases known with ⟨rfl, rfl⟩ | ⟨rfl, rfl⟩ | ⟨rfl, rfl⟩ | ⟨rfl, rfl⟩ | ⟨rfl, rfl⟩
      · rw [configPart, working, scalars_block, routes_block]
        rfl
      · rw [configPart, working, lanes_block]
      · rw [configPart, working, schedule_block]
      · rw [configPart, working, low_block]
      · rw [configPart, working, high_block]

end Sys2Proof.Machine
end

section
/-! PROOF. The range map (R11 to R16): where a span starts, the checks of a map, the slot and the grant of a card; the lazy refresh (R8). -/

namespace Sys2Proof.Machine

/-! ## Where a span starts (R11) -/

section
variable (m : Vector RangeEntry 8)

theorem spanStart_zero : spanStart m 0 = 0 := rfl

theorem spanStart_succ (k : Fin 8) :
    spanStart m (k.val + 1) = if m[k].enabled then m[k].slotEnd else spanStart m k.val := by
  have at_k : m.toList[k.val]? = some m[k] := by simp
  rw [spanStart, List.take_add_one, at_k, List.foldl_append]
  rfl

theorem spanStart_succ_of_le {k : Nat} (past : 8 ≤ k) : spanStart m (k + 1) = spanStart m k := by
  rw [spanStart, spanStart, List.take_of_length_le (by simp; omega), List.take_of_length_le (by simp; omega)]

variable {m}

/-- No enabled entry below: the span starts at 0. -/
theorem spanStart_of_none : ∀ {k : Nat}, (∀ j : Fin 8, j.val < k → m[j].enabled = false) → spanStart m k = 0
  | 0, _ => spanStart_zero m
  | k + 1, off => by
    have below := spanStart_of_none fun j (lt : j.val < k) => off j (by omega)
    by_cases inside : k < 8
    · rw [spanStart_succ m ⟨k, inside⟩, off ⟨k, inside⟩ (by simp)]
      exact below
    · rw [spanStart_succ_of_le m (by omega), below]

/-- The nearest enabled entry below: the span starts at its slot end. -/
theorem spanStart_of_nearest {j : Fin 8} (enabled : m[j].enabled = true) : ∀ {k : Nat}, j.val < k →
    (∀ i : Fin 8, j < i → i.val < k → m[i].enabled = false) → spanStart m k = m[j].slotEnd
  | k + 1, lt, off => by
    by_cases last : j.val = k
    · subst last
      rw [spanStart_succ m j, if_pos enabled]
    · have below := spanStart_of_nearest enabled (k := k) (by omega) fun i after lt => off i after (by omega)
      by_cases inside : k < 8
      · rw [spanStart_succ m ⟨k, inside⟩, off ⟨k, inside⟩ (by simp [Fin.lt_def]; omega) (by simp)]
        exact below
      · rw [spanStart_succ_of_le m (by omega), below]

/-- A span starts at 0 or at the slot end of an enabled entry below. -/
theorem spanStart_cases : ∀ k : Nat, spanStart m k = 0 ∨
    ∃ j : Fin 8, j.val < k ∧ m[j].enabled = true ∧ spanStart m k = m[j].slotEnd
  | 0 => .inl (spanStart_zero m)
  | k + 1 => by
    by_cases inside : k < 8
    · by_cases enabled : m[(⟨k, inside⟩ : Fin 8)].enabled = true
      · exact .inr ⟨⟨k, inside⟩, by simp, enabled, by rw [spanStart_succ m ⟨k, inside⟩, if_pos enabled]⟩
      · rw [spanStart_succ m ⟨k, inside⟩, if_neg enabled]
        exact (spanStart_cases k).imp id fun ⟨j, lt, rest⟩ => ⟨j, by omega, rest⟩
    · rw [spanStart_succ_of_le m (by omega)]
      exact (spanStart_cases k).imp id fun ⟨j, lt, rest⟩ => ⟨j, by omega, rest⟩

/-! ## The checks of a map (R14, R15) -/

theorem slotEndsInOrder_iff_starts : slotEndsInOrder m = true ↔
    ∀ k : Fin 8, m[k].enabled = true → spanStart m k ≤ m[k].slotEnd := by
  simp [slotEndsInOrder, Decidable.imp_iff_not_or]

/-- Slot ends in order: a span starts at or above the slot end of every enabled entry below. -/
theorem slotEnd_le_spanStart (order : slotEndsInOrder m = true) {i : Fin 8} (enabled : m[i].enabled = true) :
    ∀ {k : Nat}, i.val < k → m[i].slotEnd ≤ spanStart m k
  | k + 1, lt => by
    by_cases last : i.val = k
    · subst last
      rw [spanStart_succ m i, if_pos enabled]
    · have below := slotEnd_le_spanStart order enabled (k := k) (by omega)
      by_cases inside : k < 8
      · rw [spanStart_succ m ⟨k, inside⟩]
        split
        next enabledK => exact below.trans (slotEndsInOrder_iff_starts.mp order ⟨k, inside⟩ enabledK)
        next => exact below
      · rwa [spanStart_succ_of_le m (by omega)]

theorem slotEndsInOrder_iff : slotEndsInOrder m = true ↔ ∀ i j : Fin 8, i < j → m[i].enabled = true →
    m[j].enabled = true → m[i].slotEnd ≤ m[j].slotEnd := by
  constructor
  · intro order i j lt enabledI enabledJ
    exact (slotEnd_le_spanStart order enabledI lt).trans (slotEndsInOrder_iff_starts.mp order j enabledJ)
  · refine fun order => slotEndsInOrder_iff_starts.mpr fun k enabled => ?_
    rcases spanStart_cases (m := m) k.val with zero | ⟨j, lt, enabledJ, start⟩
    · omega
    · rw [start]
      exact order j k lt enabledJ enabled

theorem lastCardOk_iff (k : Fin 8) : lastCardOk m k = true ↔ (m[k].enabled = true → spanStart m k < m[k].slotEnd →
    m[k].firstCard + (m[k].slotEnd - spanStart m k) - 1 ≤ 16777215) := by
  simp only [lastCardOk, Bool.or_eq_true, Bool.not_eq_true', decide_eq_true_eq]
  unfold spanSize
  cases m[k].enabled with
  | false => simp
  | true => simp only [Bool.true_eq_false, false_or, true_implies]; omega

theorem clearOfSponsors_iff (n : Nat) : clearOfSponsors m n = true ↔
    ∀ k : Fin 8, m[k].enabled = true → m[k].slotEnd ≤ 4096 - n := by
  simp [clearOfSponsors, Decidable.imp_iff_not_or]

theorem cardsApart_iff : cardsApart m = true ↔ ∀ i j : Fin 8, i ≠ j → m[i].enabled = true → m[j].enabled = true →
    spanStart m i < m[i].slotEnd → spanStart m j < m[j].slotEnd →
    m[i].firstCard + (m[i].slotEnd - spanStart m i) ≤ m[j].firstCard ∨
      m[j].firstCard + (m[j].slotEnd - spanStart m j) ≤ m[i].firstCard := by
  simp only [cardsApart, List.all_eq_true, List.mem_finRange, true_implies, Bool.or_eq_true, Bool.not_eq_true',
    decide_eq_true_eq]
  unfold spanSize
  refine forall_congr' fun i => forall_congr' fun j => ?_
  by_cases same : i = j
  · simp [same]
  · cases m[i].enabled with
    | false => simp
    | true =>
      cases m[j].enabled with
      | false => simp
      | true => simp only [same, Bool.true_eq_false, false_or, true_implies, ne_eq, not_false_eq_true]; omega

/-! ## The slot and the grant of a card (R8, R11, R13) -/

theorem slotOf_of_mapsTo (apart : cardsApart m = true) {card : Nat} {k : Fin 8} (maps : mapsTo m card k = true) :
    slotOf m card = some (spanStart m k + (card - m[k].firstCard)) := by
  rw [slotOf, entryOf_of_mapsTo apart maps]
  rfl

theorem entryOf_eq_some {card : Nat} {k : Fin 8} (found : entryOf m card = some k) : mapsTo m card k = true :=
  List.find?_some found

theorem slotOf_eq_some {card slot : Nat} (found : slotOf m card = some slot) : ∃ k : Fin 8, m[k].enabled = true ∧
    m[k].firstCard ≤ card ∧ slot = spanStart m k + (card - m[k].firstCard) ∧ slot < m[k].slotEnd := by
  obtain ⟨k, entry, rfl⟩ := Option.map_eq_some_iff.mp found
  obtain ⟨enabled, from_first, below⟩ := (mapsTo_iff m card k).mp (entryOf_eq_some entry)
  exact ⟨k, enabled, from_first, rfl, by simp only [spanSize] at below; omega⟩

theorem grantOf_of_mapsTo (apart : cardsApart m = true) {card : Nat} {k : Fin 8} (maps : mapsTo m card k = true) :
    grantOf m card = m[k].grant := by
  rw [grantOf, entryOf_of_mapsTo apart maps]

theorem grantOf_of_unmapped {card : Nat} (unmapped : ∀ k, ¬ mapsTo m card k = true) : grantOf m card = 0 := by
  have none : entryOf m card = none := List.find?_eq_none.mpr fun k _ => unmapped k
  rw [grantOf, none]

end

theorem Engine.isCardSlot_iff (e : Engine) (slot : Nat) : e.isCardSlot slot = true ↔ slot + e.sponsorCount < 4096 := by
  rw [Engine.isCardSlot, decide_eq_true_eq]
  omega

theorem lookup_eq_some {e : Engine} {card slot : Nat} : lookup e card = some slot ↔ slotOf e.ranges card = some slot ∧
    slot + e.sponsorCount < 4096 ∧ (e.card slot).state ≠ .free ∧ (e.card slot).cardNumber = card := by
  unfold lookup
  cases place : slotOf e.ranges card with
  | none => simp
  | some k =>
    simp only [Engine.isCardSlot_iff, Option.ite_none_right_eq_some, Option.some.injEq]
    constructor
    · rintro ⟨holds, rfl⟩
      exact ⟨rfl, holds⟩
    · rintro ⟨rfl, holds⟩
      exact ⟨holds, rfl⟩

/-- Settles O26: the map places each card, and its checks are as R14 and R15 word them. -/
theorem mapPlacesCards : Obligations.mapPlacesCards := by
  unfold Obligations.mapPlacesCards
  intro m card
  exact ⟨fun _ => slotOf_eq_some, fun _ _ apart => mapsTo_unique apart,
    fun k apart enabled from_first below => slotOf_of_mapsTo apart ((mapsTo_iff m card k).mpr ⟨enabled, from_first, below⟩),
    fun _ => spanStart_of_none, fun _ _ lt enabled none => spanStart_of_nearest enabled lt none, lastCardOk_iff,
    slotEndsInOrder_iff, clearOfSponsors_iff, cardsApart_iff, fun _ _ => lookup_eq_some⟩

/-- Settles O25: a refresh brings a purse of another period into the current one, with the grant of its card's entry. -/
theorem refreshBringsPurseIntoPeriod : Obligations.refreshBringsPurseIntoPeriod := by
  unfold Obligations.refreshBringsPurseIntoPeriod
  refine fun slot s tables => ⟨fun inUse other => ?_, fun current => ?_, refresh_eq slot s,
    fun k other => refresh_card_other other s, fun m card runs apart runs_iff => ⟨fun k run => ?_, fun none => ?_⟩⟩
  · rw [refresh_card_same tables, CardPurse.inPeriod, if_pos ⟨inUse, other⟩]
    rfl
  · refine refresh_of_current fun ⟨inUse, other⟩ => ?_
    exact current.elim inUse other
  · exact grantOf_of_mapsTo apart ((mapsTo_iff m card k).mpr ((runs_iff k).mp run))
  · exact grantOf_of_unmapped fun k maps => none k ((runs_iff k).mpr ((mapsTo_iff m card k).mp maps))

end Sys2Proof.Machine
end

section
/-! PROOF. The purse table read and written: BALANCE, READ_PURSE and READ_TOTALS (R21, R95, R121), SET_RANGE (R14 to R17) and
SET_SPONSOR_COUNT (R18 to R20). -/

namespace Sys2Proof.Machine

/-! ## The purses and the totals read -/

section
variable {l : Lane} {s : State}

theorem exec_balance {card : Nat} (asks : s.AsksReady (.balance l card)) :
    exec (.balance l card) s = .next (engineBalance l card s.taken) := readyRequest_of_asks asks
theorem exec_readPurse {slot : Nat} (asks : s.AsksReady (.readPurse l slot)) :
    exec (.readPurse l slot) s = .next (engineReadPurse l slot s.taken) := readyRequest_of_asks asks
theorem exec_readTotals {part : Nat} (asks : s.AsksReady (.readTotals l part)) :
    exec (.readTotals l part) s = .next (engineReadTotals l part s.taken) := readyRequest_of_asks asks

end

/-- Four handles of a hold list, 0 after the last (R200). -/
theorem handleBytes_eq (handles : List Nat) : handleBytes handles = beBytes 1 handles.length ++
    (beBytes 2 (handles.getD 0 0) ++ beBytes 2 (handles.getD 1 0) ++ beBytes 2 (handles.getD 2 0) ++
      beBytes 2 (handles.getD 3 0)) := by
  match handles with
  | [] | [_] | [_, _] | [_, _, _] | _ :: _ :: _ :: _ :: _ => simp [handleBytes]

/-- Settles O27: BALANCE, READ_PURSE and READ_TOTALS answer the purses and totals they name. -/
theorem readsAnswer : Obligations.readsAnswer := by
  unfold Obligations.readsAnswer
  intro l s
  refine ⟨fun card slot p asks found h => ?_, fun card asks absent => ?_, fun slot p asks card h => ?_,
    fun n asks sponsor low => ?_, fun slot asks past => ?_, fun part n mark t asks which => ?_,
    fun part n t asks which => ?_, fun part past asks => ?_⟩
  · have found : lookup s.taken.engine card = some slot := found
    subst h
    rw [exec_balance asks, engineBalance, found]
    dsimp only
    rw [refresh_taken]
    rfl
  · have absent : lookup s.taken.engine card = none := absent
    rw [exec_balance asks, engineBalance, absent]
    rfl
  · have region : s.taken.engine.isCardSlot slot = true := (s.engine.isCardSlot_iff slot).mpr card
    subst h
    rw [exec_readPurse asks, engineReadPurse, if_neg (by omega), if_pos region]
    dsimp only
    rw [cardPurseBody, handleBytes_eq, refresh_taken]
    rfl
  · have region : ¬ s.taken.engine.isCardSlot (4095 - n) = true := fun h => by
      have := (s.engine.isCardSlot_iff _).mp h
      omega
    rw [exec_readPurse asks, engineReadPurse, if_neg (by omega), if_neg region, show 4095 - (4095 - n) = n by omega]
    rfl
  · rw [exec_readPurse asks, engineReadPurse, if_pos past]
    rfl
  · rw [exec_readTotals asks]
    rcases which with ⟨rfl, rfl, rfl, rfl⟩ | ⟨rfl, rfl, rfl, rfl⟩ <;> rfl
  · rw [exec_readTotals asks]
    rcases which with ⟨rfl, rfl, rfl⟩ | ⟨rfl, rfl, rfl⟩ <;> rfl
  · obtain ⟨k, rfl⟩ : ∃ k, part = k + 4 := ⟨part - 4, by omega⟩
    rw [exec_readTotals asks]
    rfl

/-! ## SET_RANGE -/

theorem exec_setRange {l : Lane} {s : State} {entry enabled first slotEnd grant sponsor limit : Nat}
    (asks : s.AsksReady (.setRange l entry enabled first slotEnd grant sponsor limit)) (clear : s.config.lock = false) :
    exec (.setRange l entry enabled first slotEnd grant sponsor limit) s =
      .next (engineSetRange l entry enabled first slotEnd grant sponsor limit s.taken) := lockedRequest_of_clear asks clear

theorem boolOfCode_eq_none {v : Nat} (high : 2 ≤ v) : boolOfCode v = none := by
  obtain ⟨k, rfl⟩ : ∃ k, v = k + 2 := ⟨v - 2, by omega⟩
  rfl

theorem laneOfCode_eq_none {v : Nat} (high : 8 ≤ v) : laneOfCode v = none := dif_neg (by omega)

theorem sponsorOfCode_eq_some {v : Nat} {n : Option Nat} : sponsorOfCode v = some n ↔
    v < 64 ∧ n = some v ∨ v = 0xFF ∧ n = none := by
  unfold sponsorOfCode
  by_cases low : v < 64
  · have other : v ≠ 0xFF := by omega
    simp [low, other, eq_comm]
  · by_cases all : v = 0xFF <;> simp [low, all, eq_comm]

theorem sponsorOfCode_sponsorField {n : Option Nat} (range : ∀ k ∈ n, k < 64) : sponsorOfCode (sponsorField n) = some n :=
  sponsorOfCode_eq_some.mpr <| match n with
    | none => .inr ⟨rfl, rfl⟩
    | some k => .inl ⟨range k rfl, rfl⟩

/-- What the values of a SET_RANGE that pass R14 are: those of the entry it writes, each in range. -/
theorem rangeRequest_eq_some {entry enabled first slotEnd grant sponsor limit count : Nat} {k : Fin 8} {x : RangeEntry}
    (given : rangeRequest entry enabled first slotEnd grant sponsor limit count = some (k, x)) :
    entry < 8 ∧ enabled < 2 ∧ first ≠ 0 ∧ first ≤ 16777215 ∧ slotEnd ≤ 4096 ∧ grant ≤ 10000 ∧ limit ≤ 100000 ∧
      (sponsor = 0xFF ∨ sponsor < 64 ∧ sponsor < count) := by
  unfold rangeRequest at given
  split at given
  next j e hj he =>
    have entry_lt : entry < 8 := Nat.lt_of_not_le fun high => by rw [laneOfCode_eq_none high] at hj; cases hj
    unfold rangeEntryOf at he
    split at he
    next b sp hb hsp =>
      have enabled_lt : enabled < 2 := Nat.lt_of_not_le fun high => by rw [boolOfCode_eq_none high] at hb; cases hb
      split at he
      next values =>
        cases he
        split at given
        next below =>
          refine ⟨entry_lt, enabled_lt, by omega, by omega, values.2.1, values.2.2.1, values.2.2.2, ?_⟩
          rcases sponsorOfCode_eq_some.mp hsp with ⟨low, rfl⟩ | ⟨all, -⟩
          · exact .inr ⟨low, by simpa using below⟩
          · exact .inl all
        next => cases given
      next => cases he
    next => cases he
  next => cases given

theorem rangeRequest_of_entry {k : Fin 8} {x : RangeEntry} {count : Nat} (first_pos : 1 ≤ x.firstCard)
    (first_le : x.firstCard ≤ 16777215) (slotEnd_le : x.slotEnd ≤ 4096) (grant_le : x.grant ≤ 10000)
    (limit_le : x.limit ≤ 100000) (sponsor : ∀ n ∈ x.sponsor, n < count ∧ n < 64) :
    rangeRequest k.val (boolCode x.enabled) x.firstCard x.slotEnd x.grant (sponsorField x.sponsor) x.limit count =
      some (k, x) := by
  have entry : rangeEntryOf (boolOfCode (boolCode x.enabled)) x.firstCard x.slotEnd x.grant
      (sponsorOfCode (sponsorField x.sponsor)) x.limit = some x := by
    rw [boolOfCode_boolCode, sponsorOfCode_sponsorField fun n mem => (sponsor n mem).2]
    exact if_pos ⟨⟨first_pos, first_le⟩, slotEnd_le, grant_le, limit_le⟩
  have below : x.sponsor.all (fun n => n < count) = true := by
    cases named : x.sponsor with
    | none => rfl
    | some n => exact decide_eq_true (sponsor n named).1
  rw [rangeRequest, laneOfCode_val, entry]
  exact if_pos below

/-- The scan of R16 passes the new map. -/
theorem Engine.scanPasses_iff (e : Engine) (x old : RangeEntry) (m : Vector RangeEntry 8) :
    (x.mapsAs old || e.pursesMap m) = true ↔
      x.enabled = old.enabled ∧ x.firstCard = old.firstCard ∧ x.slotEnd = old.slotEnd ∨
      ∀ slot p, (slot, p) ∈ e.cards → slot + e.sponsorCount < 4096 → (p.state ≠ .free ∨ p.pendingRecords ≠ 0) →
        slotOf m p.cardNumber = some slot := by
  have maps : x.mapsAs old = true ↔ x.enabled = old.enabled ∧ x.firstCard = old.firstCard ∧ x.slotEnd = old.slotEnd := by
    simp [RangeEntry.mapsAs, and_assoc]
  have sit : e.pursesMap m = true ↔ ∀ slot p, (slot, p) ∈ e.cards → slot + e.sponsorCount < 4096 →
      (p.state ≠ .free ∨ p.pendingRecords ≠ 0) → slotOf m p.cardNumber = some slot := by
    simp only [Engine.pursesMap, CardPurse.examined, List.all_eq_true, Prod.forall, Bool.or_eq_true, Bool.not_eq_true',
      ← Bool.not_eq_true, Bool.and_eq_true, decide_eq_true_eq, Engine.isCardSlot_iff]
    exact forall_congr' fun slot => forall_congr' fun p => forall_congr' fun _ => by tauto
  rw [Bool.or_eq_true, maps, sit]

/-- Settles O28: SET_RANGE meets its checks in order and else writes the entry whole. -/
theorem setRangeWrites : Obligations.setRangeWrites := by
  unfold Obligations.setRangeWrites
  refine ⟨fun l entry enabled first slotEnd grant sponsor limit s asks unlocked range => ?_,
    fun l k x old s m refused clear asks unlocked hm hold first_pos first_le slotEnd_le grant_le limit_le sponsor
      refused_iff clear_iff => ?_⟩
  · have none : rangeRequest entry enabled first slotEnd grant sponsor limit s.engine.sponsorCount = none := by
      cases given : rangeRequest entry enabled first slotEnd grant sponsor limit s.engine.sponsorCount with
      | none => rfl
      | some kx =>
        have inside := rangeRequest_eq_some given
        omega
    rw [exec_setRange asks unlocked, engineSetRange, State.taken, none]
    rfl
  · have owner : exec (.setRange l k.val (boolCode x.enabled) x.firstCard x.slotEnd x.grant (sponsorField x.sponsor)
        x.limit) s = .next (writeRange l k x s.taken) := by
      rw [exec_setRange asks unlocked, engineSetRange, State.taken,
        rangeRequest_of_entry first_pos first_le slotEnd_le grant_le limit_le sponsor]
    have scan := (s.engine.scanPasses_iff x old m).trans clear_iff.symm
    subst hm hold
    rw [owner] at refused_iff ⊢
    refine ⟨fun bad => refused_iff _ |>.mpr ?_, fun last bad => refused_iff _ |>.mpr ?_,
      fun last order => ⟨fun bad => refused_iff _ |>.mpr ?_, fun region => ⟨fun bad => refused_iff _ |>.mpr ?_,
        fun apart stuck => refused_iff _ |>.mpr ?_, fun apart free => ?_⟩⟩⟩
    · simp only [writeRange, State.taken, bad]
      rfl
    · simp only [writeRange, State.taken, last, bad]
      rfl
    · simp only [writeRange, State.taken, last, order, bad]
      rfl
    · simp only [writeRange, State.taken, last, order, region, bad]
      rfl
    · have fails := Bool.eq_false_iff.mpr (mt scan.mp stuck)
      simp only [writeRange, State.taken, last, order, region, apart, fails]
      rfl
    · have passes := scan.mpr free
      simp only [writeRange, State.taken, last, order, region, apart, passes]
      cases x.enabled <;> rfl

/-! ## SET_SPONSOR_COUNT -/

theorem exec_setSponsorCount {l : Lane} {s : State} {n : Nat} (asks : s.AsksReady (.setSponsorCount l n))
    (unlocked : s.config.lock = false) :
    exec (.setSponsorCount l n) s = .next (engineSetSponsorCount l n s.taken) := lockedRequest_of_clear asks unlocked

theorem mapNamesSponsor_iff (m : Vector RangeEntry 8) (n : Nat) :
    mapNamesSponsor m n = true ↔ ∃ i : Fin 8, m[i].enabled = true ∧ m[i].sponsor = some n := by
  rw [mapNamesSponsor, toList_eq_map, List.any_map]
  simp

theorem Engine.sponsorInUse_iff (e : Engine) (n : Nat) : e.sponsorInUse n = true ↔ 0 < (e.sponsor n).balance ∨
    0 < (e.sponsor n).held ∨ 0 < (e.sponsor n).pendingRecords ∨
    (∃ i : Fin 8, e.ranges[i].enabled = true ∧ e.ranges[i].sponsor = some n) ∨
    ∃ j h, (j, h) ∈ e.holds ∧ h.state ≠ .free ∧ h.sponsor = some n := by
  simp only [Engine.sponsorInUse, Bool.or_eq_true, decide_eq_true_eq, mapNamesSponsor_iff, List.any_eq_true, Prod.exists,
    Bool.and_eq_true, or_assoc]

section
variable {l : Lane} {n : Nat} {s : State}

/-- The scan of R18 finds a sponsor that would be dropped and is in use. -/
theorem dropsUsed_iff : (List.range s.engine.sponsorCount).any (fun k => n ≤ k && s.engine.sponsorInUse k) = true ↔
    ∃ k, n ≤ k ∧ k < s.engine.sponsorCount ∧ s.engine.sponsorInUse k = true := by
  simp only [List.any_eq_true, List.mem_range, Bool.and_eq_true, decide_eq_true_eq]
  exact exists_congr fun k => by tauto

theorem engineSetSponsorCount_inUse (low : n ≤ 64) (region : clearOfSponsors s.engine.ranges n = true)
    (used : ∃ k, n ≤ k ∧ k < s.engine.sponsorCount ∧ s.engine.sponsorInUse k = true) :
    engineSetSponsorCount l n s = refuse l .inUse s := by
  rw [engineSetSponsorCount, if_neg (by omega), region, if_neg (by simp), if_pos (dropsUsed_iff.mpr used)]

theorem engineSetSponsorCount_writes (low : n ≤ 64) (region : clearOfSponsors s.engine.ranges n = true)
    (unused : ∀ k, n ≤ k → k < s.engine.sponsorCount → ¬ s.engine.sponsorInUse k = true) :
    engineSetSponsorCount l n s = fillReply l .ok (beBytes 1 n) (s.mapEngine (Engine.withSponsorCount n)) := by
  have passes : ¬ _ := mt (dropsUsed_iff (n := n) (s := s)).mp fun ⟨k, above, below, used⟩ => unused k above below used
  rw [engineSetSponsorCount, if_neg (by omega), region, if_neg (by simp), if_neg passes]

end

/-- Settles O29: SET_SPONSOR_COUNT meets its checks in order, and else moves the slots that change region. -/
theorem setSponsorCountWrites : Obligations.setSponsorCountWrites := by
  unfold Obligations.setSponsorCountWrites
  intro l n s uses asks unlocked uses_iff
  have used : ∀ k, uses k ↔ s.engine.sponsorInUse k = true := fun k => (uses_iff k).trans (s.engine.sponsorInUse_iff k).symm
  simp only [used]
  rw [exec_setSponsorCount asks unlocked]
  refine ⟨fun high => ?_, fun low bad => ?_, fun low region drops => ?_, fun low count_le region unused =>
    ⟨s.engine.withSponsorCount n, ?_, rfl, fun k above below => ?_, fun tables k above below => ?_, fun k outside => ?_,
      fun slot outside => ?_⟩⟩
  · rw [engineSetSponsorCount, if_pos high]
    rfl
  · have bad : clearOfSponsors s.taken.engine.ranges n = false := bad
    rw [engineSetSponsorCount, if_neg (by omega), bad]
    rfl
  · exact congrArg _ (engineSetSponsorCount_inUse low region drops)
  · exact congrArg _ (engineSetSponsorCount_writes low region unused)
  · exact (Table.get_clearRange ..).trans (if_pos (by omega))
  · exact (Engine.card_emptyCards _ tables.1 ..).trans (if_pos (by omega))
  · exact (Table.get_clearRange ..).trans (if_neg (by omega))
  · exact Engine.card_emptyCards_other _ (by omega)

end Sys2Proof.Machine
end

section
/-! PROOF. The refusals of HOLD and CAPTURE in their order (R36 to R40, R54, R55), the ending of a hold (R33 to R35), and the tick
(R29, R32, R101). -/

namespace Sys2Proof.Machine

/-! ## HOLD refused (R36 to R40) -/

section
variable {l : Lane} {s : State}

theorem exec_hold_of_asks {card amount parts : Nat} (asks : s.AsksReady (.hold l card amount parts)) :
    exec (.hold l card amount parts) s = engineHold l card amount parts s.taken := by
  rw [exec_hold, execHold, takeRequest_of_asks asks.1]

/-- The checks of R38 to R40 on the purse `p` under its entry `x`, in their order. -/
theorem holdOnPurse_eq {slot amount parts a : Nat} {p : CardPurse} {x : RangeEntry} (purse : p = s.engine.card slot)
    (entry : x = s.engine.entryFor p.cardNumber) (share : a = allowanceShareOf s.engine p x.sponsor amount) :
    holdOnPurse l slot amount parts s =
      if 4 ≤ p.holdList.length then .next (refuse l .purseHoldsFull s)
      else if s.lanes[l].settings.holdLimit ≤ s.engine.laneHolds[l].length then .next (refuse l .laneHoldsFull s)
      else if p.cashAvailable < amount - a then .next (fillReply l .insufficient (beBytes 3 (a + p.cashAvailable)) s)
      else if x.limit ≠ 0 ∧ x.limit < p.spent + p.cashHeld + p.allowanceHeld + amount then
        .next (fillReply l .overLimit (beBytes 3 (x.limit - (p.spent + p.cashHeld + p.allowanceHeld))) s)
      else match s.engine.freeList with
        | slot' :: rest => .next (placeHold l slot x.sponsor a (amount - a) parts slot' rest s)
        | [] => .fault .freeListEmpty := by
  subst purse entry share
  rfl

/-- The checks of R36 and R37, in their order. -/
theorem engineHold_eq {card amount parts : Nat} (ready : s.ready = true) : engineHold l card amount parts s =
    if s.lanes[l].state = .lost then .next (refuse l .laneRecovering s)
    else if s.journal.store ≠ .ok then .next (refuse l .storeFault s)
    else if s.period.state ≠ .opened then .next (refuse l .periodClosing s)
    else if ¬ (1 ≤ amount ∧ amount ≤ 100000) then .next (refuse l .badAmount s)
    else if parts < 1 ∨ 15 < parts then .next (refuse l .badValue s)
    else match lookup s.engine card with
      | none => .next (refuse l .noCard s)
      | some slot =>
        if (s.engine.card slot).state = .blocked ∨ (s.engine.card slot).closeQueued then .next (refuse l .blocked s)
        else holdOnPurse l slot amount parts (refresh slot s) := by
  unfold engineHold
  simp only [ready, State.laneLost, State.storeOk, saleAmountOk, Bool.not_true, Bool.false_eq_true, if_false,
    Bool.not_eq_true', decide_eq_true_eq, decide_eq_false_iff_not, Bool.and_eq_false_iff, ← not_and_or, ne_eq] <;>
    rfl

theorem exec_hold_eq {card amount parts : Nat} (asks : s.AsksReady (.hold l card amount parts)) :
    exec (.hold l card amount parts) s =
      if s.lanes[l].state = .lost then .next (refuse l .laneRecovering s.taken)
      else if s.journal.store ≠ .ok then .next (refuse l .storeFault s.taken)
      else if s.period.state ≠ .opened then .next (refuse l .periodClosing s.taken)
      else if ¬ (1 ≤ amount ∧ amount ≤ 100000) then .next (refuse l .badAmount s.taken)
      else if parts < 1 ∨ 15 < parts then .next (refuse l .badValue s.taken)
      else match lookup s.engine card with
        | none => .next (refuse l .noCard s.taken)
        | some slot =>
          if (s.engine.card slot).state = .blocked ∨ (s.engine.card slot).closeQueued then
            .next (refuse l .blocked s.taken)
          else holdOnPurse l slot amount parts (refresh slot s.taken) :=
  (exec_hold_of_asks asks).trans (engineHold_eq (State.ready_taken asks))

/-! ## CAPTURE refused (R54, R55) -/

/-- The checks of R55 on a LIVE hold, in their order. -/
theorem captureOnHold_live {handle amount : Nat} {final : Bool} (live : s.engine.resolve handle = .live) :
    captureOnHold l handle amount final s =
      if (s.engine.hold (handle % 512)).lane ≠ l then refuse l .notOwner s
      else if (s.engine.hold (handle % 512)).allowanceShare + (s.engine.hold (handle % 512)).cashShare < amount then
        fillReply l .overHold (beBytes 2 (s.engine.hold (handle % 512)).allowanceShare ++
          beBytes 3 (s.engine.hold (handle % 512)).cashShare) s
      else if !s.storeOk then refuse l .storeFault s
      else acceptCapture l handle amount final s := by
  unfold captureOnHold
  dsimp only
  rw [live]
  rfl

theorem captureOnHold_notOwner {handle amount : Nat} {final : Bool} (live : s.engine.resolve handle = .live)
    (other : (s.engine.hold (handle % 512)).lane ≠ l) : captureOnHold l handle amount final s = refuse l .notOwner s := by
  rw [captureOnHold_live live, if_pos other]

theorem captureOnHold_overHold {handle amount : Nat} {final : Bool} (live : s.engine.resolve handle = .live)
    (own : (s.engine.hold (handle % 512)).lane = l)
    (past : (s.engine.hold (handle % 512)).allowanceShare + (s.engine.hold (handle % 512)).cashShare < amount) :
    captureOnHold l handle amount final s = fillReply l .overHold
      (beBytes 2 (s.engine.hold (handle % 512)).allowanceShare ++ beBytes 3 (s.engine.hold (handle % 512)).cashShare) s := by
  rw [captureOnHold_live live, if_neg (not_not.mpr own), if_pos past]

/-- A CAPTURE within the shares of a hold of its lane is accepted where the store is OK. -/
theorem captureOnHold_within {handle amount : Nat} {final : Bool} (live : s.engine.resolve handle = .live)
    (own : (s.engine.hold (handle % 512)).lane = l)
    (within : amount ≤ (s.engine.hold (handle % 512)).allowanceShare + (s.engine.hold (handle % 512)).cashShare) :
    captureOnHold l handle amount final s =
      if s.journal.store = .ok then acceptCapture l handle amount final s else refuse l .storeFault s := by
  rw [captureOnHold_live live, if_neg (not_not.mpr own), if_neg (Nat.not_lt.mpr within)]
  cases store : s.journal.store <;> simp [State.storeOk, store]

theorem captureOnHold_gone {handle amount : Nat} {final : Bool}
    (gone : s.engine.resolve handle = .stale ∨ s.engine.resolve handle = .ended) :
    captureOnHold l handle amount final s = holdGone l handle s := by
  unfold captureOnHold
  rcases gone with stale | ended
  · rw [stale]
  · rw [ended]

theorem captureOnHold_settling {handle amount : Nat} {final : Bool} (settling : s.engine.resolve handle = .settling) :
    captureOnHold l handle amount final s = refuse l .holdBusy s := by
  unfold captureOnHold
  rw [settling]

/-- The checks of R54, in their order. -/
theorem exec_capture_eq {handle amount final : Nat} (asks : s.AsksReady (.capture l handle amount final)) :
    exec (.capture l handle amount final) s = .next (
      if s.lanes[l].state = .lost then refuse l .laneRecovering s.taken
      else if ¬ (1 ≤ amount ∧ amount ≤ 100000) then refuse l .badAmount s.taken
      else match boolOfCode final with
        | none => refuse l .badValue s.taken
        | some f => captureOnHold l handle amount f s.taken) := by
  have owner : exec (.capture l handle amount final) s = .next (engineCapture l handle amount final s.taken) :=
    readyRequest_of_asks asks
  rw [owner]
  unfold engineCapture
  simp only [State.laneLost, saleAmountOk, Bool.not_eq_true', decide_eq_true_eq, decide_eq_false_iff_not,
    Bool.and_eq_false_iff, ← not_and_or]
  rfl

/-- A CAPTURE in range from a lane that is not LOST goes on to its hold. -/
theorem exec_capture_of_checks {handle amount : Nat} {final : Bool}
    (asks : s.AsksReady (.capture l handle amount (boolCode final))) (heard : s.lanes[l].state ≠ .lost)
    (pos : 1 ≤ amount) (le : amount ≤ 100000) :
    exec (.capture l handle amount (boolCode final)) s = .next (captureOnHold l handle amount final s.taken) := by
  rw [exec_capture_eq asks, if_neg heard, if_neg (by omega), boolOfCode_boolCode]

end

/-- Settles O31: the checks of HOLD and CAPTURE in their order. -/
theorem holdAndCaptureRefusals : Obligations.holdAndCaptureRefusals := by
  unfold Obligations.holdAndCaptureRefusals
  refine ⟨fun l card amount parts s refused asks refused_iff => ?_, fun l handle amount final s refused asks refused_iff => ?_,
    fun l handle amount final s h asks heard pos le hold => ?_⟩
  · simp only [refused_iff, exec_hold_eq asks]
    refine ⟨fun lost => if_pos lost, fun heard fault => ?_, fun heard ok closing => ?_, fun heard ok opened =>
      ⟨fun bad => ?_, fun pos le => ⟨fun bad => ?_, fun some_parts few => ⟨fun unknown => ?_, fun slot found =>
        ⟨fun stopped => ?_, fun p x a cash counted unblocked kept purse entry share cash_eq counted_eq => ?_⟩⟩⟩⟩⟩
    · rw [if_neg heard, if_pos (by simp [fault])]
      rfl
    · rw [if_neg heard, if_neg (by simp [ok]), if_pos closing]
      rfl
    · rw [if_neg heard, if_neg (by simp [ok]), if_neg (by simp [opened]), if_pos (by omega)]
      rfl
    · rw [if_neg heard, if_neg (by simp [ok]), if_neg (by simp [opened]), if_neg (by omega), if_pos (by omega)]
      rfl
    · rw [if_neg heard, if_neg (by simp [ok]), if_neg (by simp [opened]), if_neg (by omega), if_neg (by omega), unknown]
      rfl
    · rw [if_neg heard, if_neg (by simp [ok]), if_neg (by simp [opened]), if_neg (by omega), if_neg (by omega), found]
      exact if_pos stopped
    · have entry' : x = (refresh slot s.taken).engine.entryFor p.cardNumber := entry.trans (refresh_entryFor slot s.taken _).symm
      have purse' : p = (refresh slot s.taken).engine.card slot := by rw [purse, refresh_taken]; rfl
      have share' : a = allowanceShareOf (refresh slot s.taken).engine p x.sponsor amount := by
        rw [allowanceShareOf_eq]
        simpa using share
      have covered : p.cashAvailable = cash := cash_eq.symm
      rw [← exec_hold_eq asks, exec_hold_of_asks asks, engineHold_of_checks (State.ready_taken asks) heard ok opened pos le
        some_parts few found unblocked kept, holdOnPurse_eq purse' entry' share', refresh_laneHolds, refresh_lanes, covered,
        ← counted_eq]
      refine ⟨fun full => if_pos full, fun room full => ?_, fun room lane_room => ⟨fun short => ?_,
        fun paid limited past => ?_⟩⟩
      · rw [if_neg (by omega)]
        exact if_pos full
      · rw [if_neg (by omega), if_neg (by exact Nat.not_le.mpr lane_room)]
        exact if_pos short
      · rw [if_neg (by omega), if_neg (by exact Nat.not_le.mpr lane_room), if_neg (by omega)]
        exact if_pos ⟨limited, past⟩
  · simp only [refused_iff, exec_capture_eq asks]
    refine ⟨fun lost => ?_, fun heard bad => ?_, fun heard pos le bad => ?_⟩
    · rw [if_pos lost]
      rfl
    · rw [if_neg heard, if_pos (by omega)]
      rfl
    · rw [if_neg heard, if_neg (by omega), boolOfCode_eq_none bad]
      rfl
  · subst hold
    rw [exec_capture_of_checks asks heard pos le]
    refine ⟨fun stale => ?_, fun named free => ?_, fun named settling => ?_, fun named live other => ?_,
      fun named live own past => ?_, fun named live own within fault => ?_⟩
    · exact congrArg _ ((captureOnHold_gone (s := s.taken) (.inl ((Engine.resolve_eq_stale _ _).mpr stale))).trans
        (holdGone_stale stale))
    · exact congrArg _ ((captureOnHold_gone (s := s.taken) (.inr ((Engine.resolve_eq_ended _ _).mpr ⟨named, free⟩))).trans
        (holdGone_ended named))
    · exact congrArg _ (captureOnHold_settling (s := s.taken) ((Engine.resolve_eq_settling _ _).mpr ⟨named, settling⟩))
    · exact congrArg _ (captureOnHold_notOwner (s := s.taken) ((Engine.resolve_eq_live _ _).mpr ⟨named, live⟩) other)
    · exact congrArg _ (captureOnHold_overHold (s := s.taken) ((Engine.resolve_eq_live _ _).mpr ⟨named, live⟩) own past)
    · refine congrArg _ ((captureOnHold_within (s := s.taken) ((Engine.resolve_eq_live _ _).mpr ⟨named, live⟩) own
        within).trans (if_neg ?_))
      simp [fault]

/-! ## A hold ends (R33 to R35) -/

section
variable {k : Nat} {reason : EndReason} {s : State}

theorem noticeEnding_lanes (k : Nat) (reason : EndReason) (s : State) : (noticeEnding k reason s).lanes = s.lanes := by
  unfold noticeEnding
  dsimp only
  cases reason with
  | expired | officeReleased | drained => exact placeNotice_lanes_of_other rfl _ _
  | unknown | captured | released | laneLost => rfl

theorem endHold_frame (k : Nat) (reason : EndReason) (s : State) : s.HoldFrame (endHold k reason s) := by
  rw [endHold_eq]
  refine ((State.detach_frame k reason s).trans (reportHolds_frame _)).trans ?_
  constructor <;> simp [State.now, noticeEnding_lanes]

/-- The blocks an ending may change. -/
theorem State.HoldFrame.blocks {s t : State} (frame : s.HoldFrame t) : t = { s with
    engine := t.engine, deadlines := t.deadlines, period := t.period, journal := t.journal, notices := t.notices } := by
  obtain ⟨lanes, arbiter, config, restore, memory, pending, -, -⟩ := frame
  rw [← lanes, ← arbiter, ← config, ← restore, ← memory, ← pending]

theorem endHold_engine : (endHold k reason s).engine = (s.detach k reason).engine := by
  rw [endHold_eq, noticeEnding_engine, reportHolds_engine]

/-- The notice of an ending, where its reason has one (R34). -/
theorem noticeEnding_notices {handle card : Nat} {lane : Lane} (handle_eq : handle = handleOf (s.engine.hold k).generation k)
    (card_eq : card = (s.engine.card (s.engine.hold k).cardSlot).cardNumber) (lane_eq : lane = (s.engine.hold k).lane) :
    (noticeEnding k reason s).notices = match endNotice reason handle card s.now with
      | some x => s.tells lane x s.notices
      | none => s.notices := by
  subst handle_eq card_eq lane_eq
  unfold noticeEnding
  dsimp only
  cases endNotice reason (handleOf (s.engine.hold k).generation k) _ s.now with
  | some x => exact placeNotice_notices ..
  | none => rfl

end

/-- What an ending tells the hold's lane, the purse `p` refreshed (R34). -/
theorem endHold_notices {k : Nat} {reason : EndReason} {s : State} {p : CardPurse} (canonical : s.tablesCanonical)
    (purse : p = (refresh (s.engine.hold k).cardSlot s).engine.card (s.engine.hold k).cardSlot) :
    (endHold k reason s).notices =
      match endNotice reason ((s.engine.hold k).generation * 512 + k) p.cardNumber s.now with
      | some x => s.tells (s.engine.hold k).lane x (reportHolds (s.detach k reason)).notices
      | none => (reportHolds (s.detach k reason)).notices := by
  have frame := (State.detach_frame k reason s).trans (reportHolds_frame _)
  have same : (reportHolds (s.detach k reason)).engine.hold k = (s.engine.hold k).ended reason := by
    rw [reportHolds_engine, State.detach_hold_same canonical]
  have card : p.cardNumber = ((reportHolds (s.detach k reason)).engine.card (s.engine.hold k).cardSlot).cardNumber := by
    rw [reportHolds_engine, State.detach_card_same canonical, purse, refresh_card_same canonical]
    rfl
  rw [endHold_eq, noticeEnding_notices (handle := (s.engine.hold k).generation * 512 + k) (card := p.cardNumber)
    (lane := (s.engine.hold k).lane) (by rw [same]; rfl) (by rw [same]; exact card) (by rw [same, Hold.ended]), frame.now]
  cases endNotice reason _ p.cardNumber s.now with
  | some x => exact State.tells_congr frame.lanes ..
  | none => rfl

/-- Settles O32: the detachment by `State.detach`, the report by `reportHolds_reports`, the notice last. -/
theorem holdEnds : Obligations.holdEnds := by
  unfold Obligations.holdEnds
  intro k reason s t h p handle canonical hold purse handle_eq ends
  subst hold handle_eq ends
  have report := (reportHolds_reports (s.detach k reason)).of_frame (State.detach_frame k reason s).reportFrame
    (c := s.period.holdCount) (by rw [State.detach_eq]) (by rw [State.detach_eq]) (by rw [State.detach_eq])
  have told := endHold_notices (reason := reason) canonical purse
  have purse' : p = (s.engine.card (s.engine.hold k).cardSlot).inPeriod s.period.number s.engine.ranges := by
    rw [purse, refresh_card_same canonical]
  refine ⟨(endHold_frame k reason s).blocks, ?_, ?_, fun j other => ?_, ?_, fun j other => ?_, fun n named => ?_,
    fun n other => ?_, ?_, (reportHolds (s.detach k reason)).notices, ?_, ?_, ?_, ?_, ?_⟩
  · rw [endHold_engine, ← State.detach_freeList (reason := reason)]
    exact (State.detach_frame k reason s).engine.trans (by rw [State.detach_laneHolds]; rfl)
  · rw [endHold_engine]
    exact State.detach_hold_same canonical
  · rw [endHold_engine]
    exact State.detach_hold_other other
  · rw [endHold_engine, State.detach_card_same canonical, ← purse']
    simp [CardPurse.released, handleOf]
  · rw [endHold_engine]
    exact State.detach_card_other other
  · rw [endHold_engine, State.detach_sponsor_named canonical named]
    simp [SponsorPurse.released]
  · rw [endHold_engine]
    exact State.detach_sponsor_other other
  · rw [endHold_eq, noticeEnding_deadlines, reportHolds_deadlines]
    exact State.detach_deadlines
  · rw [endHold_engine, endHold_eq, noticeEnding_period, noticeEnding_journal]
    exact report
  · rintro rfl
    exact told
  · rintro rfl
    exact told
  · rintro rfl
    exact told
  · intro silent
    simp only [List.mem_cons, List.not_mem_nil, or_false] at silent
    rcases silent with rfl | rfl | rfl <;> exact told

/-! ## The tick -/

section
variable {p : PeriodControl} {c : Nat}

theorem PeriodControl.countClock_unset (unset : p.clock = none) : p.countClock = p := by
  rw [PeriodControl.countClock, unset]

theorem PeriodControl.countClock_early (set : p.clock = some c) (early : p.clockTicks < 9) :
    p.countClock = { p with clockTicks := p.clockTicks + 1 } := by
  rw [PeriodControl.countClock, set]
  exact if_neg (by omega)

theorem PeriodControl.countClock_tenth (set : p.clock = some c) (tenth : 9 ≤ p.clockTicks) :
    p.countClock = { p with clockTicks := 0, clockDue := p.clockDue + 1 } := by
  rw [PeriodControl.countClock, set]
  exact if_pos tenth

theorem PeriodControl.countClock_eq (p : PeriodControl) :
    p.countClock = { p with clockTicks := p.countClock.clockTicks, clockDue := p.countClock.clockDue } := by
  unfold PeriodControl.countClock
  split
  · rfl
  · split <;> rfl

end

/-- Settles O34: the tick counts, raises the expiry events of its count and lets every timer that reaches it fall due. -/
theorem tickCountsAndRaises : Obligations.tickCountsAndRaises := by
  unfold Obligations.tickCountsAndRaises
  refine ⟨fun now e => ⟨rfl, rfl, rfl⟩, fun s now released count => ?_⟩
  subst count
  have answer : exec .tick s = .next ((reachTimers (countTick s)).mapPeriod PeriodControl.countClock) :=
    event_of_released (f := fun s => (reachTimers (countTick s)).mapPeriod PeriodControl.countClock) released
  let p : PeriodControl := { s.period with drainTimer := s.period.drainTimer.reach (s.deadlines.tick + 1) }
  refine ⟨p.countClock, answer, p.countClock_eq, fun unset => ?_, fun c set early => ?_, fun c set tenth => ?_⟩
  · rw [PeriodControl.countClock_unset (p := p) unset]
    exact ⟨rfl, rfl⟩
  · rw [PeriodControl.countClock_early (p := p) set early]
    exact ⟨rfl, rfl⟩
  · rw [PeriodControl.countClock_tenth (p := p) set tenth]
    exact ⟨rfl, rfl⟩

end Sys2Proof.Machine
end

section
/-! PROOF. Records ahead of the engine (R57, R81), a record queued (R81), a CAPTURE accepted (R54 to R57) and its durable event (R59 to
R63, R67, R120). -/

namespace Sys2Proof.Machine

/-! ## The records ahead (R57, R81, R111) -/

section
variable {s : State} {records : List Record} {r : Record} {o : Owner} {rest : List JournalEvent}

theorem State.earlierRecords_of_none (none : s.engine.journalEvents = []) : s.earlierRecords =
    (s.journal.queue.filter fun q => s.journal.lastDurable < q.record.sequence).map QueueEntry.record := by
  rw [State.earlierRecords, State.untakenRecords, none]
  rfl

theorem State.untakenRecords_of_durable (oldest : s.engine.journalEvents = .durable r o :: rest) :
    s.untakenRecords = r :: ({ s with engine := { s.engine with journalEvents := rest } } : State).untakenRecords := by
  rw [State.untakenRecords, oldest]
  rfl

theorem State.untakenRecords_of_abandoned (oldest : s.engine.journalEvents = .abandoned r o :: rest) :
    s.untakenRecords = ({ s with engine := { s.engine with journalEvents := rest } } : State).untakenRecords := by
  rw [State.untakenRecords, oldest]
  rfl

theorem State.earlierRecords_of_durable (oldest : s.engine.journalEvents = .durable r o :: rest) :
    s.earlierRecords = r :: ({ s with engine := { s.engine with journalEvents := rest } } : State).earlierRecords := by
  rw [State.earlierRecords, State.untakenRecords_of_durable oldest]
  rfl

theorem State.earlierRecords_of_abandoned (oldest : s.engine.journalEvents = .abandoned r o :: rest) :
    s.earlierRecords = ({ s with engine := { s.engine with journalEvents := rest } } : State).earlierRecords := by
  rw [State.earlierRecords, State.untakenRecords_of_abandoned oldest]
  rfl

/-- One record more, last: its effect where it names the card. -/
theorem cardThrough_append (records : List Record) (r : Record) (slot : Nat) (c : CardAfter) :
    cardThrough (records ++ [r]) slot c = if r.body.cardSlot = some slot then r.body.cardEffect (cardThrough records slot c)
      else cardThrough records slot c := List.foldl_append ..

theorem sponsorThrough_append (records : List Record) (r : Record) (n balance : Nat) :
    sponsorThrough (records ++ [r]) n balance =
      if r.body.sponsor = some n then r.body.sponsorEffect (sponsorThrough records n balance)
      else sponsorThrough records n balance := List.foldl_append ..

/-- What a REVERSAL record does to the stored fields of its card (R77). -/
theorem cardEffect_reversal {slot ap cp q : Nat} {a : CardAfter} {sp : Option SponsorAfter} {back : Bool} (d : CardAfter) :
    (RecordBody.reversal slot a sp ap cp q back).cardEffect d = { d with
      cashBalance := d.cashBalance + cp,
      allowanceRemaining := if back then d.allowanceRemaining + ap else d.allowanceRemaining,
      spent := if back then d.spent - (ap + cp) else d.spent } := by
  cases back <;> rfl

end

/-! ## A record queued on a refreshed purse (R9, R81) -/

section
variable {lane : Lane} {body : RecordBody} {owner : Owner} {slot : Nat} {s : State}

/-- A record queued changes the engine's purses, and the journal by the record. -/
theorem engineQueues_refresh : engineQueues lane body owner (refresh slot s) =
    { s with
      engine := (onNamed body CardPurse.addPending SponsorPurse.addPending (refresh slot s)).engine,
      journal := { s.journal with
        nextSeq := s.journal.nextSeq + 1,
        queue := (s.journal.queue ++
          [{ record := { sequence := s.journal.nextSeq, lane := lane, period := s.period.number, body := body },
             owner := owner, writing := false }]) } } := by
  have fresh := refresh_eq slot s
  generalize (refresh slot s).engine.cards = cards at fresh
  rw [fresh]
  rfl

end

/-! ## CAPTURE accepted (R56, R57) -/

section
variable {h : Hold} {ap cp : Nat} {s : State}

theorem captureBody_cardSlot : (captureBody h ap cp s).cardSlot = some h.cardSlot := rfl

theorem captureBody_sponsor : (captureBody h ap cp s).sponsor = h.sponsor := by
  cases named : h.sponsor <;> simp [captureBody, RecordBody.sponsor, RecordBody.sponsorAfter, State.sponsorAfterOf, named]

/-- The engine a CAPTURE accepted leaves: the record counted on its purses, the hold SETTLING. -/
def Engine.capturing (k : Nat) (body : RecordBody) (s : State) : Engine :=
  (onNamed body CardPurse.addPending SponsorPurse.addPending s).engine.mapHold k fun h => { h with state := .settling }

end

theorem acceptCapture_eq {l : Lane} {handle amount ap : Nat} {final : Bool} {s : State} {h : Hold}
    (hold : h = s.engine.hold (handle % 512)) (own : h.lane = l) (part : ap = min amount h.allowanceShare) :
    acceptCapture l handle amount final s =
      { s with
        engine := Engine.capturing (handle % 512) (captureBody h ap (amount - ap) (refresh h.cardSlot s))
          (refresh h.cardSlot s),
        journal := { s.journal with
          nextSeq := s.journal.nextSeq + 1,
          queue := (s.journal.queue ++
            [{ record :=
                { sequence := s.journal.nextSeq, lane := l, period := s.period.number,
                  body := captureBody h ap (amount - ap) (refresh h.cardSlot s) },
               owner := .capture l handle final, writing := false }]) } } := by
  have same : (refresh h.cardSlot s).engine.hold (handle % 512) = h := by rw [refresh_hold, hold]
  subst own part
  unfold acceptCapture
  dsimp only [handleSlot]
  rw [← hold, same, engineQueues_refresh]
  rfl

section
variable {k slot : Nat} {body : RecordBody} {s : State}

theorem Engine.capturing_eq : Engine.capturing k body (refresh slot s) =
    { s.engine with
      cards := (Engine.capturing k body (refresh slot s)).cards,
      sponsors := (Engine.capturing k body (refresh slot s)).sponsors,
      holds := (Engine.capturing k body (refresh slot s)).holds } := by
  have fresh := refresh_eq slot s
  unfold Engine.capturing
  rw [onNamed_eq]
  generalize refresh slot s = u at *
  rw [fresh]
  rfl

theorem Engine.capturing_hold_same (canonical : s.tablesCanonical) :
    (Engine.capturing k body s).hold k = { s.engine.hold k with state := .settling } := by
  have holds : (onNamed body CardPurse.addPending SponsorPurse.addPending s).engine.hold k = s.engine.hold k := by
    rw [onNamed_eq]
    rfl
  rw [Engine.capturing, Engine.hold_mapHold_same _ (onNamed_tablesCanonical canonical).2.2, holds]

theorem Engine.capturing_hold_other {j : Nat} (other : j ≠ k) :
    (Engine.capturing k body s).hold j = s.engine.hold j := by
  rw [Engine.capturing, Engine.hold_mapHold_other _ other, onNamed_eq]
  rfl

end

/-- Settles O36: what the records ahead do to after-states and totals, and the CAPTURE accepted by `acceptCapture_eq`. -/
theorem captureAccepted : Obligations.captureAccepted := by
  unfold Obligations.captureAccepted
  refine ⟨fun s slot n t => ⟨State.earlierRecords_of_none, fun r o rest u oldest same => ?_,
      fun r o rest u oldest same => ?_, rfl, fun p => rfl, rfl, fun total => ?_⟩,
    fun records r slot n b balance c d t card spon => ⟨rfl, rfl, fun after left after_eq left_eq =>
      ⟨fun other => ?_, fun other => ?_, fun a sp ap cp body => ?_, fun a sp ap cp q back body => ?_,
        fun a amount body => ?_, fun a amount body => ?_, fun kind a body => ?_, fun a amount body => ?_,
        fun origin clock f body => ?_⟩⟩,
    fun l handle amount final s s' h ap cp c asks canonical heard pos le hold named live own within ok fresh part cash ahead =>
      ?_⟩
  · subst same
    exact ⟨State.untakenRecords_of_durable oldest, State.earlierRecords_of_durable oldest⟩
  · subst same
    exact ⟨State.untakenRecords_of_abandoned oldest, State.earlierRecords_of_abandoned oldest⟩
  · subst total
    rfl
  · rw [after_eq, cardThrough_append, if_neg other, card]
  · rw [left_eq, sponsorThrough_append, if_neg other, spon]
  · have slot_eq : r.body.cardSlot = some slot := by rw [body]; rfl
    refine ⟨?_, fun charged => ?_, ?_⟩
    · rw [after_eq, cardThrough_append, if_pos slot_eq, ← card, body]
      rfl
    · have spon_eq : r.body.sponsor = some n := by rw [body]; exact charged
      rw [left_eq, sponsorThrough_append, if_pos spon_eq, ← spon, body]
      rfl
    · rw [Totals.add, body]
      rfl
  · have slot_eq : r.body.cardSlot = some slot := by rw [body]; rfl
    refine ⟨?_, fun charged => ?_, Totals.add_reversal body t⟩
    · rw [after_eq, cardThrough_append, if_pos slot_eq, ← card, body, cardEffect_reversal]
    · have spon_eq : r.body.sponsor = some n := by rw [body]; exact charged
      rw [left_eq, sponsorThrough_append, if_pos spon_eq, ← spon, body]
      rfl
  · have slot_eq : r.body.cardSlot = some slot := by rw [body]; rfl
    rw [after_eq, cardThrough_append, if_pos slot_eq, ← card, Totals.add, body]
    exact ⟨rfl, rfl⟩
  · have slot_eq : r.body.cardSlot = some slot := by rw [body]; rfl
    rw [after_eq, cardThrough_append, if_pos slot_eq, ← card, Totals.add, body]
    exact ⟨rfl, rfl⟩
  · have slot_eq : r.body.cardSlot = some slot := by rw [body]; rfl
    rw [after_eq, cardThrough_append, if_pos slot_eq, ← card, Totals.add, body]
    cases kind <;> simp [RecordBody.cardEffect]
  · rw [left_eq, sponsorThrough_append, ← spon, Totals.add, body]
    exact ⟨fun same => if_pos (congrArg some same), rfl⟩
  · rw [Totals.add, body]
  · have amount_eq : ap + cp = amount := by omega
    have resolved : s.taken.engine.resolve handle = .live := (Engine.resolve_eq_live _ _).mpr (hold ▸ ⟨named, live⟩)
    have accepted : captureOnHold l handle amount final s.taken = acceptCapture l handle amount final s.taken :=
      (captureOnHold_within (s := s.taken) resolved (hold ▸ own) (hold ▸ within)).trans (if_pos ok)
    have fresh' : refresh h.cardSlot s.taken = s'.taken := by rw [refresh_taken, fresh]
    have canonical' : s'.taken.tablesCanonical := fresh ▸ refresh_tablesCanonical _ canonical
    have body : captureBody h ap (amount - ap) s'.taken = .capture h.cardSlot
        { c with cashBalance := c.cashBalance - cp, allowanceRemaining := c.allowanceRemaining - ap,
                 spent := min 4294967295 (c.spent + amount) }
        (h.sponsor.map fun n => { sponsor := n, balance := s'.sponsorAhead n - ap }) ap cp := by
      rw [← cash, show c.spent + amount = c.spent + (ap + cp) by rw [amount_eq], ahead]
      rfl
    have on_card : (captureBody h ap (amount - ap) s'.taken).cardSlot = some h.cardSlot := rfl
    have on_sponsor : (captureBody h ap (amount - ap) s'.taken).sponsor = h.sponsor := captureBody_sponsor
    refine ⟨Engine.capturing (handle % 512) (captureBody h ap (amount - ap) s'.taken) s'.taken, ?_, ?_, ?_, fun j other => ?_,
      ?_, fun j other => ?_, fun n charged => ?_, fun n other => ?_⟩
    · rw [exec_capture_of_checks asks heard pos le, accepted, acceptCapture_eq (s := s.taken) hold own part, fresh', body]
      rfl
    · rw [← fresh']
      exact Engine.capturing_eq (s := s.taken)
    · rw [Engine.capturing_hold_same canonical', hold, fresh]
      simp
    · rw [Engine.capturing_hold_other other, fresh]
      simp
    · exact onNamed_card_named canonical' on_card
    · refine (onNamed_card_other (by rw [on_card]; simpa using other.symm)).trans ?_
      rw [fresh]
      exact refresh_card_other other s
    · refine (onNamed_sponsor_named canonical' (by rw [on_sponsor, charged])).trans ?_
      rw [fresh, State.taken_engine, refresh_sponsor]
      rfl
    · refine (onNamed_sponsor_other (by rwa [on_sponsor])).trans ?_
      rw [fresh, State.taken_engine, refresh_sponsor]

end Sys2Proof.Machine
end

section
/-! PROOF. The durable event of a CAPTURE record (R59 to R63, R67, R97, R120). -/

namespace Sys2Proof.Machine

/-! ## What a capture charges (R60) -/

section
variable {slot ap cp : Nat} {c : CardAfter} {sp : Option SponsorAfter} {b : RecordBody} {s : State}

theorem applyRecord_tablesCanonical (canonical : s.tablesCanonical) (named : b.cardSlot = some slot) :
    (applyRecord b s).tablesCanonical := by
  rw [applyRecord_of_slot named]
  exact onNamed_tablesCanonical (refresh_tablesCanonical slot canonical)

/-- A durable CAPTURE at the engine but for its hold: the purses charged, the totals and the ring (R60, R62, R67). -/
def State.charged (r : Record) (period ap cp : Nat) (s : State) : State :=
  (countRecord r (chargeHeld r.body ap cp (applyRecord r.body s))).mapEngine fun e =>
    { e with ring := ringAppend (captureEntry r period ap cp) e.ring }

theorem Totals.add_capture {r : Record} (body : r.body = .capture slot c sp ap cp) (t : Totals) : t.add r = { t with
    captureCount := min 4294967295 (t.captureCount + 1), capturedCash := min 4294967295 (t.capturedCash + cp),
    capturedAllowance := min 4294967295 (t.capturedAllowance + ap),
    lanes := t.lanes.set r.lane (min 4294967295 (t.lanes[r.lane] + (ap + cp))) } := by
  rw [Totals.add, body]
  rfl

theorem State.charged_eq {r : Record} {period : Nat} (body : r.body = .capture slot c sp ap cp) : s.charged r period ap cp =
    { s with engine := { s.engine with
      cards := (s.charged r period ap cp).engine.cards, sponsors := (s.charged r period ap cp).engine.sponsors,
      totals := s.engine.totals.add r,
      ring := (if 256 ≤ s.engine.ring.length then s.engine.ring.tail else s.engine.ring) ++
        [{ receipt := r.sequence, lane := r.lane, cardSlot := slot, cardNumber := c.cardNumber,
           sponsor := sp.map SponsorAfter.sponsor, allowancePart := ap, cashPart := cp, period := period,
           reversal := .notReversed, closedMark := false }] } } := by
  have named : r.body.cardSlot = some slot := by rw [body]; rfl
  have entry : captureEntry r period ap cp =
      { receipt := r.sequence, lane := r.lane, cardSlot := slot, cardNumber := c.cardNumber,
        sponsor := sp.map SponsorAfter.sponsor, allowancePart := ap, cashPart := cp, period := period,
        reversal := .notReversed, closedMark := false } := by
    rw [captureEntry, body]
    rfl
  unfold State.charged chargeHeld
  rw [onNamed_eq, applyRecord_eq named, ← entry]
  rfl

theorem State.charged_tablesCanonical {r : Record} {period : Nat} (body : r.body = .capture slot c sp ap cp)
    (canonical : s.tablesCanonical) : (s.charged r period ap cp).tablesCanonical :=
  onNamed_tablesCanonical (applyRecord_tablesCanonical (slot := slot) canonical (by rw [body]; rfl))

theorem State.charged_card {r : Record} {period : Nat} (body : r.body = .capture slot c sp ap cp)
    (canonical : s.tablesCanonical) {p : CardPurse} (purse : p = (refresh slot s).engine.card slot) :
    (s.charged r period ap cp).engine.card slot = { p with
      allowanceRemaining := p.allowanceRemaining - ap, allowanceHeld := p.allowanceHeld - ap,
      cashBalance := p.cashBalance - cp, cashHeld := p.cashHeld - cp,
      spent := min 4294967295 (p.spent + (ap + cp)), pendingRecords := p.pendingRecords - 1 } := by
  have named : r.body.cardSlot = some slot := by rw [body]; rfl
  refine (onNamed_card_named (applyRecord_tablesCanonical canonical named) named).trans ?_
  rw [applyRecord_card_named canonical named, ← purse, body]
  rfl

theorem State.charged_card_other {r : Record} {period j : Nat} (body : r.body = .capture slot c sp ap cp)
    (other : j ≠ slot) : (s.charged r period ap cp).engine.card j = s.engine.card j := by
  have named : r.body.cardSlot = some slot := by rw [body]; rfl
  refine (onNamed_card_other (by rw [named]; simpa using other.symm)).trans ?_
  exact applyRecord_card_other named other

theorem State.charged_sponsor {r : Record} {period : Nat} {a : SponsorAfter} (body : r.body = .capture slot c sp ap cp)
    (canonical : s.tablesCanonical) (paying : sp = some a) : (s.charged r period ap cp).engine.sponsor a.sponsor =
      { balance := (s.engine.sponsor a.sponsor).balance - ap, held := (s.engine.sponsor a.sponsor).held - ap,
        pendingRecords := (s.engine.sponsor a.sponsor).pendingRecords - 1 } := by
  have named : r.body.cardSlot = some slot := by rw [body]; rfl
  have sponsor : r.body.sponsor = some a.sponsor := by rw [body, paying]; rfl
  refine (onNamed_sponsor_named (applyRecord_tablesCanonical canonical named) sponsor).trans ?_
  rw [applyRecord_sponsor_named canonical named sponsor, body]
  rfl

theorem State.charged_sponsor_other {r : Record} {period n : Nat} (body : r.body = .capture slot c sp ap cp)
    (other : sp.map SponsorAfter.sponsor ≠ some n) :
    (s.charged r period ap cp).engine.sponsor n = s.engine.sponsor n := by
  have named : r.body.cardSlot = some slot := by rw [body]; rfl
  have sponsor : r.body.sponsor ≠ some n := by rw [body]; exact other
  exact (onNamed_sponsor_other sponsor).trans (applyRecord_sponsor_other named sponsor)

end

/-! ## The hold of a durable capture (R61) -/

section
variable {k receipt ap cp : Nat} {final : Bool} {h : Hold} {s : State}

theorem Hold.finished_charged_iff : (h.charged receipt ap cp).finished final = true ↔
    final = true ∨ h.partsRemaining ≤ 1 ∨ h.allowanceShare ≤ ap ∧ h.cashShare ≤ cp := by
  simp only [Hold.finished, Bool.or_eq_true, Bool.and_eq_true, decide_eq_true_eq, or_assoc]
  refine or_congr_right ?_
  simp only [Hold.charged]
  omega

/-- An ending changes no sponsor's balance. -/
theorem endHold_balance {reason : EndReason} (canonical : s.tablesCanonical) (n : Nat) :
    ((endHold k reason s).engine.sponsor n).balance = (s.engine.sponsor n).balance := by
  rw [endHold_engine]
  by_cases named : (s.engine.hold k).sponsor = some n
  · rw [State.detach_sponsor_named canonical named]
    rfl
  · rw [State.detach_sponsor_other named]

theorem settlementEnds_balance (canonical : s.tablesCanonical) (n : Nat) :
    ((settlementEnds k s).engine.sponsor n).balance = (s.engine.sponsor n).balance := by
  unfold settlementEnds
  dsimp only
  split
  · exact endHold_balance canonical n
  · split
    · exact endHold_balance canonical n
    · rfl

/-- What becomes of a hold charged, whether the capture finished it or not. -/
def State.settled (k : Nat) (finished : Bool) (s : State) : State :=
  if finished then endHold k .captured s else settlementEnds k s

theorem State.settled_of_finished : s.settled k true = endHold k .captured s := if_pos rfl

theorem State.settled_of_unfinished : s.settled k false = settlementEnds k s := if_neg Bool.false_ne_true

theorem State.settled_balance {finished : Bool} (canonical : s.tablesCanonical) (n : Nat) :
    ((s.settled k finished).engine.sponsor n).balance = (s.engine.sponsor n).balance := by
  cases finished
  · rw [State.settled_of_unfinished, settlementEnds_balance canonical n]
  · rw [State.settled_of_finished, endHold_balance canonical n]

theorem State.settled_config {finished : Bool} : (s.settled k finished).config = s.config := by
  cases finished
  · rw [State.settled_of_unfinished, settlementEnds_config]
  · rw [State.settled_of_finished, (endHold_frame ..).config]

theorem settleHold_eq {handle : Nat} (canonical : s.tablesCanonical) (hold : h = s.engine.hold (handle % 512)) :
    settleHold handle receipt ap cp final s =
      (s.mapEngine fun e => e.mapHold (handle % 512) (Hold.charged receipt ap cp)).settled (handle % 512)
        ((h.charged receipt ap cp).finished final) := by
  have charged := Engine.hold_mapHold_same s.engine canonical.2.2 (handle % 512) (Hold.charged receipt ap cp)
  unfold settleHold
  dsimp only [handleSlot]
  rw [State.mapEngine_engine, charged, ← hold]
  rfl

/-- A sponsor charged below the low mark raises SPONSOR_LOW (R97). -/
theorem checkSponsorLow_eq {b : RecordBody} {sp : Option SponsorAfter} (sponsor : b.sponsor = sp.map SponsorAfter.sponsor)
    {low : Prop} (low_iff : low ↔ ∃ a, sp = some a ∧ 0 < ap ∧ (s.engine.sponsor a.sponsor).balance < s.config.lowMark) :
    (low → checkSponsorLow b ap s = raiseFlag .sponsorLow s) ∧ (¬ low → checkSponsorLow b ap s = s) := by
  unfold checkSponsorLow
  cases sp with
  | none => exact ⟨fun h => by simpa using low_iff.mp h, fun _ => by rw [sponsor]; rfl⟩
  | some a =>
    have below : low ↔ 0 < ap ∧ (s.engine.sponsor a.sponsor).balance < s.config.lowMark := by simpa using low_iff
    rw [sponsor, below]
    exact ⟨fun h => if_pos h, fun h => if_neg h⟩

theorem checkSponsorLow_engine {b : RecordBody} : (checkSponsorLow b ap s).engine = s.engine := by
  unfold checkSponsorLow
  split
  · split
    · exact raiseFlag_engine ..
    · rfl
  · rfl

end

theorem exec_captureDurable_of_hands {r : Record} {l : Lane} {handle slot ap cp : Nat} {c : CardAfter}
    {sp : Option SponsorAfter} {final : Bool} {s : State} (hands : s.Hands (.durable r (.capture l handle final)))
    (body : r.body = .capture slot c sp ap cp) :
    exec (.captureDurable r.sequence) s = .next (takeCaptureDurable r ap cp l handle final s.eventTaken) := by
  have arm : exec (.captureDurable r.sequence) s = execCaptureDurable r.sequence s := rfl
  exact arm.trans (takeJournalEvent_of_hands hands (by simp only [if_true, body]))

/-- Settles O37: the purses, totals and ring by `State.charged`, then the hold by `settleHold_eq`, then the low mark. -/
theorem captureDurableCharges : Obligations.captureDurableCharges := by
  unfold Obligations.captureDurableCharges
  intro s r l handle slot ap cp k c sp final h p finished low ring totals hands canonical body slot_eq purse hold
    finished_iff low_iff ring_eq totals_eq
  subst slot_eq hold
  let charged : State := s.eventTaken.charged r (s.engine.hold (handle % 512)).period ap cp
  let u : State := charged.mapEngine fun e => e.mapHold (handle % 512) (Hold.charged r.sequence ap cp)
  let done : Bool := ((s.engine.hold (handle % 512)).charged r.sequence ap cp).finished final
  have charged_eq : charged = _ := State.charged_eq (s := s.eventTaken) body
  have charged_canonical : charged.tablesCanonical := State.charged_tablesCanonical body canonical
  have u_canonical : u.tablesCanonical := ⟨charged_canonical.1, charged_canonical.2.1, Table.wf_put _ _ charged_canonical.2.2⟩
  have charged_hold : ∀ j, charged.engine.hold j = s.engine.hold j := fun j => by rw [charged_eq]; rfl
  have fresh : (refresh slot s.eventTaken).engine.card slot = p :=
    (congrArg (Table.get CardPurse.free slot) (refresh_eventTaken_cards slot s)).trans purse.symm
  have finished_done : finished ↔ done = true := finished_iff.trans Hold.finished_charged_iff.symm
  have low' : low ↔ ∃ a, sp = some a ∧ 0 < ap ∧
      ((u.settled (handle % 512) done).engine.sponsor a.sponsor).balance < (u.settled (handle % 512) done).config.lowMark := by
    rw [low_iff]
    refine exists_congr fun a => and_congr_right fun paying => and_congr_right fun _ => ?_
    rw [State.settled_balance u_canonical, State.settled_config]
    exact iff_of_eq (congrArg₂ (· < ·) (congrArg SponsorPurse.balance
      (State.charged_sponsor (s := s.eventTaken) (r := r) (period := (s.engine.hold (handle % 512)).period) body canonical
        paying)).symm
      (congrArg (fun x : State => x.config.lowMark) charged_eq).symm)
  have sponsor_low := checkSponsorLow_eq (ap := ap) (b := r.body) (s := u.settled (handle % 512) done)
    (sp := sp) (by rw [body]; rfl) low'
  refine ⟨u, u.settled (handle % 512) done, checkSponsorLow r.body ap (u.settled (handle % 512) done),
    holdOutcome ((u.settled (handle % 512) done).engine.hold (handle % 512)), ?_, sponsor_low.1, sponsor_low.2, fun ends => ?_,
    fun stays => ?_, ?_, ?_, fun j other => ?_, fun a paying => ?_, fun n other => ?_, ?_, fun j other => ?_⟩
  · have settles : takeCaptureDurable r ap cp l handle final s.eventTaken = fillReply l .ok
        (beBytes 4 r.sequence ++ beBytes 2 ap ++ beBytes 3 cp ++
          holdOutcome ((checkSponsorLow r.body ap (u.settled (handle % 512) done)).engine.hold (handle % 512)))
        (checkSponsorLow r.body ap (u.settled (handle % 512) done)) := by
      rw [← settleHold_eq charged_canonical (charged_hold _).symm]
      rfl
    rw [exec_captureDurable_of_hands hands body, settles, checkSponsorLow_engine]
  · have is_done : done = true := finished_done.mp ends
    rw [is_done, State.settled_of_finished]
    exact ⟨rfl, holdOutcome_endHold u_canonical⟩
  · have not_done : done = false := Bool.eq_false_iff.mpr (mt finished_done.mpr stays)
    rw [not_done, State.settled_of_unfinished]
    exact settlementEnds_settles u_canonical
  · rw [totals_eq, ring_eq, ← Totals.add_capture body]
    exact congrArg (fun x : State => { x with engine := { x.engine with holds := u.engine.holds } }) charged_eq
  · exact State.charged_card (s := s.eventTaken) (period := (s.engine.hold (handle % 512)).period) body canonical fresh.symm
  · exact State.charged_card_other (s := s.eventTaken) (period := (s.engine.hold (handle % 512)).period) body other
  · exact State.charged_sponsor (s := s.eventTaken) (period := (s.engine.hold (handle % 512)).period) body canonical paying
  · exact State.charged_sponsor_other (s := s.eventTaken) (period := (s.engine.hold (handle % 512)).period) body other
  · rw [← charged_hold]
    exact Engine.hold_mapHold_same charged.engine charged_canonical.2.2 _ _
  · rw [← charged_hold]
    exact Engine.hold_mapHold_other charged.engine other _

end Sys2Proof.Machine
end

section
/-! PROOF. REVERSE: its checks in their order, and its record queued (R70 to R76). -/

namespace Sys2Proof.Machine

/-! ## The sponsor and the record of a reversal (R73 to R76) -/

section
variable {x : RingEntry} {sponsor : Option Nat} {count : Nat} {s : State}

/-- A sponsor gone with no allowance charged is named no more. -/
theorem reversalSponsor_kept (named : sponsor = x.sponsor.filter fun n => n < count)
    (uncharged : x.sponsor ≠ sponsor → x.allowancePart = 0) : reversalSponsor count x = some sponsor := by
  subst named
  unfold reversalSponsor
  cases of : x.sponsor with
  | none => rfl
  | some n =>
    by_cases low : n < count
    · simp [low, Option.filter]
    · have zero : x.allowancePart = 0 := uncharged (by simp [of, low, Option.filter])
      simp [low, zero, Option.filter]

theorem reversalSponsor_gone {n : Nat} (named : x.sponsor = some n) (gone : count ≤ n) (charged : 0 < x.allowancePart) :
    reversalSponsor count x = none := by
  simp [reversalSponsor, named, Nat.not_lt.mpr gone, charged]

theorem reversalBody_sponsor : (reversalBody x sponsor s).sponsor = sponsor := by
  cases sponsor <;> rfl

theorem reversalBody_withinBounds : (reversalBody x sponsor s).withinBounds = true ↔
    (s.cardAhead x.cardSlot).cashBalance + x.cashPart ≤ 2000000 ∧
      ∀ n ∈ sponsor, s.sponsorAhead n + x.allowancePart ≤ 100000000 := by
  have card : (reversalBody x sponsor s).cardAfter.all (fun c => c.cashBalance ≤ 2000000) =
      decide ((s.cardAhead x.cardSlot).cashBalance + x.cashPart ≤ 2000000) := by
    unfold reversalBody
    dsimp only
    rw [cardEffect_reversal]
    rfl
  rw [RecordBody.withinBounds, card]
  cases sponsor with
  | none => simp [reversalBody, RecordBody.sponsorAfter, State.sponsorAfterOf]
  | some n => simp [reversalBody, RecordBody.sponsorAfter, State.sponsorAfterOf]

theorem Engine.entryPurseOpen_iff {e : Engine} : e.entryPurseOpen x = true ↔ x.closedMark = false ∧
    x.cardSlot + e.sponsorCount < 4096 ∧ (e.card x.cardSlot).state ≠ .free ∧
    (e.card x.cardSlot).cardNumber = x.cardNumber ∧ (e.card x.cardSlot).closeQueued = false := by
  simp only [Engine.entryPurseOpen, Bool.and_eq_true, Bool.not_eq_true', decide_eq_true_eq, Engine.isCardSlot_iff, and_assoc]

end

/-! ## The checks (R70 to R75) -/

section
variable {l : Lane} {receipt : Nat} {x : RingEntry} {s : State}

theorem exec_reverse_eq (asks : s.AsksReady (.reverse l receipt)) : exec (.reverse l receipt) s = .next (
    if s.lanes[l].state = .lost then refuse l .laneRecovering s.taken
    else if s.period.state = .closeWrite then refuse l .periodClosing s.taken
    else match s.engine.ring.find? (fun y => y.receipt = receipt) with
      | none => refuse l .notFound s.taken
      | some x => reverseEntry l x s.taken) := by
  have owner : exec (.reverse l receipt) s = .next (engineReverse l receipt s.taken) := readyRequest_of_asks asks
  rw [owner]
  unfold engineReverse
  simp only [State.laneLost, decide_eq_true_eq]
  rfl

theorem exec_reverse_of_found (asks : s.AsksReady (.reverse l receipt)) (heard : s.lanes[l].state ≠ .lost)
    (settled : s.period.state ≠ .closeWrite) (found : s.engine.ring.find? (fun y => y.receipt = receipt) = some x) :
    exec (.reverse l receipt) s = .next (reverseEntry l x s.taken) := by
  rw [exec_reverse_eq asks, if_neg heard, if_neg settled, found]

theorem reverseEntry_queued (queued : x.reversal = .queued) : reverseEntry l x s = refuse l .reversalPending s := by
  unfold reverseEntry
  rw [if_neg (by simp [queued]), if_pos queued]

theorem reverseEntry_notPermitted (free : x.reversal = .notReversed) (till : s.role l = .till) (other : x.lane ≠ l) :
    reverseEntry l x s = refuse l .notPermitted s := by
  unfold reverseEntry
  rw [if_neg (by simp [free]), if_neg (by simp [free]), if_pos ⟨till, other⟩]

theorem reverseEntry_tooLate (free : x.reversal = .notReversed) (till : s.role l = .till) (own : x.lane = l)
    (late : x.period ≠ s.period.number) : reverseEntry l x s = refuse l .tooLate s := by
  unfold reverseEntry
  rw [if_neg (by simp [free]), if_neg (by simp [free]), if_neg fun h => h.2 own, if_pos ⟨till, late⟩]

/-- A reversal the sender may make goes on to the purse (R72, R73). -/
theorem reverseEntry_of_allowed (free : x.reversal = .notReversed)
    (allowed : s.role l = .till → x.lane = l ∧ x.period = s.period.number) : reverseEntry l x s =
      if !s.engine.entryPurseOpen x then refuse l .purseClosed s
      else match reversalSponsor s.engine.sponsorCount x with
        | none => refuse l .purseClosed s
        | some sponsor => acceptReverse l x sponsor s := by
  have own : ¬ (s.role l = .till ∧ x.lane ≠ l) := fun h => h.2 (allowed h.1).1
  have current : ¬ (s.role l = .till ∧ x.period ≠ s.period.number) := fun h => h.2 (allowed h.1).2
  unfold reverseEntry
  rw [if_neg (by simp [free]), if_neg (by simp [free]), if_neg own, if_neg current] <;> rfl

theorem reverseEntry_purseClosed (free : x.reversal = .notReversed)
    (allowed : s.role l = .till → x.lane = l ∧ x.period = s.period.number)
    (closed : ¬ s.engine.entryPurseOpen x = true) : reverseEntry l x s = refuse l .purseClosed s := by
  rw [reverseEntry_of_allowed free allowed, if_pos (by simpa using closed)]

/-- A reversal on a purse still open goes on to its sponsor (R73). -/
theorem reverseEntry_of_purse (free : x.reversal = .notReversed)
    (allowed : s.role l = .till → x.lane = l ∧ x.period = s.period.number)
    (purse : s.engine.entryPurseOpen x = true) : reverseEntry l x s =
      match reversalSponsor s.engine.sponsorCount x with
      | none => refuse l .purseClosed s
      | some sponsor => acceptReverse l x sponsor s := by
  rw [reverseEntry_of_allowed free allowed, if_neg (by simp [purse])]

theorem acceptReverse_ceiling {sponsor : Option Nat}
    (past : ¬ (reversalBody x sponsor (refresh x.cardSlot s)).withinBounds = true) :
    acceptReverse l x sponsor s = refuse l .ceiling s := by
  unfold acceptReverse
  exact if_pos (by simpa using past)

theorem acceptReverse_within {sponsor : Option Nat}
    (within : (reversalBody x sponsor (refresh x.cardSlot s)).withinBounds = true) : acceptReverse l x sponsor s =
      if s.journal.store = .ok then
        engineQueues l (reversalBody x sponsor (refresh x.cardSlot s)) (.reversal l x.receipt)
          (markReversal x.receipt .queued (refresh x.cardSlot s))
      else refuse l .storeFault s := by
  unfold acceptReverse
  dsimp only
  rw [within, if_neg (by simp)]
  cases store : s.journal.store <;> simp [State.storeOk, store]

end

/-! ## REVERSE accepted (R76) -/

section
variable {l : Lane} {slot receipt : Nat} {body : RecordBody} {owner : Owner} {s : State}

/-- The engine a REVERSE accepted leaves: the record counted on its purses, the ring entry PENDING. -/
def Engine.reversing (receipt : Nat) (body : RecordBody) (s : State) : Engine :=
  (onNamed body CardPurse.addPending SponsorPurse.addPending (markReversal receipt .queued s)).engine

theorem engineQueues_markReversal : engineQueues l body owner (markReversal receipt .queued (refresh slot s)) = { s with
    engine := Engine.reversing receipt body (refresh slot s),
    journal := { s.journal with
      nextSeq := s.journal.nextSeq + 1,
      queue := (s.journal.queue ++
        [{ record := { sequence := s.journal.nextSeq, lane := l, period := s.period.number, body := body },
           owner := owner, writing := false }]) } } := by
  have fresh := refresh_eq slot s
  generalize (refresh slot s).engine.cards = cards at fresh
  rw [fresh]
  rfl

theorem Engine.reversing_eq : Engine.reversing receipt body (refresh slot s) = { s.engine with
    cards := (Engine.reversing receipt body (refresh slot s)).cards,
    sponsors := (Engine.reversing receipt body (refresh slot s)).sponsors,
    ring := s.engine.ring.map fun y => if y.receipt = receipt then { y with reversal := .queued } else y } := by
  have fresh := refresh_eq slot s
  unfold Engine.reversing
  rw [onNamed_eq]
  generalize refresh slot s = u at *
  rw [fresh]
  rfl

end

/-- Settles O38: the acceptance by `engineQueues_markReversal`, the refusals by the checks in their order. -/
theorem reverseAccepted : Obligations.reverseAccepted := by
  unfold Obligations.reverseAccepted
  refine ⟨fun l receipt s s' x sponsor c back asks canonical heard settled found free allowed unmarked region inUse same
    kept named uncharged fresh ahead back_eq cash_bound sponsor_bound ok => ?_,
    fun l receipt s refused asks refused_iff => ?_⟩
  · have fresh' : refresh x.cardSlot s.taken = s'.taken := by rw [refresh_taken, fresh]
    have canonical' : s'.taken.tablesCanonical := fresh ▸ refresh_tablesCanonical _ canonical
    have receipt_eq : x.receipt = receipt := by simpa using List.find?_some found
    have purse : s.taken.engine.entryPurseOpen x = true := Engine.entryPurseOpen_iff.mpr ⟨unmarked, region, inUse, same, kept⟩
    have within : (reversalBody x sponsor s'.taken).withinBounds = true :=
      reversalBody_withinBounds.mpr ⟨ahead ▸ cash_bound, sponsor_bound⟩
    have entry : reverseEntry l x s.taken = engineQueues l (reversalBody x sponsor s'.taken) (.reversal l x.receipt)
        (markReversal x.receipt .queued (refresh x.cardSlot s.taken)) := by
      rw [reverseEntry_of_purse (s := s.taken) free allowed purse, State.taken_engine, reversalSponsor_kept named uncharged,
        ← fresh']
      exact (acceptReverse_within (by rwa [fresh'])).trans (if_pos ok)
    have body : reversalBody x sponsor s'.taken = .reversal x.cardSlot
        { c with
          cashBalance := c.cashBalance + x.cashPart,
          allowanceRemaining := if back then c.allowanceRemaining + x.allowancePart else c.allowanceRemaining,
          spent := if back then c.spent - (x.allowancePart + x.cashPart) else c.spent }
        (sponsor.map fun n => { sponsor := n, balance := s'.sponsorAhead n + x.allowancePart })
        x.allowancePart x.cashPart receipt back := by
      unfold reversalBody
      dsimp only
      rw [cardEffect_reversal, ahead, back_eq, receipt_eq]
      rfl
    have on_card : (reversalBody x sponsor s'.taken).cardSlot = some x.cardSlot := rfl
    have on_sponsor : (reversalBody x sponsor s'.taken).sponsor = sponsor := reversalBody_sponsor
    refine ⟨Engine.reversing receipt (reversalBody x sponsor s'.taken) s'.taken, ?_, ?_, ?_, fun j other => ?_,
      fun n charged => ?_, fun n other => ?_⟩
    · rw [exec_reverse_of_found asks heard settled found, entry, engineQueues_markReversal, receipt_eq, fresh', body]
      rfl
    · rw [← fresh']
      exact Engine.reversing_eq (s := s.taken)
    · exact onNamed_card_named (s := markReversal receipt .queued s'.taken) canonical' on_card
    · refine (onNamed_card_other (by rw [on_card]; simpa using other.symm)).trans ?_
      rw [fresh]
      exact refresh_card_other other s
    · refine (onNamed_sponsor_named (s := markReversal receipt .queued s'.taken) canonical' (by rw [on_sponsor, charged])).trans ?_
      rw [fresh]
      exact congrArg SponsorPurse.addPending (refresh_sponsor ..)
    · refine (onNamed_sponsor_other (by rwa [on_sponsor])).trans ?_
      rw [fresh]
      exact refresh_sponsor ..
  · refine ⟨fun lost => ?_, fun heard closing => ?_, fun heard settled => ⟨fun unknown => ?_, fun x p found purse =>
      ⟨fun done => ?_, fun queued => ?_, fun free => ⟨fun till other => ?_, fun till own late => ?_, fun allowed =>
        ⟨fun closed => ?_, fun u unmarked region inUse same kept fresh => ⟨fun n named gone charged => ?_,
          fun sponsor within named uncharged within_iff => ⟨fun past => ?_, fun inside fault => ?_⟩⟩⟩⟩⟩⟩⟩
    · rw [refused_iff, exec_reverse_eq asks, if_pos lost]
      rfl
    · rw [refused_iff, exec_reverse_eq asks, if_neg heard, if_pos closing]
      rfl
    · have none : s.engine.ring.find? (fun y => y.receipt = receipt) = none :=
        List.find?_eq_none.mpr fun y mem => by simpa using unknown y mem
      rw [refused_iff, exec_reverse_eq asks, if_neg heard, if_neg settled, none]
      rfl
    all_goals rw [refused_iff, exec_reverse_of_found asks heard settled found]
    · exact congrArg _ (if_pos done)
    · exact congrArg _ (reverseEntry_queued queued)
    · exact congrArg _ (reverseEntry_notPermitted (s := s.taken) free till other)
    · exact congrArg _ (reverseEntry_tooLate (s := s.taken) free till own late)
    · refine congrArg _ (reverseEntry_purseClosed (s := s.taken) free allowed fun purse_open => ?_)
      obtain ⟨unmarked, region, inUse, same, kept⟩ := Engine.entryPurseOpen_iff.mp purse_open
      rw [State.taken_engine] at region inUse same kept
      subst purse
      rcases closed with marked | sponsors | gone | other | queued
      · simp [unmarked] at marked
      · omega
      · exact inUse gone
      · exact other same
      · simp [kept] at queued
    · subst purse
      have purse_open : s.taken.engine.entryPurseOpen x = true :=
        Engine.entryPurseOpen_iff.mpr ⟨unmarked, region, inUse, same, kept⟩
      rw [reverseEntry_of_purse (s := s.taken) free allowed purse_open, State.taken_engine,
        reversalSponsor_gone named gone charged]
      rfl
    all_goals
      subst purse
      have purse_open : s.taken.engine.entryPurseOpen x = true :=
        Engine.entryPurseOpen_iff.mpr ⟨unmarked, region, inUse, same, kept⟩
      have fresh' : refresh x.cardSlot s.taken = u.taken := by rw [refresh_taken, fresh]
      have bounds : within ↔ (reversalBody x sponsor (refresh x.cardSlot s.taken)).withinBounds = true := by
        rw [fresh', within_iff]
        exact reversalBody_withinBounds.symm
      rw [reverseEntry_of_purse (s := s.taken) free allowed purse_open, State.taken_engine,
        reversalSponsor_kept named uncharged]
    · exact congrArg _ (acceptReverse_ceiling (mt bounds.mpr past))
    · exact congrArg _ ((acceptReverse_within (bounds.mp inside)).trans (if_neg (by simp [fault])))

end Sys2Proof.Machine
end

section
/-! PROOF. Office purse operations on cards: OPEN_PURSE, CLOSE_PURSE, BLOCK and UNBLOCK (R80 to R82, R84, R85, R87). -/

namespace Sys2Proof.Machine

/-! ## The course of an office operation (R80, R81) -/

section
variable {c : Instr} {l : Lane} {card slot : Nat} {s : State}

/-- Gate check 2 of R80, READY given. -/
theorem officeRequest_of_asks {own : State → State} (asks : s.AsksReady c) : officeRequest c l own s = .next (
    if s.period.state = .closeWrite then refuse l .periodClosing s.taken else own s.taken) := by
  unfold officeRequest
  exact readyRequest_of_asks asks

theorem officeRequest_closing {own : State → State} (asks : s.AsksReady c) (closing : s.period.state = .closeWrite) :
    officeRequest c l own s = .next (refuse l .periodClosing s.taken) :=
  (officeRequest_of_asks asks).trans (congrArg _ (if_pos closing))

theorem officeRequest_passed {own : State → State} (asks : s.AsksReady c) (settled : s.period.state ≠ .closeWrite) :
    officeRequest c l own s = .next (own s.taken) :=
  (officeRequest_of_asks asks).trans (congrArg _ (if_neg settled))

theorem onOpenCard_unknown {own : Nat → State → State} (unknown : lookup s.engine card = none) :
    onOpenCard l card own s = refuse l .noCard s := by
  rw [onOpenCard, unknown]

theorem onOpenCard_queued {own : Nat → State → State} (found : lookup s.engine card = some slot)
    (queued : ((refresh slot s).engine.card slot).closeQueued = true) :
    onOpenCard l card own s = refuse l .pendingRecord (refresh slot s) := by
  rw [onOpenCard, found]
  exact if_pos queued

theorem onOpenCard_kept {own : Nat → State → State} (found : lookup s.engine card = some slot)
    (kept : ((refresh slot s).engine.card slot).closeQueued = false) :
    onOpenCard l card own s = own slot (refresh slot s) := by
  rw [onOpenCard, found]
  exact if_neg (by simp [kept])

theorem acceptOffice_ok {body : State → RecordBody} {reserve : State → State} (ok : s.journal.store = .ok) :
    acceptOffice l body reserve s = engineQueues l (body s) (.request l) (reserve s) := if_pos (decide_eq_true ok)

theorem acceptOffice_fault {body : State → RecordBody} {reserve : State → State} (fault : s.journal.store = .fault) :
    acceptOffice l body reserve s = refuse l .storeFault s := if_neg (by simp [State.storeOk, fault])

end

/-! ## A record queued on a card purse (R81) -/

/-- Only the card purses of `u` differ from those of `s`, and of these only that at `slot`. -/
structure State.OnCard (slot : Nat) (s u : State) : Prop where
  frame : u = { s with engine := { s.engine with cards := u.engine.cards } }
  other : ∀ j, j ≠ slot → u.engine.card j = s.engine.card j
  canonical : u.tablesCanonical

section
variable {l : Lane} {slot : Nat} {f : CardPurse → CardPurse} {body : RecordBody} {owner : Owner} {s u : State}

theorem State.OnCard.refl (canonical : s.tablesCanonical) : State.OnCard slot s s := ⟨rfl, fun _ _ => rfl, canonical⟩

theorem State.OnCard.refresh (canonical : s.tablesCanonical) : State.OnCard slot s (refresh slot s) :=
  ⟨refresh_eq slot s, fun _ other => refresh_card_other other s, refresh_tablesCanonical slot canonical⟩

theorem State.OnCard.reserve (on : State.OnCard slot s u) (f : CardPurse → CardPurse) :
    State.OnCard slot s (reserveOn slot f u) where
  frame := by
    have frame := on.frame
    generalize u.engine.cards = cards at frame
    rw [frame]
    rfl
  other := fun j other => (Engine.card_mapCard_other u.engine other f).trans (on.other j other)
  canonical := ⟨Table.wf_put _ _ on.canonical.1, on.canonical.2⟩

theorem reserveOn_card (canonical : u.tablesCanonical) : (reserveOn slot f u).engine.card slot = f (u.engine.card slot) :=
  Engine.card_mapCard_same _ canonical.1 _ _

/-- A record of a card alone, queued with its reservation made. -/
theorem State.OnCard.queued (on : State.OnCard slot s u) (named : body.cardSlot = some slot) (alone : body.sponsor = none) :
    ∃ e : Engine, engineQueues l body owner u = { s with
        engine := e,
        journal := { s.journal with
          nextSeq := s.journal.nextSeq + 1,
          queue := s.journal.queue ++ [⟨⟨s.journal.nextSeq, l, s.period.number, body⟩, owner, false⟩] } } ∧
      e = { s.engine with cards := e.cards } ∧ e.card slot = (u.engine.card slot).addPending ∧
      ∀ j, j ≠ slot → e.card j = s.engine.card j := by
  refine ⟨(onNamed body CardPurse.addPending SponsorPurse.addPending u).engine, ?_, ?_,
    onNamed_card_named on.canonical named, fun j other => ?_⟩
  · have frame := on.frame
    generalize u.engine.cards = cards at frame
    rw [frame]
    rfl
  · have sponsors : (onNamed body CardPurse.addPending SponsorPurse.addPending u).engine.sponsors = u.engine.sponsors := by
      rw [onNamed_sponsors, alone]
      rfl
    have frame := on.frame
    rw [onNamed_eq, sponsors]
    generalize u.engine.cards = cards at frame
    rw [frame]
  · exact (onNamed_card_other (by rw [named]; simpa using other.symm)).trans (on.other j other)

/-- The answer of an office operation accepted, told through what the statement abbreviates: the state with the record queued, and
the one purse that changes. -/
theorem State.OnCard.accepted {c : Instr} {q : CardPurse} {after : RecordBody → Engine → State}
    {only : Engine → CardPurse → Prop} (on : State.OnCard slot s.taken u)
    (after_eq : ∀ body e, after body e = { s.taken with
      engine := e,
      journal := { s.journal with
        nextSeq := s.journal.nextSeq + 1,
        queue := s.journal.queue ++ [⟨⟨s.journal.nextSeq, l, s.period.number, body⟩, .request l, false⟩] } })
    (only_iff : ∀ e q, only e q ↔
      e = { s.engine with cards := e.cards } ∧ e.card slot = q ∧ ∀ j, j ≠ slot → e.card j = s.engine.card j)
    (named : body.cardSlot = some slot) (alone : body.sponsor = none)
    (answer : exec c s = .next (engineQueues l body (.request l) u)) (purse : (u.engine.card slot).addPending = q) :
    ∃ e, exec c s = .next (after body e) ∧ only e q := by
  obtain ⟨e, queued, engine, card, others⟩ := on.queued (l := l) (owner := .request l) named alone
  exact ⟨e, by rw [answer, queued, after_eq]; rfl, (only_iff e q).mpr ⟨engine, card.trans purse, others⟩⟩

end

/-! ## The requests on the state of a card (R82, R85, R87) -/

section
variable {l : Lane} {card slot : Nat} {s : State}

theorem exec_openPurse_passed (asks : s.AsksReady (.openPurse l card)) (settled : s.period.state ≠ .closeWrite) :
    exec (.openPurse l card) s = .next (engineOpenPurse l card s.taken) := officeRequest_passed asks settled
theorem exec_closePurse_passed (asks : s.AsksReady (.closePurse l card)) (settled : s.period.state ≠ .closeWrite) :
    exec (.closePurse l card) s = .next (engineClosePurse l card s.taken) := officeRequest_passed asks settled
theorem exec_block_passed (asks : s.AsksReady (.block l card)) (settled : s.period.state ≠ .closeWrite) :
    exec (.block l card) s = .next (engineChangeState l card .opened .block s.taken) := officeRequest_passed asks settled
theorem exec_unblock_passed (asks : s.AsksReady (.unblock l card)) (settled : s.period.state ≠ .closeWrite) :
    exec (.unblock l card) s = .next (engineChangeState l card .blocked .unblock s.taken) :=
  officeRequest_passed asks settled

/-- CLOSE_PURSE, BLOCK and UNBLOCK look their card up first (R80). -/
theorem exec_onOpenCard {c : Instr} (asks : s.AsksReady c) (mem : c ∈ [.closePurse l card, .block l card, .unblock l card])
    (settled : s.period.state ≠ .closeWrite) : ∃ own, exec c s = .next (onOpenCard l card own s.taken) := by
  simp only [List.mem_cons, List.not_mem_nil, or_false] at mem
  rcases mem with rfl | rfl | rfl
  · exact ⟨_, exec_closePurse_passed asks settled⟩
  · exact ⟨_, exec_block_passed asks settled⟩
  · exact ⟨_, exec_unblock_passed asks settled⟩

theorem engineOpenPurse_mapped (mapped : slotOf s.engine.ranges card = some slot) : engineOpenPurse l card s =
    if (s.engine.card slot).state ≠ .free then refuse l .alreadyOpen s
    else if (s.engine.card slot).pendingRecords ≠ 0 then refuse l .pendingRecord s
    else acceptOffice l (fun s => .change .openPurse slot (openAfter card s))
      (reserveOn slot fun p => { p with cardNumber := card }) s := by
  rw [engineOpenPurse, mapped]

theorem engineOpenPurse_free (mapped : slotOf s.engine.ranges card = some slot) (free : (s.engine.card slot).state = .free)
    (clear : (s.engine.card slot).pendingRecords = 0) : engineOpenPurse l card s =
      acceptOffice l (fun s => .change .openPurse slot (openAfter card s))
        (reserveOn slot fun p => { p with cardNumber := card }) s := by
  rw [engineOpenPurse_mapped mapped, if_neg (not_not.mpr free), if_neg (not_not.mpr clear)]

/-- The checks of R85 on the purse as it is refreshed, in their order. -/
theorem engineClosePurse_kept {u : State} {p : CardPurse} (found : lookup s.engine card = some slot) (fresh : u = refresh slot s)
    (purse : p = u.engine.card slot) (kept : p.closeQueued = false) : engineClosePurse l card s =
      if p.holdList ≠ [] then fillReply l .holdsPresent (beBytes 1 p.holdList.length) u
      else if p.cashBalance ≠ 0 ∨ p.cashOutgoing ≠ 0 then refuse l .notEmpty u
      else if p.pendingRecords ≠ 0 then refuse l .pendingRecord u
      else acceptOffice l (cardBody slot fun c => .change .closePurse slot c)
        (reserveOn slot fun p => { p with closeQueued := true }) u := by
  subst fresh purse
  exact onOpenCard_kept found kept

theorem engineClosePurse_empty {u : State} {p : CardPurse} (found : lookup s.engine card = some slot)
    (fresh : u = refresh slot s) (purse : p = u.engine.card slot) (kept : p.closeQueued = false) (held : p.holdList = [])
    (cash : p.cashBalance = 0) (outgoing : p.cashOutgoing = 0) (clear : p.pendingRecords = 0) : engineClosePurse l card s =
      acceptOffice l (cardBody slot fun c => .change .closePurse slot c)
        (reserveOn slot fun p => { p with closeQueued := true }) u := by
  rw [engineClosePurse_kept found fresh purse kept, if_neg (not_not.mpr held), if_neg (by omega),
    if_neg (not_not.mpr clear)]

theorem engineChangeState_kept {needed : PurseState} {kind : StateKind} {u : State} {p : CardPurse}
    (found : lookup s.engine card = some slot) (fresh : u = refresh slot s) (purse : p = u.engine.card slot)
    (kept : p.closeQueued = false) : engineChangeState l card needed kind s =
      if p.state ≠ needed then refuse l .noChange u
      else acceptOffice l (cardBody slot fun c => .change kind slot c) id u := by
  subst fresh purse
  exact onOpenCard_kept found kept

theorem engineChangeState_needed {needed : PurseState} {kind : StateKind} {u : State} {p : CardPurse}
    (found : lookup s.engine card = some slot) (fresh : u = refresh slot s) (purse : p = u.engine.card slot)
    (kept : p.closeQueued = false) (state : p.state = needed) : engineChangeState l card needed kind s =
      acceptOffice l (cardBody slot fun c => .change kind slot c) id u := by
  rw [engineChangeState_kept found fresh purse kept, if_neg (not_not.mpr state)]

end

/-- Settles O41: the checks in their order, and the record queued on its purse by `State.OnCard.accepted`. -/
theorem stateChangesAccepted : Obligations.stateChangesAccepted := by
  unfold Obligations.stateChangesAccepted
  refine ⟨fun l card slot s after only canonical settled ok after_eq only_iff => ⟨fun asks mapped free clear => ?_, ?_⟩,
    fun c l card s refused asks refused_iff => ⟨fun mem closing => ?_, fun request settled => ?_, fun mem settled => ?_⟩⟩
  · refine ((State.OnCard.refl (s := s.taken) canonical).reserve fun p => { p with cardNumber := card }).accepted after_eq
      only_iff rfl rfl ?_ ?_
    · rw [exec_openPurse_passed asks settled, engineOpenPurse_free (s := s.taken) mapped free clear,
        acceptOffice_ok (s := s.taken) ok]
      rfl
    · rw [reserveOn_card (u := s.taken) canonical]
      exact congrArg (fun n => { s.engine.card slot with cardNumber := card, pendingRecords := n + 1 }) clear
  · intro s' p c found fresh purse kept ahead
    have fresh' : s'.taken = refresh slot s.taken := by rw [refresh_taken, fresh]
    have on : State.OnCard slot s.taken s'.taken := fresh' ▸ State.OnCard.refresh (s := s.taken) canonical
    have ok' : s'.taken.journal.store = .ok := by rw [fresh', refresh_eq]; exact ok
    refine ⟨fun asks held cash outgoing clear => ?_, fun asks state => ?_, fun asks state => ?_⟩
    · refine (on.reserve fun p => { p with closeQueued := true }).accepted after_eq only_iff rfl rfl ?_ ?_
      · rw [exec_closePurse_passed asks settled,
          engineClosePurse_empty (s := s.taken) found fresh' purse kept held cash outgoing clear, acceptOffice_ok ok', ahead]
        rfl
      · rw [reserveOn_card on.canonical]
        exact purse ▸ congrArg (fun n => { p with closeQueued := true, pendingRecords := n + 1 }) clear
    · refine on.accepted after_eq only_iff rfl rfl ?_ (congrArg CardPurse.addPending purse.symm)
      rw [exec_block_passed asks settled, engineChangeState_needed (s := s.taken) found fresh' purse kept state,
        acceptOffice_ok ok', ahead]
      rfl
    · refine on.accepted after_eq only_iff rfl rfl ?_ (congrArg CardPurse.addPending purse.symm)
      rw [exec_unblock_passed asks settled, engineChangeState_needed (s := s.taken) found fresh' purse kept state,
        acceptOffice_ok ok', ahead]
      rfl
  · rw [refused_iff]
    simp only [List.mem_cons, List.not_mem_nil, or_false] at mem
    rcases mem with rfl | rfl | rfl | rfl <;> exact officeRequest_closing asks closing
  · subst request
    simp only [refused_iff, exec_openPurse_passed asks settled]
    refine ⟨fun unmapped => ?_, fun slot p mapped purse => ?_⟩
    · rw [engineOpenPurse, State.taken_engine, unmapped]
      rfl
    · subst purse
      rw [engineOpenPurse_mapped (s := s.taken) mapped, State.taken_engine]
      refine ⟨fun taken => congrArg _ (if_pos taken), fun free pending => ?_, fun free clear fault => ?_⟩
      · rw [if_neg (not_not.mpr free)]
        exact congrArg _ (if_pos pending)
      · rw [if_neg (not_not.mpr free), if_neg (not_not.mpr clear)]
        exact congrArg _ (acceptOffice_fault (s := s.taken) fault)
  · obtain ⟨own, answer⟩ := exec_onOpenCard asks mem settled
    refine ⟨fun unknown => ?_, fun slot p u found purse fresh => ⟨fun queued => ?_, fun kept request => ?_,
      fun needed kept request => ?_⟩⟩
    · rw [refused_iff, answer]
      exact congrArg _ (onOpenCard_unknown (s := s.taken) unknown)
    all_goals
      have purse' : p = u.engine.card slot := by rw [purse, fresh, refresh_taken]; rfl
      have store : u.journal.store = s.journal.store := by rw [fresh, refresh_eq]; rfl
    · subst fresh purse'
      rw [refused_iff, answer]
      exact congrArg _ (onOpenCard_queued (s := s.taken) found queued)
    · subst request
      simp only [refused_iff, exec_closePurse_passed asks settled,
        engineClosePurse_kept (s := s.taken) found fresh purse' kept]
      refine ⟨fun held => congrArg _ (if_pos held), fun held cash => ?_, fun held cash outgoing pending => ?_,
        fun held cash outgoing clear fault => ?_⟩
      · rw [if_neg (not_not.mpr held)]
        exact congrArg _ (if_pos cash)
      · rw [if_neg (not_not.mpr held), if_neg (by omega)]
        exact congrArg _ (if_pos pending)
      · rw [if_neg (not_not.mpr held), if_neg (by omega), if_neg (not_not.mpr clear)]
        exact congrArg _ (acceptOffice_fault (store.trans fault))
    · obtain ⟨kind, changes⟩ : ∃ kind, exec c s = .next (engineChangeState l card needed kind s.taken) := by
        rcases request with ⟨rfl, rfl⟩ | ⟨rfl, rfl⟩
        · exact ⟨_, exec_block_passed asks settled⟩
        · exact ⟨_, exec_unblock_passed asks settled⟩
      simp only [refused_iff, changes, engineChangeState_kept (s := s.taken) found fresh purse' kept]
      refine ⟨fun other => congrArg _ (if_pos other), fun state fault => ?_⟩
      rw [if_neg (not_not.mpr state)]
      exact congrArg _ (acceptOffice_fault (store.trans fault))

end Sys2Proof.Machine
end

section
/-! PROOF. Office operations that move cash: TOP_UP, WITHDRAW and FUND_SPONSOR (R89, R91, R93), and the durable events of office
records (R83, R86, R88, R90, R92, R94). -/

namespace Sys2Proof.Machine

/-! ## TOP_UP, WITHDRAW and FUND_SPONSOR -/

section
variable {l : Lane} {card slot n amount : Nat} {s : State}

theorem exec_topUp_passed (asks : s.AsksReady (.topUp l card amount)) (settled : s.period.state ≠ .closeWrite) :
    exec (.topUp l card amount) s = .next (engineTopUp l card amount s.taken) := officeRequest_passed asks settled
theorem exec_withdraw_passed (asks : s.AsksReady (.withdraw l card amount)) (settled : s.period.state ≠ .closeWrite) :
    exec (.withdraw l card amount) s = .next (engineWithdraw l card amount s.taken) := officeRequest_passed asks settled
theorem exec_fundSponsor_passed (asks : s.AsksReady (.fundSponsor l n amount)) (settled : s.period.state ≠ .closeWrite) :
    exec (.fundSponsor l n amount) s = .next (engineFundSponsor l n amount s.taken) := officeRequest_passed asks settled

theorem cashAmountOk_iff : cashAmountOk amount = true ↔ 1 ≤ amount ∧ amount ≤ 2000000 := by
  simp [cashAmountOk]

theorem fundAmountOk_iff : fundAmountOk amount = true ↔ 1 ≤ amount ∧ amount ≤ 100000000 := by
  simp [fundAmountOk]

/-- TOP_UP and WITHDRAW check their amount, then look their card up (R80, R89, R91). -/
theorem exec_cashMove {c : Instr} (asks : s.AsksReady c) (mem : c ∈ [.topUp l card amount, .withdraw l card amount])
    (settled : s.period.state ≠ .closeWrite) : ∃ own, exec c s = .next (
      if !cashAmountOk amount then refuse l .badAmount s.taken else onOpenCard l card own s.taken) := by
  simp only [List.mem_cons, List.not_mem_nil, or_false] at mem
  rcases mem with rfl | rfl
  · exact ⟨_, exec_topUp_passed asks settled⟩
  · exact ⟨_, exec_withdraw_passed asks settled⟩

/-- The check of R89 on the purse as it is refreshed. -/
theorem engineTopUp_kept {u : State} {p : CardPurse} (range : cashAmountOk amount = true)
    (found : lookup s.engine card = some slot) (fresh : u = refresh slot s) (purse : p = u.engine.card slot)
    (kept : p.closeQueued = false) : engineTopUp l card amount s =
      if u.config.ceiling < p.cashBalance + p.topUpPending + amount ∨
          2000000 < (u.cardAhead slot).cashBalance + amount then
        fillReply l .ceiling (beBytes 3 (topUpRoom slot u)) u
      else acceptOffice l (cardBody slot fun c => .topUp slot c amount)
        (reserveOn slot fun p => { p with topUpPending := p.topUpPending + amount }) u := by
  subst fresh purse
  rw [engineTopUp, if_neg (by simp [range])]
  exact onOpenCard_kept found kept

/-- The check of R91 on the purse as it is refreshed. -/
theorem engineWithdraw_kept {u : State} {p : CardPurse} (range : cashAmountOk amount = true)
    (found : lookup s.engine card = some slot) (fresh : u = refresh slot s) (purse : p = u.engine.card slot)
    (kept : p.closeQueued = false) : engineWithdraw l card amount s =
      if p.cashAvailable < amount then fillReply l .insufficient (beBytes 3 p.cashAvailable) u
      else acceptOffice l (cardBody slot fun c => .withdraw slot c amount)
        (reserveOn slot fun p => { p with cashOutgoing := p.cashOutgoing + amount }) u := by
  subst fresh purse
  rw [engineWithdraw, if_neg (by simp [range])]
  exact onOpenCard_kept found kept

/-- The checks of R93 after those of the sponsor and the amount. -/
theorem engineFundSponsor_range (sponsor : n < s.engine.sponsorCount) (range : fundAmountOk amount = true) :
    engineFundSponsor l n amount s =
      if 100000000 < s.sponsorAhead n + amount then fillReply l .ceiling (beBytes 4 (100000000 - s.sponsorAhead n)) s
      else acceptOffice l (fun s => .fund { sponsor := n, balance := s.sponsorAhead n + amount } amount) id s := by
  rw [engineFundSponsor, if_neg (by omega), if_neg (by simp [range])]

/-- A record that names a sponsor alone, queued. -/
theorem engineQueues_fund {a : SponsorAfter} (canonical : s.tablesCanonical) :
    ∃ e : Engine, engineQueues l (.fund a amount) (.request l) s = { s with
        engine := e,
        journal := { s.journal with
          nextSeq := s.journal.nextSeq + 1,
          queue := s.journal.queue ++ [⟨⟨s.journal.nextSeq, l, s.period.number, .fund a amount⟩, .request l, false⟩] } } ∧
      e = { s.engine with sponsors := e.sponsors } ∧ e.sponsor a.sponsor = (s.engine.sponsor a.sponsor).addPending ∧
      ∀ k, k ≠ a.sponsor → e.sponsor k = s.engine.sponsor k :=
  ⟨(onNamed (.fund a amount) CardPurse.addPending SponsorPurse.addPending s).engine, rfl, rfl,
    onNamed_sponsor_named canonical rfl, fun _ other => onNamed_sponsor_other fun same => other (Option.some.inj same).symm⟩

end

/-- Settles O42: the checks in their order, and the record queued with its reservation by `State.OnCard.accepted`. -/
theorem cashMovesReserved : Obligations.cashMovesReserved := by
  unfold Obligations.cashMovesReserved
  refine ⟨fun l amount slot s after only canonical settled ok pos after_eq only_iff => ⟨?_, fun n asks sponsor le room => ?_⟩,
    fun c l card n amount s refused asks refused_iff => ⟨fun mem closing => ?_, fun mem settled => ?_,
      fun request settled => ?_⟩⟩
  · intro card s' p c found fresh purse kept ahead le
    have fresh' : s'.taken = refresh slot s.taken := by rw [refresh_taken, fresh]
    have on : State.OnCard slot s.taken s'.taken := fresh' ▸ State.OnCard.refresh (s := s.taken) canonical
    have ok' : s'.taken.journal.store = .ok := by rw [fresh', refresh_eq]; exact ok
    have ceiling : s'.taken.config.ceiling = s.config.ceiling := by rw [fresh', refresh_eq]; rfl
    have range : cashAmountOk amount = true := cashAmountOk_iff.mpr ⟨pos, le⟩
    refine ⟨fun asks low bound => ?_, fun asks covered => ?_⟩
    · refine (on.reserve fun p => { p with topUpPending := p.topUpPending + amount }).accepted after_eq only_iff rfl rfl ?_ ?_
      · have within : ¬ (s'.taken.config.ceiling < p.cashBalance + p.topUpPending + amount ∨
            2000000 < (s'.taken.cardAhead slot).cashBalance + amount) := by
          have same : s'.taken.cardAhead slot = c := ahead.symm
          rw [ceiling, same]
          omega
        rw [exec_topUp_passed asks settled, engineTopUp_kept (s := s.taken) range found fresh' purse kept, if_neg within,
          acceptOffice_ok ok', ahead]
        rfl
      · rw [reserveOn_card on.canonical, purse]
        rfl
    · refine (on.reserve fun p => { p with cashOutgoing := p.cashOutgoing + amount }).accepted after_eq only_iff rfl rfl ?_ ?_
      · have enough : ¬ p.cashAvailable < amount := Nat.not_lt.mpr covered
        rw [exec_withdraw_passed asks settled, engineWithdraw_kept (s := s.taken) range found fresh' purse kept,
          if_neg enough, acceptOffice_ok ok', ahead]
        rfl
      · rw [reserveOn_card on.canonical, purse]
        rfl
  · obtain ⟨e, queued, engine, purse, others⟩ := engineQueues_fund (l := l) (amount := amount) (s := s.taken)
      (a := ⟨n, s.sponsorAhead n + amount⟩) canonical
    refine ⟨e, ?_, engine, purse, others⟩
    have within : ¬ 100000000 < s.taken.sponsorAhead n + amount := Nat.not_lt.mpr room
    rw [exec_fundSponsor_passed asks settled,
      engineFundSponsor_range (s := s.taken) sponsor (fundAmountOk_iff.mpr ⟨pos, le⟩), if_neg within,
      acceptOffice_ok (s := s.taken) ok, after_eq]
    exact congrArg _ queued
  · rw [refused_iff]
    simp only [List.mem_cons, List.not_mem_nil, or_false] at mem
    rcases mem with rfl | rfl | rfl <;> exact officeRequest_closing asks closing
  · obtain ⟨own, answer⟩ := exec_cashMove asks mem settled
    refine ⟨fun bad => ?_, fun pos le => ?_⟩
    · rw [refused_iff, answer]
      exact congrArg _ (if_pos (by simp only [Bool.not_eq_true', ← Bool.not_eq_true, cashAmountOk_iff]; omega))
    have range : cashAmountOk amount = true := cashAmountOk_iff.mpr ⟨pos, le⟩
    rw [range, Bool.not_true, if_neg Bool.false_ne_true] at answer
    refine ⟨fun unknown => ?_, fun slot p u ahead cash passes found purse fresh ahead_eq cash_eq passes_iff =>
      ⟨fun queued => ?_, fun kept request => ?_, fun kept request => ?_⟩⟩
    · rw [refused_iff, answer]
      exact congrArg _ (onOpenCard_unknown (s := s.taken) unknown)
    all_goals
      have purse' : p = u.engine.card slot := by rw [purse, fresh, refresh_taken]; rfl
      have store : u.journal.store = s.journal.store := by rw [fresh, refresh_eq]; rfl
    · subst fresh purse'
      rw [refused_iff, answer]
      exact congrArg _ (onOpenCard_queued (s := s.taken) found queued)
    · subst request
      have ceiling : u.config.ceiling = s.config.ceiling := by rw [fresh, refresh_eq]; rfl
      have room : topUpRoom slot u = min (s.config.ceiling - (p.cashBalance + p.topUpPending)) (2000000 - ahead) := by
        rw [topUpRoom, ceiling, ← purse', ← ahead_eq]
      simp only [refused_iff, exec_topUp_passed asks settled, engineTopUp_kept (s := s.taken) range found fresh purse' kept,
        room, ceiling, ← ahead_eq]
      exact ⟨fun past => congrArg _ (if_pos (passes_iff.mp past)), fun within fault =>
        congrArg _ ((if_neg (mt passes_iff.mpr within)).trans (acceptOffice_fault (store.trans fault)))⟩
    · subst request
      have available : p.cashAvailable = cash := cash_eq.symm
      simp only [refused_iff, exec_withdraw_passed asks settled,
        engineWithdraw_kept (s := s.taken) range found fresh purse' kept, available]
      exact ⟨fun low => congrArg _ (if_pos low), fun enough fault =>
        congrArg _ ((if_neg (Nat.not_lt.mpr enough)).trans (acceptOffice_fault (store.trans fault)))⟩
  · subst request
    simp only [refused_iff, exec_fundSponsor_passed asks settled]
    refine ⟨fun unknown => congrArg _ (if_pos unknown), fun sponsor bad => ?_, fun sponsor pos le => ?_⟩
    · have known : ¬ s.taken.engine.sponsorCount ≤ n := Nat.not_le.mpr sponsor
      rw [engineFundSponsor, if_neg known]
      exact congrArg _ (if_pos (by simp only [Bool.not_eq_true', ← Bool.not_eq_true, fundAmountOk_iff]; omega))
    · rw [engineFundSponsor_range (s := s.taken) sponsor (fundAmountOk_iff.mpr ⟨pos, le⟩)]
      exact ⟨fun past => congrArg _ (if_pos past), fun within fault =>
        congrArg _ ((if_neg (Nat.not_lt.mpr within)).trans (acceptOffice_fault (s := s.taken) fault))⟩

end Sys2Proof.Machine
end

section
/-! PROOF. The durable event of an office operation's record (R83, R86, R88, R90, R92, R94). -/

namespace Sys2Proof.Machine

section
variable {r : Record} {l : Lane} {slot : Nat} {s : State}

theorem exec_officeRecordDurable_of_hands (hands : s.Hands (.durable r (.request l))) (office : r.body.isOffice = true) :
    exec (.officeRecordDurable r.sequence) s = .next (takeOfficeDurable r l s.eventTaken) := by
  have arm : exec (.officeRecordDurable r.sequence) s = execOfficeRecordDurable r.sequence s := rfl
  exact arm.trans (takeJournalEvent_of_hands hands (if_pos ⟨rfl, office⟩))

/-- A purse refreshed is current. -/
theorem refresh_refresh (canonical : s.tablesCanonical) : refresh slot (refresh slot s) = refresh slot s := by
  refine refresh_of_current fun ⟨inUse, other⟩ => ?_
  have number : (refresh slot s).period.number = s.period.number := by rw [refresh_eq]
  rw [number, refresh_card_same canonical, CardPurse.inPeriod] at other
  rw [refresh_card_same canonical, CardPurse.inPeriod] at inUse
  split at other
  next due => exact other rfl
  next current =>
    rw [if_neg current] at inUse
    exact current ⟨inUse, other⟩

/-- The state after a durable office record but for the closed marks and the reply. -/
def State.officeTaken (r : Record) (s : State) : State :=
  countRecord r (unreserve r.body (applyRecord r.body (refreshNamed r.body s)))

theorem takeOfficeDurable_eq : takeOfficeDurable r l s = fillReply l .ok
    (officeReply r (refreshNamed r.body s) (markClosed r.body (s.officeTaken r))) (markClosed r.body (s.officeTaken r)) := rfl

theorem refreshNamed_of_slot (named : r.body.cardSlot = some slot) : refreshNamed r.body s = refresh slot s := by
  rw [refreshNamed, named]

section
variable (named : r.body.cardSlot = some slot)
include named

theorem State.officeTaken_card (canonical : s.tablesCanonical) {p : CardPurse} (purse : p = (refresh slot s).engine.card slot) :
    (s.officeTaken r).engine.card slot = (p.taking r.body).unreserve r.body := by
  have canonical' := refresh_tablesCanonical slot canonical
  unfold State.officeTaken
  rw [refreshNamed_of_slot named]
  refine (onNamed_card_named (applyRecord_tablesCanonical canonical' named) named).trans ?_
  rw [applyRecord_card_named canonical' named, refresh_refresh canonical, purse]

theorem State.officeTaken_card_other {j : Nat} (other : j ≠ slot) :
    (s.officeTaken r).engine.card j = s.engine.card j := by
  unfold State.officeTaken
  rw [refreshNamed_of_slot named]
  refine (onNamed_card_other (by rw [named]; simpa using other.symm)).trans ?_
  rw [applyRecord_card_other named other, refresh_card_other other]

theorem State.officeTaken_eq (alone : r.body.sponsor = none) : s.officeTaken r = { s with engine := { s.engine with
    cards := (s.officeTaken r).engine.cards, totals := s.engine.totals.add r } } := by
  have sponsors : (onNamed r.body (CardPurse.unreserve r.body) id (applyRecord r.body (refresh slot s))).engine.sponsors =
      s.engine.sponsors := by
    rw [onNamed_sponsors, alone, applyRecord_of_slot named]
    refine Eq.trans (b := (onNamed r.body _ _ (refresh slot (refresh slot s))).engine.sponsors) rfl ?_
    rw [onNamed_sponsors, alone]
    exact (refresh_sponsors ..).trans (refresh_sponsors ..)
  unfold State.officeTaken unreserve
  rw [refreshNamed_of_slot named, onNamed_eq, sponsors, applyRecord_eq named, refresh_eq]
  rfl

end

end

section
variable {s : State} {r : Record} {l : Lane} {slot : Nat} {p : CardPurse}

/-- A durable office record of a card: the purse as its effect and the reservation given back leave it, and the totals. -/
theorem officeRecord_applied (hands : s.Hands (.durable r (.request l))) (canonical : s.tablesCanonical)
    (purse : p = (refresh slot s).engine.card slot) (office : r.body.isOffice = true)
    (named : r.body.cardSlot = some slot) (alone : r.body.sponsor = none)
    (unmarked : ∀ u, markClosed r.body u = u) :
    ∃ e : Engine, exec (.officeRecordDurable r.sequence) s = .next (fillReply l .ok
        (officeReply r (refresh slot s.eventTaken) { s with engine := e }) { s with engine := e }) ∧
      e = { s.eventTaken.engine with cards := e.cards, totals := s.engine.totals.add r } ∧
      e.card slot = (p.taking r.body).unreserve r.body ∧ ∀ j, j ≠ slot → e.card j = s.engine.card j := by
  have fresh : p = (refresh slot s.eventTaken).engine.card slot :=
    purse.trans (congrArg (Table.get CardPurse.free slot) (refresh_eventTaken_cards slot s)).symm
  have frame : s.eventTaken.officeTaken r = { s with engine := (s.eventTaken.officeTaken r).engine } := by
    rw [State.officeTaken_eq (s := s.eventTaken) named alone]
    rfl
  refine ⟨(s.eventTaken.officeTaken r).engine, ?_, ?_, State.officeTaken_card (s := s.eventTaken) named canonical fresh,
    fun j other => State.officeTaken_card_other (s := s.eventTaken) named other⟩
  · rw [exec_officeRecordDurable_of_hands hands office, takeOfficeDurable_eq, unmarked, refreshNamed_of_slot named, ← frame]
  · exact congrArg State.engine (State.officeTaken_eq (s := s.eventTaken) named alone)

/-- The same by the record's body, told through what the statement abbreviates: the reply `bytes`, the purse `q`, the totals `t`. -/
theorem officeRecord_told {b : RecordBody} {q : CardPurse} {t : Totals} {bytes : List Byte}
    {only : Engine → CardPurse → Prop} (hands : s.Hands (.durable r (.request l))) (canonical : s.tablesCanonical)
    (purse : p = (refresh slot s).engine.card slot)
    (only_iff : ∀ e q, only e q ↔ e.card slot = q ∧ ∀ j, j ≠ slot → e.card j = s.engine.card j)
    (body : r.body = b) (office : b.isOffice = true) (named : b.cardSlot = some slot) (alone : b.sponsor = none)
    (unmarked : ∀ u, markClosed b u = u) (effect : (p.taking b).unreserve b = q) (totals : s.engine.totals.add r = t)
    (reply : ∀ before after : State, after.engine.card slot = q → officeReply r before after = bytes) :
    ∃ e : Engine, exec (.officeRecordDurable r.sequence) s = .next (fillReply l .ok bytes { s with engine := e }) ∧
      e = { s.eventTaken.engine with cards := e.cards, totals := t } ∧ only e q := by
  subst body
  obtain ⟨e, answer, engine, card, others⟩ := officeRecord_applied hands canonical purse office named alone unmarked
  rw [reply _ _ (card.trans effect)] at answer
  exact ⟨e, answer, totals ▸ engine, (only_iff _ _).mpr ⟨card.trans effect, others⟩⟩

theorem markClosed_closePurse {b : RecordBody} {c : CardAfter} (body : b = .change .closePurse slot c) :
    markClosed b s = s.mapEngine fun e =>
      { e with ring := e.ring.map fun x => if x.cardSlot = slot then { x with closedMark := true } else x } := by
  subst body
  rfl

/-- A durable CLOSE_PURSE record: the purse FREE, and the closed mark in every ring entry of its slot (R86). -/
theorem closeRecord_applied {c : CardAfter} (hands : s.Hands (.durable r (.request l))) (canonical : s.tablesCanonical)
    (purse : p = (refresh slot s).engine.card slot) (body : r.body = .change .closePurse slot c) :
    ∃ e : Engine, exec (.officeRecordDurable r.sequence) s = .next (fillReply l .ok
        (beBytes 4 r.sequence ++ (beBytes 2 slot ++ beBytes 2 p.allowanceRemaining)) { s with engine := e }) ∧
      e = { s.eventTaken.engine with
        cards := e.cards,
        ring := s.engine.ring.map fun x => if x.cardSlot = slot then { x with closedMark := true } else x } ∧
      e.card slot = (p.taking r.body).unreserve r.body ∧ ∀ j, j ≠ slot → e.card j = s.engine.card j := by
  have named : r.body.cardSlot = some slot := by rw [body]; rfl
  have alone : r.body.sponsor = none := by rw [body]; rfl
  have fresh : p = (refresh slot s.eventTaken).engine.card slot :=
    purse.trans (congrArg (Table.get CardPurse.free slot) (refresh_eventTaken_cards slot s)).symm
  have totals : s.eventTaken.engine.totals.add r = s.eventTaken.engine.totals := by rw [Totals.add, body]
  have marked : markClosed r.body (s.eventTaken.officeTaken r) = { s with engine := { s.eventTaken.engine with
      cards := (s.eventTaken.officeTaken r).engine.cards,
      ring := s.engine.ring.map fun x => if x.cardSlot = slot then { x with closedMark := true } else x } } := by
    rw [markClosed_closePurse body, State.officeTaken_eq (s := s.eventTaken) named alone, totals]
    rfl
  have reply : officeReply r (refresh slot s.eventTaken) (markClosed r.body (s.eventTaken.officeTaken r)) =
      beBytes 4 r.sequence ++ (beBytes 2 slot ++ beBytes 2 p.allowanceRemaining) := by
    rw [officeReply, body, fresh]
  refine ⟨(markClosed r.body (s.eventTaken.officeTaken r)).engine, ?_, ?_, ?_, fun j other => ?_⟩
  · rw [exec_officeRecordDurable_of_hands hands (by rw [body]; rfl), takeOfficeDurable_eq, refreshNamed_of_slot named, reply,
      marked]
  · rw [marked]
  · rw [marked]
    exact State.officeTaken_card (s := s.eventTaken) named canonical fresh
  · rw [marked]
    exact State.officeTaken_card_other (s := s.eventTaken) named other

/-- A durable FUND_SPONSOR record: the sponsor purse and the totals (R94). -/
theorem fundRecord_applied {a : SponsorAfter} {amount : Nat} (hands : s.Hands (.durable r (.request l)))
    (canonical : s.tablesCanonical) (body : r.body = .fund a amount) :
    ∃ e : Engine, exec (.officeRecordDurable r.sequence) s = .next (fillReply l .ok
        (beBytes 4 r.sequence ++ beBytes 4 (e.sponsor a.sponsor).balance) { s with engine := e }) ∧
      e = { s.eventTaken.engine with sponsors := e.sponsors, totals := s.engine.totals.add r } ∧
      e.sponsor a.sponsor = { s.engine.sponsor a.sponsor with
        balance := (s.engine.sponsor a.sponsor).balance + amount,
        pendingRecords := (s.engine.sponsor a.sponsor).pendingRecords - 1 } ∧
      ∀ n, n ≠ a.sponsor → e.sponsor n = s.engine.sponsor n := by
  have paid : (s.eventTaken.officeTaken r) = countRecord r (onNamed (.fund a amount) (CardPurse.unreserve (.fund a amount)) id
      (onNamed (.fund a amount) (CardPurse.taking (.fund a amount)) (SponsorPurse.taking (.fund a amount)) s.eventTaken)) := by
    unfold State.officeTaken
    rw [body]
    rfl
  have canonical' : (onNamed (.fund a amount) (CardPurse.taking (.fund a amount)) (SponsorPurse.taking (.fund a amount))
      s.eventTaken).tablesCanonical := onNamed_tablesCanonical canonical
  have unmarked : markClosed r.body (s.eventTaken.officeTaken r) = s.eventTaken.officeTaken r := by
    rw [body]
    rfl
  have frame : s.eventTaken.officeTaken r = { s with engine := { s.eventTaken.engine with
      sponsors := (s.eventTaken.officeTaken r).engine.sponsors, totals := s.engine.totals.add r } } := by
    rw [paid]
    rfl
  refine ⟨(s.eventTaken.officeTaken r).engine, ?_, congrArg State.engine frame, ?_, fun n other => ?_⟩
  · have engine : ({ s with engine := (s.eventTaken.officeTaken r).engine } : State) = s.eventTaken.officeTaken r := by
      rw [frame]
    rw [exec_officeRecordDurable_of_hands hands (by rw [body]; rfl), takeOfficeDurable_eq, unmarked, engine, officeReply, body]
  · rw [paid]
    refine (onNamed_sponsor_named canonical' rfl).trans ?_
    exact onNamed_sponsor_named (s := s.eventTaken) canonical rfl
  · have unnamed : (RecordBody.fund a amount).sponsor ≠ some n := fun same => other (Option.some.inj same).symm
    rw [paid]
    refine (onNamed_sponsor_other (fc := CardPurse.unreserve (.fund a amount)) unnamed).trans ?_
    exact onNamed_sponsor_other (fc := CardPurse.taking (.fund a amount)) unnamed

end

/-- Settles O43: the effect, the reservation and the totals of each kind of office record. -/
theorem officeRecordDurableApplies : Obligations.officeRecordDurableApplies := by
  unfold Obligations.officeRecordDurableApplies
  intro s r l slot amount c a p e0 only hands canonical purse e0_eq only_iff
  subst e0_eq
  refine ⟨fun body => ?_, fun body => ?_, fun body => ?_, fun body => ?_, fun body free => ?_, fun body => ?_, fun body => ?_⟩
  · exact officeRecord_told hands canonical purse only_iff body rfl rfl rfl (fun _ => rfl) rfl (by rw [Totals.add, body]; rfl)
      fun _ _ card => by rw [officeReply, body]; simp only [card]
  · exact officeRecord_told hands canonical purse only_iff body rfl rfl rfl (fun _ => rfl) rfl (by rw [Totals.add, body]; rfl)
      fun _ _ card => by rw [officeReply, body]; simp only [card]
  · exact officeRecord_told hands canonical purse only_iff body rfl rfl rfl (fun _ => rfl) rfl (by rw [Totals.add, body])
      fun _ _ card => by rw [officeReply, body]; simp only [card]; rfl
  · exact officeRecord_told hands canonical purse only_iff body rfl rfl rfl (fun _ => rfl) rfl (by rw [Totals.add, body])
      fun _ _ card => by rw [officeReply, body]; simp only [card]; rfl
  · exact officeRecord_told hands canonical purse only_iff body rfl rfl rfl (fun _ => rfl) rfl (by rw [Totals.add, body])
      fun _ _ _ => by rw [officeReply, body]
  · obtain ⟨e, answer, engine, card, others⟩ := closeRecord_applied hands canonical purse body
    rw [body] at card
    exact ⟨e, answer, engine, (only_iff _ _).mpr ⟨card, others⟩⟩
  · obtain ⟨e, answer, engine, sponsor, others⟩ := fundRecord_applied hands canonical body
    rw [sponsor] at answer
    rw [Totals.add, body] at engine
    exact ⟨e, answer, engine, sponsor, others⟩

end Sys2Proof.Machine
end

section
/-! PROOF. The start of a close: the clock of day and its schedule (R101, R104), and CLOSE_PERIOD (R107, R108, R110, R112). -/

namespace Sys2Proof.Machine

/-! ## A close starts (R108, R110, R112) -/

section
variable {origin : Origin} {s : State}

/-- With holds open the close freezes, and the drain timer runs. -/
theorem startClose_held (held : s.period.holdCount ≠ 0) : startClose origin s = { s with period := { s.period with
    state := .freezing, origin := some origin,
    drainTimer := .running (s.now + BitVec.ofNat 32 (10 * s.period.drainLimit)) } } := by
  unfold startClose
  exact if_neg held

/-- A close of this origin freezing, the drain timer running. -/
def State.freezing (origin : Origin) (s : State) : State :=
  { s with period := { s.period with
    state := .freezing, origin := some origin,
    drainTimer := .running (s.now + BitVec.ofNat 32 (10 * s.period.drainLimit)) } }

theorem startClose_empty (empty : s.period.holdCount = 0) : startClose origin s = completeDrain (s.freezing origin) := by
  unfold startClose
  exact if_pos empty

/-- With no hold open the record of the close is queued at once. -/
theorem startClose_ok {lane : Lane} (empty : s.period.holdCount = 0) (ok : s.journal.store = .ok)
    (from_lane : originLane origin = lane) : startClose origin s = { s with
      period := { s.period with state := .closeWrite, origin := some origin, drainTimer := .stopped },
      journal := { s.journal with
        nextSeq := s.journal.nextSeq + 1,
        queue := (s.journal.queue ++
          [{ record :=
              { sequence := s.journal.nextSeq, lane := lane,
                period := if s.period.number = 4294967295 then 1 else s.period.number + 1,
                body := .periodClose origin s.period.clock s.closeFigures },
             owner := .periodControl, writing := false }]) } } := by
  subst from_lane
  rw [startClose_empty empty, completeDrain_ok (s := s.freezing origin) ok]
  rfl

theorem startClose_fault (empty : s.period.holdCount = 0) (fault : s.journal.store = .fault) : startClose origin s =
    raiseFlag .closeFailed { s with
      period := { s.period with state := .opened, origin := none, drainTimer := .stopped } } := by
  rw [startClose_empty empty, completeDrain_fault (s := s.freezing origin) fault]
  rfl

end

/-! ## The clock of day (R101, R104) -/

section
variable {s : State} {c : Nat} {k : Fin 6} {time : Nat}

theorem exec_clockAdvance_due (released : s.restore.inReset = false) (set : s.period.clock = some c)
    (due : 0 < s.period.clockDue) : exec .clockAdvance s = .next (advanceClock c s) := by
  have arm : exec .clockAdvance s = execClockAdvance s := rfl
  rw [arm, execClockAdvance, event_of_released released]
  simp only [set]
  rw [if_neg (by omega)]

theorem scheduleMatch_eq_some {schedule : Vector ScheduleEntry 6} : scheduleMatch schedule time = some k ↔
    (schedule[k].enabled = true ∧ schedule[k].time = time) ∧
      ∀ j : Fin 6, j < k → ¬ (schedule[j].enabled = true ∧ schedule[j].time = time) := by
  rw [scheduleMatch, List.find?_eq_findSome?_guard, findSome?_finRange]
  simp [Option.guard_eq_some_iff]

theorem scheduleMatch_eq_none {schedule : Vector ScheduleEntry 6} : scheduleMatch schedule time = none ↔
    ∀ k : Fin 6, schedule[k].enabled = true → schedule[k].time ≠ time := by
  simp [scheduleMatch, List.find?_eq_none]

/-- The clock of day one second on, and the advance taken. -/
def State.secondPassed (d : Nat) (s : State) : State :=
  { s with period := { s.period with clock := some d, clockDue := s.period.clockDue - 1 } }

theorem advanceClock_quiet (quiet : (∀ k : Fin 6, s.period.schedule[k].enabled = true →
      s.period.schedule[k].time ≠ nextSecond c) ∨ s.period.state ≠ .opened) :
    advanceClock c s = s.secondPassed (nextSecond c) := by
  unfold advanceClock
  dsimp only
  split
  next k matched =>
    have found := (scheduleMatch_eq_some.mp matched).1
    exact if_neg (quiet.resolve_left fun none => none k found.1 found.2)
  next => rfl

theorem advanceClock_match (opened : s.period.state = .opened)
    (matched : scheduleMatch s.period.schedule (nextSecond c) = some k) :
    advanceClock c s = startClose (.schedule k.val) (s.secondPassed (nextSecond c)) := by
  unfold advanceClock
  dsimp only
  split
  next j found =>
    obtain rfl : k = j := Option.some.inj (matched.symm.trans found)
    exact if_pos opened
  next none => cases matched.symm.trans none

end

/-- Settles O44: the clock one second on, then the close by `startClose`. -/
theorem clockAdvances : Obligations.clockAdvances := by
  unfold Obligations.clockAdvances
  intro s c d released set due second
  obtain rfl : d = nextSecond c := second
  rw [exec_clockAdvance_due released set due]
  refine ⟨fun quiet => ?_, fun k opened enabled time first => ?_⟩
  · exact congrArg _ (advanceClock_quiet quiet)
  · rw [advanceClock_match opened (scheduleMatch_eq_some.mpr ⟨⟨enabled, time⟩, first⟩)]
    exact ⟨fun held => congrArg _ (startClose_held (s := s.secondPassed _) held),
      fun empty ok => congrArg _ (startClose_ok (s := s.secondPassed _) empty ok rfl),
      fun empty fault => congrArg _ (startClose_fault (s := s.secondPassed _) empty fault)⟩

/-! ## CLOSE_PERIOD (R107) -/

theorem exec_closePeriod {l : Lane} {s : State} (asks : s.AsksReady (.closePeriod l)) :
    exec (.closePeriod l) s = .next (controlClosePeriod l s.taken) := readyRequest_of_asks asks

theorem controlClosePeriod_opened {l : Lane} {s : State} (opened : s.period.state = .opened) : controlClosePeriod l s =
    fillReply l .ok (closeBody s (startClose (.lane l) s)) (startClose (.lane l) s) := by
  unfold controlClosePeriod
  exact if_neg (not_not.mpr opened)

/-- Settles O45: CLOSE_PERIOD starts a close in OPEN, and tells what started. -/
theorem closePeriodStarts : Obligations.closePeriodStarts := by
  unfold Obligations.closePeriodStarts
  intro l s asks
  rw [exec_closePeriod asks]
  refine ⟨fun opened held => ?_, fun opened empty ok => ?_, fun opened empty fault => ?_, fun closing => ?_⟩
  · rw [controlClosePeriod_opened (s := s.taken) opened, startClose_held (s := s.taken) held]
    rfl
  · rw [controlClosePeriod_opened (s := s.taken) opened, startClose_ok (s := s.taken) empty ok rfl, closeBody]
    simp only [State.taken_period, empty]
    rfl
  · rw [controlClosePeriod_opened (s := s.taken) opened, startClose_fault (s := s.taken) empty fault, closeBody,
      raiseFlag_period]
    simp only [State.taken_period, empty]
    rfl
  · exact congrArg _ (if_pos closing)

end Sys2Proof.Machine
end

section
/-! PROOF. The forced drain (R114 to R116): the walk over the lane lists, what it tells the lanes, its flag and its one report. -/

namespace Sys2Proof.Machine

/-! ## One hold of the drain walk -/

section
variable {x k : Nat} {s : State}

theorem drainHold_live (live : s.engine.resolve x = .live) : drainHold x s = endHoldQuietly (x % 512) .drained s := by
  simp [drainHold, live, handleSlot]

theorem drainHold_settling (settling : s.engine.resolve x = .settling) :
    drainHold x s = markHold (x % 512) .drained (refresh (s.engine.hold (x % 512)).cardSlot s) := by
  simp [drainHold, settling, handleSlot]

theorem drainHold_gone (gone : s.engine.resolve x = .stale ∨ s.engine.resolve x = .ended) : drainHold x s = s := by
  obtain stale | ended := gone
  · simp [drainHold, stale]
  · simp [drainHold, ended]

theorem endHoldQuietly_eq (k : Nat) (reason : EndReason) (s : State) :
    endHoldQuietly k reason s = noticeEnding k reason (s.detach k reason) := rfl

/-- An ending without its report leaves Period Control and the journal alone. -/
theorem drainHold_blocks (x : Nat) (s : State) :
    (drainHold x s).period = s.period ∧ (drainHold x s).journal = s.journal := by
  cases resolved : s.engine.resolve x with
  | live =>
    rw [drainHold_live resolved, endHoldQuietly_eq, noticeEnding_period, noticeEnding_journal, State.detach_eq]
    exact ⟨rfl, rfl⟩
  | settling => simp [drainHold_settling resolved]
  | stale => rw [drainHold_gone (.inl resolved)]; exact ⟨rfl, rfl⟩
  | ended => rw [drainHold_gone (.inr resolved)]; exact ⟨rfl, rfl⟩

theorem drainHold_walkStep (x : Nat) (s : State) : State.WalkStep .drained .drained x s (drainHold x s) where
  number := by rw [(drainHold_blocks x s).1]
  live live := by
    rw [drainHold_live live, endHoldQuietly_eq, noticeEnding_engine, noticeEnding_deadlines]
    exact ⟨rfl, rfl⟩
  settling settling := by
    rw [drainHold_settling settling, markHold_engine]
    simp
  gone gone := by
    rw [drainHold_gone gone]
    exact ⟨rfl, rfl⟩

theorem drainHold_frame (x : Nat) (s : State) : s.HoldFrame (drainHold x s) := by
  cases resolved : s.engine.resolve x with
  | live =>
    rw [drainHold_live resolved, endHoldQuietly_eq]
    refine (State.detach_frame (x % 512) .drained s).trans ?_
    constructor <;> simp [State.now, noticeEnding_lanes]
  | settling =>
    rw [drainHold_settling resolved]
    constructor
    case engine => rw [markHold_engine, refresh_engine]; rfl
    all_goals simp [State.now]
  | stale => rw [drainHold_gone (.inl resolved)]; exact .refl s
  | ended => rw [drainHold_gone (.inr resolved)]; exact .refl s

/-- A LIVE hold drained tells its lane; nothing else does. -/
theorem drainHold_notices_live (canonical : s.tablesCanonical) (live : s.engine.resolve x = .live) :
    (drainHold x s).notices = s.tells (s.engine.hold (x % 512)).lane (.holdDrained x
      (s.engine.card (s.engine.hold (x % 512)).cardSlot).cardNumber s.now) s.notices := by
  have frame := State.detach_frame (x % 512) .drained s
  have same : (s.detach (x % 512) .drained).engine.hold (x % 512) = (s.engine.hold (x % 512)).ended .drained :=
    State.detach_hold_same canonical
  have card : (s.engine.card (s.engine.hold (x % 512)).cardSlot).cardNumber =
      ((s.detach (x % 512) .drained).engine.card (s.engine.hold (x % 512)).cardSlot).cardNumber := by
    rw [State.detach_card_same canonical]
    simp only [CardPurse.released, CardPurse.inPeriod]
    split <;> rfl
  have handle : x = handleOf (s.engine.hold (x % 512)).generation (x % 512) :=
    (Engine.handleOf_named (by simp [live])).symm
  rw [drainHold_live live, endHoldQuietly_eq,
    noticeEnding_notices (handle := x) (card := (s.engine.card (s.engine.hold (x % 512)).cardSlot).cardNumber)
      (lane := (s.engine.hold (x % 512)).lane) (by rw [same]; exact handle) (by rw [same]; exact card)
      (by rw [same, Hold.ended]), frame.now]
  have notices : (s.detach (x % 512) .drained).notices = s.notices := by rw [State.detach_eq]
  rw [notices]
  exact State.tells_congr frame.lanes ..

theorem drainHold_notices_other (other : s.engine.resolve x ≠ .live) : (drainHold x s).notices = s.notices := by
  cases resolved : s.engine.resolve x with
  | live => exact absurd resolved other
  | settling => simp [drainHold_settling resolved]
  | stale => rw [drainHold_gone (.inl resolved)]
  | ended => rw [drainHold_gone (.inr resolved)]

end

/-! ## The whole walk -/

section
variable {s : State}

theorem walk_drainHold_frame (handles : List Nat) (s : State) : s.HoldFrame (walk drainHold handles s) :=
  walk_induction (P := fun _ t => s.HoldFrame t) (.refl s) (fun _ x frame => frame.trans (drainHold_frame x _)) handles

theorem walk_drainHold_blocks (handles : List Nat) (s : State) :
    (walk drainHold handles s).period = s.period ∧ (walk drainHold handles s).journal = s.journal :=
  walk_induction (P := fun _ t => t.period = s.period ∧ t.journal = s.journal) ⟨rfl, rfl⟩
    (fun _ x ih => ⟨(drainHold_blocks x _).1.trans ih.1, (drainHold_blocks x _).2.trans ih.2⟩) handles

theorem CardPurse.cardNumber_inPeriod (period : Nat) (m : Vector RangeEntry 8) (p : CardPurse) :
    (p.inPeriod period m).cardNumber = p.cardNumber := by
  unfold CardPurse.inPeriod
  split <;> rfl

/-- A step of a walk changes no card number. -/
theorem State.WalkStep.cardNumber {reason : EndReason} {mark : EndMark} {x : Nat} {t : State}
    (step : State.WalkStep reason mark x s t) (canonical : s.tablesCanonical) (slot : Nat) :
    (t.engine.card slot).cardNumber = (s.engine.card slot).cardNumber := by
  by_cases touched : (s.engine.resolve x = .live ∨ s.engine.resolve x = .settling) ∧
      (s.engine.hold (x % 512)).cardSlot = slot
  · obtain ⟨is_open, rfl⟩ := touched
    rw [step.card_touched canonical is_open]
    exact CardPurse.cardNumber_inPeriod ..
  · rw [step.card_untouched fun is_open at_slot => touched ⟨is_open, at_slot⟩]

theorem walk_drainHold_cardNumber (canonical : s.tablesCanonical) (handles : List Nat) (slot : Nat) :
    ((walk drainHold handles s).engine.card slot).cardNumber = (s.engine.card slot).cardNumber :=
  walk_induction (P := fun _ t => (t.engine.card slot).cardNumber = (s.engine.card slot).cardNumber) rfl
    (fun xs x ih => ((drainHold_walkStep x _).cardNumber (walk_canonical drainHold_walkStep canonical xs) slot).trans ih)
    handles

/-- What the drain walk tells the lanes: HOLD_DRAINED for each hold it ends, in the order of the walk. -/
theorem walk_drainHold_notices (canonical : s.tablesCanonical) {handles : List Nat} (once : handles.Nodup) :
    (walk drainHold handles s).notices = (s.engine.liveOf handles).foldl (fun n x =>
      s.tells (s.engine.hold (x % 512)).lane (.holdDrained x
        (s.engine.card (s.engine.hold (x % 512)).cardSlot).cardNumber s.now) n) s.notices := by
  refine walk_induction_nodup (P := fun xs t => t.notices = (s.engine.liveOf xs).foldl (fun n x =>
    s.tells (s.engine.hold (x % 512)).lane (.holdDrained x
      (s.engine.card (s.engine.hold (x % 512)).cardSlot).cardNumber s.now) n) s.notices) rfl ?_ once
  intro xs x ahead ih
  have frame := walk_drainHold_frame xs s
  have resolved := walk_resolve_ahead drainHold_walkStep canonical ahead
  rw [Engine.liveOf_append]
  by_cases live : s.engine.resolve x = .live
  · rw [drainHold_notices_live (walk_canonical drainHold_walkStep canonical xs) (resolved.trans live),
      walk_hold_ahead drainHold_walkStep canonical ahead (Engine.names_of_resolve (by simp [live])),
      walk_drainHold_cardNumber canonical, State.tells_congr frame.lanes, frame.now, ih, Engine.liveOf_live live,
      List.foldl_append]
    rfl
  · rw [drainHold_notices_other (resolved.trans_ne live), ih, Engine.liveOf_notLive live, List.append_nil]

/-- The walk acts on this handle: a LIVE hold, or a SETTLING one without a mark. -/
theorem Engine.drainActs_iff {e : Engine} {x : Nat} : e.drainActs x = true ↔
    e.resolve x = .live ∨ e.resolve x = .settling ∧ (e.hold (x % 512)).endMark = .unmarked := by
  unfold Engine.drainActs
  cases e.resolve x with
  | live => simp
  | settling => simp only [reduceCtorEq, false_or, true_and]; exact ⟨of_decide_eq_true, decide_eq_true⟩
  | stale => simp
  | ended => simp

theorem drainOrder_eq (e : Engine) : e.drainOrder = e.laneHolds[0] ++ e.laneHolds[1] ++ e.laneHolds[2] ++ e.laneHolds[3] ++
    e.laneHolds[4] ++ e.laneHolds[5] ++ e.laneHolds[6] ++ e.laneHolds[7] := by
  rw [Engine.drainOrder, toList_eight]
  simp [List.append_assoc]

theorem mem_drainOrder {e : Engine} {l : Lane} {x : Nat} (mem : x ∈ e.laneHolds[l]) : x ∈ e.drainOrder :=
  List.mem_flatten.mpr ⟨_, Vector.mem_toList_iff.mpr (Vector.getElem_mem l.isLt), mem⟩

/-- The state after the walk and its flag, before the report. -/
def State.drained (s : State) : State :=
  if s.engine.drainOrder.any s.engine.drainActs then raiseFlag .holdsDrained (walk drainHold s.engine.drainOrder s)
  else walk drainHold s.engine.drainOrder s

theorem drainWalk_eq : drainWalk s = reportHolds s.drained := rfl

theorem State.drained_of_acts (acts : s.engine.drainOrder.any s.engine.drainActs = true) :
    s.drained = raiseFlag .holdsDrained (walk drainHold s.engine.drainOrder s) := if_pos acts

theorem State.drained_of_idle (idle : s.engine.drainOrder.any s.engine.drainActs = false) :
    s.drained = walk drainHold s.engine.drainOrder s := if_neg (by simp [idle])

theorem any_drainActs_iff {e : Engine} {handles : List Nat} : handles.any e.drainActs = true ↔
    e.liveOf handles ≠ [] ∨
      ∃ x ∈ handles, e.resolve x = .settling ∧ (e.hold (x % 512)).endMark = .unmarked := by
  rw [List.any_eq_true, Engine.liveOf, Ne, List.filter_eq_nil_iff]
  simp only [Engine.drainActs_iff, decide_eq_true_eq, not_forall, not_not]
  constructor
  · rintro ⟨x, mem, live | settling⟩
    · exact .inl ⟨x, mem, live⟩
    · exact .inr ⟨x, mem, settling⟩
  · rintro (⟨x, mem, live⟩ | ⟨x, mem, settling⟩)
    · exact ⟨x, mem, .inl live⟩
    · exact ⟨x, mem, .inr settling⟩

/-- A walk is judged by the engine and the deadline list it leaves. -/
theorem State.Walks.of_same {handles : List Nat} {reason : EndReason} {mark : EndMark} {t u : State}
    (walks : s.Walks handles reason mark t) (engine : u.engine = t.engine) (deadlines : u.deadlines = t.deadlines) :
    s.Walks handles reason mark u := by
  simpa only [State.Walks, engine, deadlines] using walks

theorem State.drained_engine : s.drained.engine = (walk drainHold s.engine.drainOrder s).engine := by
  unfold State.drained
  split
  · exact raiseFlag_engine ..
  · rfl

theorem State.drained_frame : s.HoldFrame s.drained := by
  refine (walk_drainHold_frame s.engine.drainOrder s).trans ?_
  unfold State.drained
  split
  · constructor <;> simp [State.now]
  · exact .refl _

theorem State.drained_blocks : s.drained.period = s.period ∧ s.drained.journal = s.journal := by
  unfold State.drained
  split
  · rw [raiseFlag_period, raiseFlag_journal]
    exact walk_drainHold_blocks ..
  · exact walk_drainHold_blocks ..

theorem State.drained_deadlines : s.drained.deadlines = (walk drainHold s.engine.drainOrder s).deadlines := by
  unfold State.drained
  split
  · exact raiseFlag_deadlines ..
  · rfl

end

/-! ## The drain event (R115, R116) -/

/-- A report reaches Period Control, the journal and the notices alone. -/
theorem reportHolds_blocks (s : State) : reportHolds s = { s with
    period := (reportHolds s).period, journal := (reportHolds s).journal, notices := (reportHolds s).notices } := by
  have blocks := (reportHolds_frame s).blocks
  rwa [reportHolds_engine, reportHolds_deadlines] at blocks

/-- A report sets no flag but CLOSE_FAILED. -/
theorem reportHolds_flag {c : EventClass} (other : c ≠ .closeFailed) (s : State) :
    (reportHolds s).notices.flag c = s.notices.flag c := by
  obtain ⟨stays, completes, fails⟩ := reportHolds_reports s
  by_cases drains : s.period.state = .freezing ∧ s.engine.openHolds = 0
  · cases store : s.journal.store with
    | ok => rw [(completes drains.1 drains.2 store).2.1]
    | fault => rw [(fails drains.1 drains.2 store).2.2, raiseFlag_flag_other other]
  · rw [(stays (by tauto)).2.2]

/-- In FREEZING a report of no hold left ends the drain, and any other leaves it running (R110, R112). -/
theorem reportHolds_freezing {s : State} (freezing : s.period.state = .freezing) :
    (s.engine.openHolds = 0 →
      (reportHolds s).period.state = if s.journal.store = .ok then .closeWrite else .opened) ∧
    (s.engine.openHolds ≠ 0 → (reportHolds s).period.state = .freezing) := by
  obtain ⟨stays, completes, fails⟩ := reportHolds_reports s
  refine ⟨fun empty => ?_, fun held => ?_⟩
  · cases store : s.journal.store with
    | ok => rw [(completes freezing empty store).1]; rfl
    | fault => rw [(fails freezing empty store).1]; rfl
  · rw [(stays (.inr held)).1]
    exact freezing

section
variable {s : State}

/-- The engine has taken a drain event. -/
def State.drainTaken (s : State) : State :=
  { s with engine := { s.engine with drains := s.engine.drains - 1 } }

theorem State.Walks.of_drainTaken {t : State} {handles : List Nat} {reason : EndReason} {mark : EndMark}
    (walks : s.drainTaken.Walks handles reason mark t) : s.Walks handles reason mark t := by
  intro ended touched h hold ended_eq touched_eq
  have card : ∀ slot, (refresh slot s.drainTaken).engine.card slot = (refresh slot s).engine.card slot := fun slot =>
    congrArg (Table.get CardPurse.free slot) (refresh_cards_congr slot rfl rfl rfl)
  have all := walks ended touched h hold ended_eq touched_eq
  simp only [card] at all
  exact all

theorem exec_drainEvent_eq (released : s.restore.inReset = false) (sent : 0 < s.engine.drains) :
    exec .drainEvent s = .next (if s.drainsThisClose then drainWalk s.drainTaken else reportHolds s.drainTaken) := by
  have arm : exec .drainEvent s = execDrainEvent s := rfl
  rw [arm, execDrainEvent, event_of_released released, if_neg (by omega)]
  rfl

theorem exec_drainTimerExpiry_due {e : Tick} (released : s.restore.inReset = false) (due : s.period.drainTimer = .due e) :
    exec .drainTimerExpiry s = .next { s with
      period := { s.period with drainTimer := .stopped },
      engine := { s.engine with drains := s.engine.drains + 1 } } := by
  have arm : exec .drainTimerExpiry s = execDrainTimerExpiry s := rfl
  rw [arm, execDrainTimerExpiry, event_of_released released, due]
  rfl

end

/-- Settles O46: the walk by `walk_walks` and `walk_drainHold_notices`, then the flag and the one report. -/
theorem drainForced : Obligations.drainForced := by
  unfold Obligations.drainForced
  refine fun s released => ⟨fun e due => exec_drainTimerExpiry_due released due, fun sent late => ?_,
    fun one freezing stopped canonical => ?_⟩
  · have not_own : s.drainsThisClose = false := by
      simp only [State.drainsThisClose, Bool.and_eq_false_iff, decide_eq_false_iff_not]
      tauto
    refine ⟨reportHolds s.drainTaken, by rw [exec_drainEvent_eq released sent, not_own]; rfl, ?_, ?_⟩
    · exact reportHolds_blocks s.drainTaken
    · exact (reportHolds_reports s.drainTaken).of_frame (c := s.period.holdCount) ⟨rfl, rfl, rfl, rfl, rfl⟩ rfl rfl rfl
  · have own : s.drainsThisClose = true := by simp [State.drainsThisClose, one, freezing, stopped]
    have frame := State.drained_frame (s := s.drainTaken)
    obtain ⟨period, journal⟩ := State.drained_blocks (s := s.drainTaken)
    have report := reportHolds_reports s.drainTaken.drained
    have engine : (drainWalk s.drainTaken).engine = (walk drainHold s.engine.drainOrder s.drainTaken).engine :=
      (reportHolds_engine _).trans State.drained_engine
    refine ⟨drainWalk s.drainTaken, by rw [exec_drainEvent_eq released (by omega), own]; rfl, ?_, ?_, ?_, ?_, ?_, ?_, ?_, ?_, ?_⟩
    · exact (frame.trans (reportHolds_frame _)).blocks
    · refine (frame.trans (reportHolds_frame _)).engine.trans ?_
      rw [State.drainTaken, one]
      rfl
    · rw [drainWalk_eq, reportHolds_count, reportHolds_engine]
    · rw [drainWalk_eq, reportHolds_number, period]
      rfl
    · intro empty
      rw [drainWalk_eq, reportHolds_engine] at empty
      rw [drainWalk_eq, (reportHolds_freezing (by rw [period]; exact freezing)).1 empty, journal]
      rfl
    · intro held
      rw [drainWalk_eq, reportHolds_engine] at held
      rw [drainWalk_eq, (reportHolds_freezing (by rw [period]; exact freezing)).2 held]
    · intro l x mem live
      have listed : x ∈ s.engine.drainOrder := mem_drainOrder mem
      have walked := (walk_hold drainHold_walkStep (s := s.drainTaken) canonical s.engine.drainOrder (x % 512)).1
        ⟨x, listed, Engine.names_of_resolve (e := s.engine) (by simp [live])⟩
      have live_state : (s.engine.hold (x % 512)).state = .live := ((Engine.resolve_eq_live _ _).mp live).2
      rw [engine, walked, Hold.walked_live (h := s.drainTaken.engine.hold (x % 512)) live_state]
      have acts : s.engine.drainOrder.any s.engine.drainActs = true :=
        List.any_eq_true.mpr ⟨x, listed, Engine.drainActs_iff.mpr (.inl live)⟩
      refine ⟨rfl, rfl, ?_⟩
      rw [drainWalk_eq, reportHolds_flag (by decide), State.drained_of_acts (s := s.drainTaken) acts]
      exact raiseFlag_flag ..
    · intro l x mem settling
      have listed : x ∈ s.engine.drainOrder := mem_drainOrder mem
      have walked := (walk_hold drainHold_walkStep (s := s.drainTaken) canonical s.engine.drainOrder (x % 512)).1
        ⟨x, listed, Engine.names_of_resolve (e := s.engine) (by simp [settling])⟩
      have settling_state : (s.engine.hold (x % 512)).state = .settling := ((Engine.resolve_eq_settling _ _).mp settling).2
      rw [engine, walked, Hold.walked_settling (h := s.drainTaken.engine.hold (x % 512)) settling_state]
      rfl
    · intro handles ended acts told flagged h handles_eq once hold ended_eq acts_iff told_eq flag_set flag_clear
      rw [← drainOrder_eq] at handles_eq
      subst handles_eq ended_eq told_eq
      obtain rfl : h = fun x => s.engine.hold (x % 512) := funext hold
      have walks := walk_walks drainHold_walkStep (s := s.drainTaken) canonical once
      have notices := walk_drainHold_notices (s := s.drainTaken) canonical once
      have acts_iff' : acts ↔ s.engine.drainOrder.any s.engine.drainActs = true := by
        rw [acts_iff, any_drainActs_iff]
        rfl
      have flagged_eq : s.drainTaken.drained.notices = flagged := by
        by_cases act : acts
        · rw [flag_set act, State.drained_of_acts (s := s.drainTaken) (acts_iff'.mp act)]
          exact raiseFlag_notices_congr _ (walk_drainHold_frame _ s.drainTaken).lanes notices
            (walk_drainHold_frame _ s.drainTaken).now
        · rw [flag_clear act, State.drained_of_idle (s := s.drainTaken) (Bool.eq_false_iff.mpr (mt acts_iff'.mpr act))]
          exact notices
      refine ⟨State.Walks.of_drainTaken (walks.of_same engine ?_), ?_⟩
      · rw [drainWalk_eq, reportHolds_deadlines, State.drained_deadlines]
        rfl
      · have from_s : ({ s with notices := flagged } : State).ReportFrame s.drainTaken.drained :=
          ⟨frame.lanes, frame.now, frame.reportFrame.journalEvents, frame.reportFrame.totals, frame.reportFrame.partialMark⟩
        have count : (drainWalk s.drainTaken).engine.openHolds = s.drainTaken.drained.engine.openHolds := by
          rw [drainWalk_eq, reportHolds_engine]
        rw [count]
        exact report.of_frame from_s (c := s.period.holdCount) period journal flagged_eq

end Sys2Proof.Machine
end

section
/-! PROOF. The requests that wait for the store (R140, R141, R143, R144), and the grant of the store port (R130, R139, R142, R185,
R197). -/

namespace Sys2Proof.Machine

/-! ## Requests that wait -/

section
variable {l : Lane} {n : Nat} {s : State}

theorem exec_sync (asks : s.AsksReady (.sync l)) : exec (.sync l) s = .next (journalSync l s.taken) :=
  readyRequest_of_asks asks
theorem exec_readJournal (asks : s.AsksReady (.readJournal l n)) :
    exec (.readJournal l n) s = .next (journalReadJournal l n s.taken) := readyRequest_of_asks asks
theorem exec_retryStore (asks : s.AsksReady (.retryStore l)) :
    exec (.retryStore l) s = .next (journalRetryStore l s.taken) := readyRequest_of_asks asks

theorem State.inRing_iff : s.inRing n = true ↔ n ≤ s.journal.lastDurable ∧ s.journal.lastDurable ≤ n + 8191 ∧ 1 ≤ n ∧
    s.restore.ringBase ≤ n := by
  simp only [State.inRing, Bool.and_eq_true, decide_eq_true_eq, and_assoc]
  omega

theorem journalReadJournal_inRing (inside : s.inRing n = true) : journalReadJournal l n s =
    { s with journal := { s.journal with reads := s.journal.reads ++ [⟨l, n, false⟩] } } := if_pos inside

theorem journalReadJournal_outside (outside : ¬ s.inRing n = true) : journalReadJournal l n s = refuse l .outOfRange s :=
  if_neg outside

theorem journalRetryStore_ok (ok : s.journal.store = .ok) : journalRetryStore l s = refuse l .ok s :=
  if_pos (decide_eq_true ok)

theorem journalRetryStore_fault (fault : s.journal.store = .fault) : journalRetryStore l s =
    if 4294967231 ≤ s.journal.lastDurable then refuse l .storeFault s
    else { s with journal := { s.journal with retry := some (s.journal.retry.getD [] ++ [l]) } } := by
  unfold journalRetryStore
  rw [if_neg (by simp [State.storeOk, fault])]
  simp only [JournalUnit.exhausted, decide_eq_true_eq]
  rfl

end

/-- Settles O48: SYNC, READ_JOURNAL and RETRY_STORE answered at once or left waiting. -/
theorem storeRequestsWait : Obligations.storeRequestsWait := by
  unfold Obligations.storeRequestsWait
  refine fun l s => ⟨fun asks met => ?_, fun asks ahead => ?_, fun n asks le near pos base => ?_, fun n asks outside => ?_,
    fun asks ok => ?_, fun asks fault room => ?_, fun asks fault full => ?_⟩
  · rw [exec_sync asks]
    exact congrArg _ (if_pos met)
  · rw [exec_sync asks]
    exact congrArg _ (if_neg (Nat.not_le.mpr ahead))
  · rw [exec_readJournal asks]
    exact congrArg _ (journalReadJournal_inRing (s := s.taken) (State.inRing_iff.mpr ⟨le, near, pos, base⟩))
  · rw [exec_readJournal asks]
    refine congrArg _ (journalReadJournal_outside (s := s.taken) fun inside => ?_)
    obtain ⟨le, near, pos, base⟩ := (State.inRing_iff (s := s)).mp inside
    omega
  · rw [exec_retryStore asks]
    exact congrArg _ (journalRetryStore_ok (s := s.taken) ok)
  · rw [exec_retryStore asks]
    exact congrArg _ ((journalRetryStore_fault (s := s.taken) fault).trans (if_neg (Nat.not_le.mpr room)))
  · rw [exec_retryStore asks]
    exact congrArg _ ((journalRetryStore_fault (s := s.taken) fault).trans (if_pos full))

/-! ## The port granted -/

section
variable {s : State}

theorem exec_storePortGrant_free (released : s.restore.inReset = false) (free : s.journal.port = none) :
    exec .storePortGrant s = .next (grantPort s) := by
  have arm : exec .storePortGrant s = execStorePortGrant s := rfl
  rw [arm, execStorePortGrant, event_of_released released, free]

theorem grantPort_ok (ready : s.restore.part = .ready) (ok : s.journal.store = .ok) : grantPort s = grantOk s := by
  rw [grantPort, ready]
  exact if_pos (decide_eq_true ok)

theorem grantPort_fault (ready : s.restore.part = .ready) (fault : s.journal.store = .fault) :
    grantPort s = grantFault s := by
  rw [grantPort, ready]
  exact if_neg (by simp [State.storeOk, fault])

theorem grantPort_formatting (formatting : s.restore.part = .formatting) :
    grantPort s = if s.journal.exhaustionDue then s else startFormat s := by
  rw [grantPort, formatting]

theorem grantWaitingRead_some {w : ReadWait} {rest : List ReadWait} (reads : s.journal.reads = w :: rest) :
    grantWaitingRead s = { s with journal := { s.journal with
      reads := rest, port := some ⟨.journalRead w.lane w.sequence 0 w.voided, none⟩ } } := by
  rw [grantWaitingRead, reads]
  rfl

theorem grantWaitingRead_none (reads : s.journal.reads = []) : grantWaitingRead s = s := by
  rw [grantWaitingRead, reads]

theorem grantOk_stale {k : Nat} {rest : List Nat} (due : s.journal.exhaustionDue = false)
    (stale : s.journal.stale = k :: rest) :
    grantOk s = s.Issues (.staleImage k) (imageAddress k) (imageUnit k (staleImageOf k s)) := by
  rw [grantOk, due, if_neg Bool.false_ne_true, stale]
  rfl

theorem grantOk_record {q : QueueEntry} {rest : List QueueEntry} (due : s.journal.exhaustionDue = false)
    (stale : s.journal.stale = []) (queue : s.journal.queue = q :: rest) : grantOk s = grantRecord q s := by
  rw [grantOk, due, if_neg Bool.false_ne_true, stale, queue]

theorem grantOk_save {lanes : List Lane} (due : s.journal.exhaustionDue = false) (stale : s.journal.stale = [])
    (queue : s.journal.queue = []) (save : s.journal.save = some lanes) : grantOk s = grantSave lanes s := by
  rw [grantOk, due, if_neg Bool.false_ne_true, stale, queue, save]

theorem grantOk_read (due : s.journal.exhaustionDue = false) (stale : s.journal.stale = [])
    (queue : s.journal.queue = []) (save : s.journal.save = none) : grantOk s = grantWaitingRead s := by
  rw [grantOk, due, if_neg Bool.false_ne_true, stale, queue, save]

theorem grantOk_exhausted (due : s.journal.exhaustionDue = true) : grantOk s = grantWaitingRead s := if_pos due

theorem grantFault_retry {lanes : List Lane} (retry : s.journal.retry = some lanes) :
    grantFault s = { s with journal := { s.journal with port := some ⟨.retryHeader, none⟩ } } := by
  rw [grantFault, retry]
  rfl

theorem grantFault_read (retry : s.journal.retry = none) : grantFault s = grantWaitingRead s := by
  rw [grantFault, retry]

end

/-- Settles O49: the port goes to the first operation that waits, by part state and store state. -/
theorem portGranted : Obligations.portGranted := by
  unfold Obligations.portGranted
  intro s port released free port_eq
  simp only [exec_storePortGrant_free released free, port_eq]
  refine ⟨fun ready ok due => ⟨fun k rest image stale on_card on_sponsor => ?_, fun q rest stale queue => ?_,
      fun lanes stale queue save => ?_, fun w rest stale queue save reads => ?_⟩,
    fun ready ok due => ⟨fun w rest reads => ?_, fun reads => ?_⟩,
    fun ready fault => ⟨fun lanes retry => ?_, fun w rest retry reads => ?_⟩, fun formatting due => ?_,
    fun formatting due => ?_, fun none k c n b => ?_⟩
  · have image_eq : staleImageOf k s = image := by
      unfold staleImageOf
      split
      next card => exact (on_card ((s.engine.isCardSlot_iff k).mp card)).symm
      next sponsor => exact (on_sponsor (Nat.not_lt.mp (mt (s.engine.isCardSlot_iff k).mpr sponsor))).symm
    rw [grantPort_ok ready ok, grantOk_stale due stale, image_eq]
    rfl
  · rw [grantPort_ok ready ok, grantOk_record due stale queue]
    rfl
  · rw [grantPort_ok ready ok, grantOk_save due stale queue save]
    rfl
  · rw [grantPort_ok ready ok, grantOk_read due stale queue save, grantWaitingRead_some reads]
  · rw [grantPort_ok ready ok, grantOk_exhausted due, grantWaitingRead_some reads]
  · rw [grantPort_ok ready ok, grantOk_exhausted due, grantWaitingRead_none reads]
  · rw [grantPort_fault ready fault, grantFault_retry retry]
  · rw [grantPort_fault ready fault, grantFault_read retry, grantWaitingRead_some reads]
  · rw [grantPort_formatting formatting, if_neg (by simp [due])]
    rfl
  · rw [grantPort_formatting formatting, if_pos due]
  · rw [none]
    exact ⟨rfl, rfl⟩

end Sys2Proof.Machine
end

section
/-! PROOF. How a write of the port ends (R123, R197, R207), and what follows a write that succeeds (R125, R130, R132, R133, R139,
R185). -/

namespace Sys2Proof.Machine

/-! ## The same reply to several lanes -/

/-- The replies touch the lanes alone, and depend on nothing else. -/
theorem fillAll_of_lanes {s t : State} (ls : List Lane) (r : Result) (lanes : t.lanes = s.lanes) :
    fillAll ls r t = { t with lanes := (fillAll ls r s).lanes } := by
  induction ls generalizing s t with
  | nil => exact congrArg (fun v => { t with lanes := v }) lanes
  | cons l ls ih =>
    have one : (refuse l r t).lanes = (refuse l r s).lanes := by
      simp only [refuse, fillReply, State.mapLane, lanes]
    rw [fillAll_cons, fillAll_cons, ih one]
    rfl

theorem fillAll_lanes_congr {s t : State} (ls : List Lane) (r : Result) (lanes : t.lanes = s.lanes) :
    (fillAll ls r t).lanes = (fillAll ls r s).lanes := by rw [fillAll_of_lanes ls r lanes]

theorem fillAll_append (ls ls' : List Lane) (r : Result) (s : State) :
    fillAll (ls ++ ls') r s = fillAll ls' r (fillAll ls r s) := List.foldl_append

/-! ## The end of an attempt -/

section
variable {s : State} {op : PortOp} {w : StoreWrite} {status : Byte} {effect : WriteEffect} {answer : StoreAnswer} {c : Instr}

theorem exec_storeWriteComplete_busy (released : s.restore.inReset = false) (busy : status.getLsbD 0 = true) :
    exec (.storeWriteComplete effect ⟨status, answer⟩) s = .next s := by
  have arm : exec (.storeWriteComplete effect ⟨status, answer⟩) s = execStoreWriteComplete effect ⟨status, answer⟩ s := rfl
  rw [arm, execStoreWriteComplete, event_of_released released]
  simp only [writeInProgress, busy, if_true]
  split <;> rfl

theorem exec_storeWriteComplete_done (writes : s.Writes op w) (done : status.getLsbD 0 = false) :
    exec (.storeWriteComplete effect ⟨status, answer⟩) s = .next (writeReported op w effect answer s) := by
  obtain ⟨released, port⟩ := writes
  have arm : exec (.storeWriteComplete effect ⟨status, answer⟩) s = execStoreWriteComplete effect ⟨status, answer⟩ s := rfl
  rw [arm, execStoreWriteComplete, event_of_released released]
  simp only [port, writeInProgress, done, Bool.false_eq_true, if_false]

/-- A write that succeeds leaves its bytes, and its operation goes on. -/
theorem exec_storeWriteComplete_succeeds (writes : s.Writes op w) (succeeds : s.Succeeds w status effect answer) :
    exec (.storeWriteComplete effect ⟨status, answer⟩) s =
      .next (writeSucceeded op { s with memory := writeEffect effect w s.memory }) := by
  obtain ⟨done, in_time, reads⟩ := succeeds
  have not_late : w.late s.now = false := by
    unfold StoreWrite.late
    split
    next limit due => exact decide_eq_false (not_not.mpr (in_time limit due))
    all_goals rfl
  rw [exec_storeWriteComplete_done writes done]
  exact congrArg _ (if_pos ⟨not_late, reads⟩)

/-- An attempt that fails leaves what the device left, and the next attempt or the operation's failure follows. -/
theorem exec_of_failsBy (writes : s.Writes op w) (fails : s.FailsBy w effect c) :
    exec c s = .next (attemptFails op w { s with memory := unfinishedEffect op effect w s.memory }) := by
  rcases fails with ⟨rfl, limit, due⟩ | ⟨status, answer, rfl, done, bad⟩
  · have arm : exec (.writeStatusTimeout effect) s = execWriteStatusTimeout effect s := rfl
    rw [arm, execWriteStatusTimeout, event_of_released writes.1]
    simp only [writes.2, due, Timer.isDue, if_true]
    rfl
  · rw [exec_storeWriteComplete_done writes done]
    refine congrArg _ (if_neg fun ok => ?_)
    obtain ⟨not_late, reads⟩ := ok
    rcases bad with ⟨limit, due, past⟩ | differs
    · simp [StoreWrite.late, due, past] at not_late
    · exact differs reads

theorem attemptFails_again (room : w.attempt < 3) : attemptFails op w s = { s with journal := { s.journal with
    port := some ⟨op, some { w with attempt := w.attempt + 1, timer := .running (s.now + 2) }⟩ } } := if_pos room

theorem attemptFails_last (last : w.attempt = 3) : attemptFails op w s = writeFailed op s :=
  if_neg (by rw [last]; exact Nat.lt_irrefl 3)

theorem unfinishedEffect_eq {m : Memory} (other : op ≠ .formatHeader) :
    unfinishedEffect op effect w m = writeEffect effect w m := by
  cases op with
  | formatHeader => exact absurd rfl other
  | _ => rfl

/-- The third attempt of any write but a format's last header leaves what the device left, and ends its operation. -/
theorem exec_of_lastFails (writes : s.Writes op w) (other : op ≠ .formatHeader) (last : w.attempt = 3)
    (fails : s.FailsBy w effect c) :
    exec c s = .next (writeFailed op { s with memory := writeEffect effect w s.memory }) := by
  rw [exec_of_failsBy writes fails, attemptFails_last last, unfinishedEffect_eq other]

end

/-- Settles O51: the attempts of a write, and what a failed one leaves. -/
theorem attemptsRepeat : Obligations.attemptsRepeat := by
  unfold Obligations.attemptsRepeat
  refine fun s op w effect => ⟨fun c t writes fails room t_eq => ?_, fun status answer released busy =>
    exec_storeWriteComplete_busy released busy, unfinishedEffect_eq, fun canonical long a => ?_⟩
  · rw [exec_of_failsBy writes fails, attemptFails_again room, t_eq]
    rfl
  · split
    next inside =>
      have mark := readByte_unfinishedEffect_mark effect w s.memory (a - w.address) (by omega) long canonical
      rwa [Nat.add_sub_cancel' inside.1] at mark
    next outside =>
      refine readByte_writeBytes_outside _ _ _ _ ?_
      have four : (clearedMark.take w.bytes.length).length = 4 := by
        rw [List.length_take]
        exact Nat.min_eq_right long
      omega

/-! ## What follows a write that succeeds -/

section
variable {r : Record} {k : Nat} {s : State}

theorem Record.imageFor_card {c : CardAfter} (slot : r.body.cardSlot = some k) (after : r.body.cardAfter = some c) :
    r.imageFor k = some (.card c r.sequence) := by
  rw [Record.imageFor, if_pos slot, after]
  rfl

theorem Record.imageFor_sponsor {a : SponsorAfter} (after : r.body.sponsorAfter = some a) (small : a.sponsor < 64)
    (other : r.body.cardSlot ≠ some (4095 - a.sponsor)) :
    r.imageFor (4095 - a.sponsor) = some (.sponsor a.balance r.sequence) := by
  have named : r.body.sponsor = some (4095 - (4095 - a.sponsor)) := by
    rw [RecordBody.sponsor, after, Nat.sub_sub_self (by omega)]
    rfl
  rw [Record.imageFor, if_neg other, if_pos named, after]
  rfl

theorem imageSlots_eq (b : RecordBody) :
    imageSlots b = b.cardSlot.toList ++ (b.sponsorAfter.map fun a => 4095 - a.sponsor).toList := by
  rw [imageSlots, RecordBody.sponsor, Option.map_map]
  rfl

theorem nextImage_cons {i : Image} {rest : List Nat} (image : r.imageFor k = some i) : nextImage r (k :: rest) s =
    s.Issues (.imageWrites r k rest) (0x20000 + 32 * k) (imageUnit k i) := by
  rw [nextImage, writeImage, image]
  rfl

theorem nextImage_nil : nextImage r [] s = { s with journal := { s.journal with
    port := none, queue := s.journal.queue.filter fun q => q.record.sequence ≠ r.sequence,
    exhaustionDue := s.journal.exhaustionDue || decide (4294967231 ≤ r.sequence) } } := rfl

/-- A record's write makes it durable: the SYNCs its number reaches are answered, and its images follow. -/
theorem recordDurable_eq (r : Record) (s : State) : recordDurable r s = nextImage r (imageSlots r.body) { s with
    lanes := (fillAll ((s.journal.syncs.filter fun y => y.mark ≤ r.sequence).map SyncWait.lane) .ok s).lanes,
    journal := { s.journal with
      lastDurable := r.sequence, syncs := s.journal.syncs.filter fun y => !(y.mark ≤ r.sequence) },
    engine := { s.engine with
      journalEvents := s.engine.journalEvents ++ [.durable r (s.journal.ownerOf r)] } } :=
  congrArg (nextImage r (imageSlots r.body)) (fillAll_of_lanes (s := s) _ _ rfl)

theorem saveDone_eq (lanes : List Lane) (s : State) : saveDone lanes s = fillAll lanes .ok { s with
    config := { s.config with source := .header }, journal := { s.journal with port := none } } := by
  have before := fillAll_of_lanes (s := s) (t := s.mapConfig fun c => { c with source := .header }) lanes .ok rfl
  have after := fillAll_of_lanes (s := s) (t := freePort (s.mapConfig fun c => { c with source := .header })) lanes .ok rfl
  exact (congrArg freePort before).trans after.symm

theorem JournalUnit.ownerOf_of_find {j : JournalUnit} {q : QueueEntry}
    (found : j.queue.find? (fun q => q.record.sequence = r.sequence) = some q) : j.ownerOf r = q.owner := by
  rw [JournalUnit.ownerOf, found]

end

/-- Settles O50: what a record's, an image's, a stale image's and a save's write leads on to. -/
theorem recordBecomesDurable : Obligations.recordBecomesDurable := by
  unfold Obligations.recordBecomesDurable
  intro s r w status effect answer u done j succeeds u_eq j_eq done_eq
  have done_of : ∀ op, s.Writes op w →
      exec (.storeWriteComplete effect ⟨status, answer⟩) s = .next (writeSucceeded op u) := fun op writes => by
    rw [exec_storeWriteComplete_succeeds writes succeeds, u_eq]
  have u_journal : u.journal = s.journal := by rw [u_eq]
  have u_engine : u.engine = s.engine := by rw [u_eq]
  have durable : recordDurable r u = nextImage r (imageSlots r.body) (done j) := by
    rw [recordDurable_eq, u_journal, u_engine, done_eq, j_eq, fillAll_lanes_congr _ _ (show u.lanes = s.lanes by rw [u_eq])]
  have done_journal : ∀ k, (done k).journal = k := fun k => by rw [done_eq]
  refine ⟨fun q found => JournalUnit.ownerOf_of_find found, fun k c writes slot after => ?_,
    fun a writes absent after small => ?_, fun writes absent alone => ?_, fun k a writes after small other => ?_,
    fun k writes => ?_, fun k writes => ?_, fun lanes check writes => ?_, fun lanes writes => ?_, fun canonical => ?_,
    fun a outside => ?_⟩
  · rw [done_of _ writes]
    rw [writeSucceeded, durable, imageSlots_eq, slot]
    exact congrArg _ (nextImage_cons (Record.imageFor_card slot after))
  · rw [done_of _ writes, writeSucceeded, durable, imageSlots_eq, absent, after]
    exact congrArg _ (nextImage_cons (Record.imageFor_sponsor after small (by simp [absent])))
  · rw [done_of _ writes, writeSucceeded, durable, imageSlots_eq, absent, alone]
    refine congrArg _ (nextImage_nil.trans ?_)
    rw [done_journal, done_eq, done_eq, j_eq]
  · rw [done_of _ writes, writeSucceeded]
    exact congrArg _ (nextImage_cons (Record.imageFor_sponsor after small other))
  · rw [done_of _ writes, writeSucceeded, nextImage_nil, u_journal]
  · rw [done_of _ writes, ← u_journal]
    rfl
  · rw [done_of _ writes]
    rfl
  · rw [done_of _ writes, writeSucceeded, saveDone_eq, u_eq]
  · exact ⟨⟨succeeds.1, succeeds.2.1, readBytes_writeBytes _ _ _ canonical⟩, readBytes_writeBytes _ _ _ canonical⟩
  · rw [u_eq]
    exact readByte_writeEffect_outside _ _ _ _ outside

end Sys2Proof.Machine
end

section
/-! PROOF. The store enters FAULT (R127, R134, R135, R142, R143). -/

namespace Sys2Proof.Machine

variable {s : State}

/-! ## The stale-image list (R135, R137) -/

theorem mem_insertSlot (k x : Nat) (l : List Nat) : x ∈ insertSlot k l ↔ x = k ∨ x ∈ l := by
  induction l with
  | nil => simp [insertSlot]
  | cons j t ih =>
    unfold insertSlot
    split
    · exact List.mem_cons
    · split
      next same => simp [same]
      next => rw [List.mem_cons, ih, List.mem_cons]; tauto

theorem insertSlot_rising (k : Nat) {l : List Nat} (rising : l.Pairwise (· < ·)) : (insertSlot k l).Pairwise (· < ·) := by
  induction l with
  | nil => exact List.pairwise_singleton _ _
  | cons j t ih =>
    obtain ⟨below, rest⟩ := List.pairwise_cons.mp rising
    unfold insertSlot
    split
    next first =>
      exact List.pairwise_cons.mpr ⟨fun x mem => (List.mem_cons.mp mem).elim (fun e => e ▸ first)
        fun inside => first.trans (below x inside), rising⟩
    next not_first =>
      split
      next => exact rising
      next other =>
        refine List.pairwise_cons.mpr ⟨fun x mem => ?_, ih rest⟩
        rcases (mem_insertSlot k x t).mp mem with rfl | inside
        · omega
        · exact below x inside

theorem mem_foldl_insertSlot (slots : List Nat) (x : Nat) (l : List Nat) :
    x ∈ slots.foldl (fun l k => insertSlot k l) l ↔ x ∈ l ∨ x ∈ slots := by
  induction slots generalizing l with
  | nil => simp
  | cons k rest ih => rw [List.foldl_cons, ih, mem_insertSlot, List.mem_cons]; tauto

theorem foldl_insertSlot_rising (slots : List Nat) {l : List Nat} (rising : l.Pairwise (· < ·)) :
    (slots.foldl (fun l k => insertSlot k l) l).Pairwise (· < ·) := by
  induction slots generalizing l with
  | nil => exact rising
  | cons k rest ih => exact ih (insertSlot_rising k rising)

/-! ## FAULT -/

/-- A flag raised changes the notices alone, by the lanes, the notices and the tick count alone. -/
theorem raiseFlag_of_same (c : EventClass) {t : State} (lanes : t.lanes = s.lanes) (notices : t.notices = s.notices)
    (tick : t.now = s.now) : raiseFlag c t = { t with notices := (raiseFlag c s).notices } := by
  have blocks := State.eq_of_otherBlocks (raiseFlag_arbiter c t) (raiseFlag_config c t) (raiseFlag_restore c t)
    (raiseFlag_memory c t) (raiseFlag_pending c t)
  rwa [raiseFlag_engine, raiseFlag_deadlines, raiseFlag_period, raiseFlag_journal, raiseFlag_lanes,
    raiseFlag_notices_congr c lanes notices tick] at blocks

/-- What entering FAULT does, block by block. -/
theorem enterFault_eq (void : Option Nat) (s : State) : enterFault void s = { s with
    lanes := (fillAll (s.journal.save.getD [] ++ (s.journal.syncs.filter fun y =>
      s.journal.waiting.any fun q => q.record.sequence ≤ y.mark).map SyncWait.lane) .storeFault s).lanes,
    notices := (raiseFlag .storeFault s).notices,
    engine := { s.engine with
      journalEvents := s.engine.journalEvents ++ s.journal.waiting.map fun x => .abandoned x.record x.owner },
    journal := { s.journal with
      store := .fault, queue := [], save := none,
      nextSeq := (s.journal.waiting.head?.map fun q => q.record.sequence).getD s.journal.nextSeq,
      voidSlot := void.or s.journal.voidSlot,
      syncs := s.journal.syncs.filter fun y => !s.journal.waiting.any fun q => q.record.sequence ≤ y.mark } } := by
  have raised := raiseFlag_of_same .storeFault (s := s) (t := s.mapJournal fun j => { j with store := .fault }) rfl rfl rfl
  unfold enterFault
  rw [raised]
  dsimp only
  rw [← fillAll_append]
  refine (fillAll_of_lanes (s := s) _ _ ?lanes).trans ?whole
  case lanes => rfl
  case whole => cases s.journal.waiting <;> cases void <;> rfl

/-- What entering FAULT does, where the lanes, the notices and the tick count are those of `s`. -/
theorem enterFault_of_same {t : State} (void : Option Nat) (lanes : t.lanes = s.lanes) (notices : t.notices = s.notices)
    (tick : t.now = s.now) : enterFault void t = { t with
    lanes := (fillAll (t.journal.save.getD [] ++ (t.journal.syncs.filter fun y =>
      t.journal.waiting.any fun q => q.record.sequence ≤ y.mark).map SyncWait.lane) .storeFault s).lanes,
    notices := (raiseFlag .storeFault s).notices,
    engine := { t.engine with
      journalEvents := t.engine.journalEvents ++ t.journal.waiting.map fun x => .abandoned x.record x.owner },
    journal := { t.journal with
      store := .fault, queue := [], save := none,
      nextSeq := (t.journal.waiting.head?.map fun q => q.record.sequence).getD t.journal.nextSeq,
      voidSlot := void.or t.journal.voidSlot,
      syncs := t.journal.syncs.filter fun y => !t.journal.waiting.any fun q => q.record.sequence ≤ y.mark } } := by
  rw [enterFault_eq, fillAll_lanes_congr _ _ lanes, raiseFlag_notices_congr _ lanes notices tick]

theorem exec_journalExhaustion (released : s.restore.inReset = false) (due : s.journal.exhaustionDue = true) :
    exec .journalExhaustion s =
      .next (enterFault none { s with journal := { s.journal with exhaustionDue := false } }) :=
  (event_of_released released).trans (congrArg _ (if_pos due))

/-- Settles O52: what entering FAULT does, after each write that failed and on exhaustion. -/
theorem storeEntersFault : Obligations.storeEntersFault := by
  unfold Obligations.storeEntersFault
  intro s waiting met fault released waiting_eq met_eq fault_eq
  subst waiting_eq met_eq
  have failed : ∀ m void stale lanes, fillAll lanes .storeFault (enterFault void { s with
      memory := m, journal := { s.journal with port := none, stale := stale } }) = fault m void stale lanes := by
    intro m void stale lanes
    have entered := enterFault_of_same (s := s) (t := { s with
      memory := m, journal := { s.journal with port := none, stale := stale } }) void rfl rfl rfl
    rw [entered, fault_eq, fillAll_append _ lanes]
    refine (fillAll_of_lanes (s := fillAll (s.journal.save.getD [] ++ (s.journal.syncs.filter fun y =>
      s.journal.waiting.any fun q => q.record.sequence ≤ y.mark).map SyncWait.lane) .storeFault s)
      lanes .storeFault ?same).trans ?whole
    case same => rfl
    case whole => rfl
  refine ⟨fun op w effect c m writes last fails m_eq => ?_, fun due => ⟨_, exec_journalExhaustion released due, ?_, ?_⟩⟩
  · subst m_eq
    refine ⟨fun r op_eq => ?_, fun r k rest op_eq => ⟨_, ?_, fun x => mem_foldl_insertSlot (k :: rest) x s.journal.stale,
      foldl_insertSlot_rising (k :: rest)⟩, fun k op_eq => ?_, fun lanes op_eq => ?_⟩
    · subst op_eq
      rw [exec_of_lastFails writes nofun last fails, ← failed]
      rfl
    · subst op_eq
      rw [exec_of_lastFails writes nofun last fails, ← failed]
      rfl
    · subst op_eq
      rw [exec_of_lastFails writes nofun last fails, ← failed]
      rfl
    · rcases op_eq with rfl | ⟨check, rfl⟩ <;>
      · rw [exec_of_lastFails writes nofun last fails, ← failed]
        rfl
  · rw [enterFault_of_same (s := s) (t := { s with journal := { s.journal with exhaustionDue := false } }) none rfl rfl rfl,
      fault_eq, List.append_nil]
    rfl
  · rw [enterFault_eq, fault_eq]
    rfl

end Sys2Proof.Machine
end

section
/-! PROOF. The retry operation (R140, R141), and what a journal read answers (R145, R205). -/

namespace Sys2Proof.Machine

/-! ## What a read gives -/

theorem readFrom_length (m : Memory) (a n : Nat) : (readFrom m a n).length = n := by
  induction n generalizing m a with
  | zero => rw [readFrom, List.length_nil]
  | succ n ih =>
    cases m with
    | nil => rw [readFrom, List.length_cons, ih]
    | cons e m =>
      rw [readFrom]
      split <;> rw [List.length_cons, ih]

theorem readAnswer_length (answer : StoreAnswer) (m : Memory) (a n : Nat) : (readAnswer answer m a n).length = n := by
  cases answer with
  | asStored => exact readFrom_length _ _ _
  | silent => exact List.length_replicate
  | misread cells => simp [readAnswer, readBytes, readFrom_length]

/-! ## The retry -/

section
variable {s : State} {lanes : List Lane} {answer : StoreAnswer}

theorem markAndCheckOk_iff {h : List Byte} (short : h.length ≤ 15) :
    markAndCheckOk h = true ↔ h.take 4 = [0x5A, 0x3C, 0x96, 0xC3] ∧ h.drop 13 = checkBytes (h.take 13) := by
  have tail : (h.drop 13).take 2 = h.drop 13 := List.take_of_length_le (by rw [List.length_drop]; omega)
  rw [markAndCheckOk, Bool.and_eq_true, decide_eq_true_iff, decide_eq_true_iff, tail]
  rfl

theorem endRetry_eq (r : Result) (retry : s.journal.retry = some lanes) : endRetry r s =
    fillAll lanes r { s with journal := { s.journal with port := none, retry := none } } := by
  rw [endRetry, retry]
  rfl

theorem retryFails_eq (retry : s.journal.retry = some lanes) : retryFails s =
    fillAll lanes .storeFault { s with journal := { s.journal with port := none, retry := none } } := endRetry_eq _ retry

theorem retrySucceeds_eq (retry : s.journal.retry = some lanes) : retrySucceeds s = fillAll lanes .ok { s with
    notices := (raiseFlag .storeRestored s).notices,
    journal := { s.journal with store := .ok, voidSlot := none, retry := none, port := none } } := by
  have raised := raiseFlag_of_same .storeRestored (s := s)
    (t := s.mapJournal fun j => { j with store := .ok, voidSlot := none }) rfl rfl rfl
  rw [retrySucceeds, raised]
  exact endRetry_eq .ok retry

theorem retryVoided_eq {k : Nat} (void : s.journal.voidSlot = some k) : retryVoided s =
    retrySucceeds { s with journal := { s.journal with
      reads := s.journal.reads.map fun y => if y.sequence % 8192 = k then { y with voided := true } else y } } := by
  unfold retryVoided
  rw [void]
  rfl

theorem exec_retryHeaderRead (released : s.restore.inReset = false) (port : s.journal.port = some ⟨.retryHeader, none⟩) :
    exec (.retryHeaderRead answer) s = .next (if markAndCheckOk (readAnswer answer s.memory 0 15) then
      s.Issues .retryCheck 0x0D ((readAnswer answer s.memory 0 15).drop 13) else retryFails s) := by
  have arm : exec (.retryHeaderRead answer) s = execRetryHeaderRead answer s := rfl
  rw [arm, execRetryHeaderRead, event_of_released released]
  simp only [port]
  rfl

end

/-- Settles O53: the header read, the writes, and the ends of the retry operation. -/
theorem retryRuns : Obligations.retryRuns := by
  unfold Obligations.retryRuns
  refine fun s lanes released retry => ⟨fun answer h good h_eq good_iff port => ?_,
    fun w status effect answer u restored succeeds u_eq restored_eq => ?_, fun op w effect c either writes last fails => ?_⟩
  · have ok : good ↔ markAndCheckOk h = true := by
      rw [good_iff, markAndCheckOk_iff (by rw [h_eq, readAnswer_length])]
    refine ⟨fun bad => ?_, fun holds => ?_⟩
    · rw [exec_retryHeaderRead released port, ← h_eq, if_neg (mt ok.mpr bad), retryFails_eq retry]
    · rw [exec_retryHeaderRead released port, ← h_eq, if_pos (ok.mp holds)]
  · have retry' : u.journal.retry = some lanes := by rw [u_eq]; exact retry
    have void' : u.journal.voidSlot = s.journal.voidSlot := by rw [u_eq]
    have restores : ∀ reads, retrySucceeds { u with journal := { u.journal with reads := reads } } = restored reads := by
      intro reads
      have done := retrySucceeds_eq (s := { u with journal := { u.journal with reads := reads } }) retry'
      have flagged := raiseFlag_notices_congr .storeRestored (s := s)
        (t := { u with journal := { u.journal with reads := reads } }) (by rw [u_eq]) (by rw [u_eq]) (by rw [u_eq]; rfl)
      rw [done, flagged, restored_eq, u_eq]
    have goes_on : ∀ op, s.Writes op w →
        exec (.storeWriteComplete effect ⟨status, answer⟩) s = .next (writeSucceeded op u) := fun op writes => by
      rw [exec_storeWriteComplete_succeeds writes succeeds, u_eq]
    refine ⟨fun k writes void => ?_, fun writes absent => ?_, fun k writes void => ?_⟩
    · rw [goes_on _ writes, writeSucceeded, retryContinues, void', void]
      rfl
    · rw [goes_on _ writes, writeSucceeded, retryContinues, void', absent]
      rw [← restores, u_eq]
    · rw [goes_on _ writes, writeSucceeded, retryVoided_eq (void'.trans void), restores, u_eq]
  · have failed : writeFailed op { s with memory := writeEffect effect w s.memory } =
        retryFails { s with memory := writeEffect effect w s.memory } := by
      rcases either with rfl | rfl <;> rfl
    rw [exec_of_lastFails writes (by rcases either with rfl | rfl <;> exact nofun) last fails, failed,
      retryFails_eq (s := { s with memory := writeEffect effect w s.memory }) retry]

/-! ## Journal reads -/

section
variable {s : State} {l : Lane} {n done : Nat} {voided : Bool} {unit : List Byte} {r : Record} {answer : StoreAnswer}

theorem exec_journalReadComplete (released : s.restore.inReset = false)
    (port : s.journal.port = some ⟨.journalRead l n done voided, none⟩) : exec (.journalReadComplete answer) s =
      .next (judgeRead l n done voided (readAnswer answer s.memory (0x40000 + 32 * (n % 8192)) 32) s) := by
  have arm : exec (.journalReadComplete answer) s = execJournalReadComplete answer s := rfl
  rw [arm, execJournalReadComplete, event_of_released released]
  simp only [port]
  rfl

theorem judgeRead_valid (valid : readRecord (n % 8192) unit = some r) : judgeRead l n done voided unit s =
    if r.sequence = n then fillReply l .ok (recordReply r) (freePort s) else refuse l .outOfRange (freePort s) := by
  rw [judgeRead, ringSlot, valid]

theorem judgeRead_invalid (invalid : readRecord (n % 8192) unit = none) : judgeRead l n done voided unit s =
    if done < 2 then holdPort (.journalRead l n (done + 1) voided) s
    else if s.journal.voidSlot = some (n % 8192) ∨ voided then refuse l .outOfRange (freePort s)
    else refuse l .storeFault (freePort s) := by
  rw [judgeRead, ringSlot, invalid]

end

/-- Settles O54: how a journal read is judged, and how its reply lays a record out. -/
theorem journalReadJudged : Obligations.journalReadJudged := by
  unfold Obligations.journalReadJudged
  refine ⟨fun s answer l n done voided unit s' released port unit_eq s'_eq => ?_,
    fun q n slot ap cp amount l c head of state after head_eq of_eq after_eq state_eq => ?_⟩
  · rw [exec_journalReadComplete released port, ← unit_eq, s'_eq]
    refine ⟨fun r valid same => ?_, fun r valid other => ?_, fun invalid early => ?_, fun invalid third void => ?_,
      fun invalid third sound unvoided => ?_⟩
    · rw [judgeRead_valid valid, if_pos same]
      rfl
    · rw [judgeRead_valid valid, if_neg other]
      rfl
    · rw [judgeRead_invalid invalid, if_pos early]
      rfl
    · rw [judgeRead_invalid invalid, if_neg (Nat.not_lt.mpr third), if_pos void]
      rfl
    · rw [judgeRead_invalid invalid, if_neg (Nat.not_lt.mpr third), if_neg (by simp [sound, unvoided])]
      rfl
  · subst of_eq after_eq state_eq
    refine ⟨fun a => ?_, ?_, fun a receipt back => ?_, fun receipt back => ?_, ?_, ?_, fun kind code mem => ?_, fun a => ?_,
      fun f time clock figures clock_eq figures_eq => ?_⟩
    case refine_7 =>
      have code_eq : code = recordKind (.change kind slot c) := by
        simp only [List.mem_cons, Prod.mk.injEq, List.not_mem_nil, or_false] at mem
        rcases mem with ⟨rfl, rfl⟩ | ⟨rfl, rfl⟩ | ⟨rfl, rfl⟩ | ⟨rfl, rfl⟩ <;> rfl
      rw [code_eq, head_eq]
      simp only [recordReply, recordTail, List.append_assoc]
      rfl
    case refine_9 =>
      have field : clockField time = clock := by
        rcases clock_eq with ⟨rfl, rfl⟩ | rfl <;> rfl
      subst figures_eq field
      rw [head_eq]
      refine ⟨?_, fun entry => ?_⟩ <;>
      · simp only [recordReply, List.append_assoc]
        rfl
    all_goals
      simp only [head_eq, recordReply, recordTail, List.append_assoc]
      rfl

end Sys2Proof.Machine
end

section
/-! PROOF. The format (R196 to R198). -/

namespace Sys2Proof.Machine

/-! ## FORMAT_STORE at the Restore Unit -/

section
variable {l : Lane} {s : State}

theorem restoreFormatStore_unformatted (part : s.restore.part = .unformatted ∨ s.restore.part = .restoreFailed) :
    restoreFormatStore l s =
      { s with restore := { s.restore with part := .formatting, stage := .idle, format := some l } } := by
  unfold restoreFormatStore
  rcases part with part | part <;> rw [part] <;> rfl

theorem restoreFormatStore_busy (part : s.restore.part = .restoring ∨ s.restore.part = .formatting) :
    restoreFormatStore l s = refuse l .notReady s := by
  unfold restoreFormatStore
  rcases part with part | part <;> rw [part]

theorem restoreFormatStore_ready (part : s.restore.part = .ready) : restoreFormatStore l s =
    if !s.journal.exhausted then refuse l .notPermitted s
    else if s.engine.openHolds ≠ 0 then refuse l .inUse s
    else if s.period.state ≠ .opened then refuse l .periodClosing s
    else acceptFormat l .none (dropReads s) := by
  unfold restoreFormatStore
  rw [part]

theorem JournalUnit.exhausted_iff (j : JournalUnit) : j.exhausted = true ↔ 4294967231 ≤ j.lastDurable := decide_eq_true_iff

theorem dropReads_eq (s : State) : dropReads s = { s with
    lanes := (fillAll (s.journal.reads.map ReadWait.lane) .notReady s).lanes,
    journal := { s.journal with reads := [] } } :=
  fillAll_of_lanes (s := s) (t := { s with journal := { s.journal with reads := [] } }) _ _ rfl

end

/-! ## The writes of a format -/

section
variable {s : State} {l : Lane} {k : Nat}

theorem formatRing_more (inside : k < 8192) :
    formatRing k s = s.Issues (.formatVoid k) (0x40000 + 32 * k) (List.replicate 32 0) := if_pos inside

theorem formatRing_end : formatRing 8192 s =
    s.Issues (.formatImage 0) 0x20000 (imageUnit 0 (.card ⟨.free, 0, 0, 0, 0, 0⟩ 0)) := if_neg (Nat.lt_irrefl _)

theorem formatImages_more (inside : k < 4096) : formatImages k s =
    s.Issues (.formatImage k) (0x20000 + 32 * k) (imageUnit k (.card ⟨.free, 0, 0, 0, 0, 0⟩ 0)) := if_pos inside

theorem formatImages_end : formatImages 4096 s = s.Issues .formatHeader 0 (headerBytes formatMark 1 1 s.workingConfig) :=
  if_neg (Nat.lt_irrefl _)

theorem answerFormat_eq (r : Result) (body : List Byte) (waits : s.restore.format = some l) : answerFormat r body s =
    fillReply l r body { s with
      journal := { s.journal with port := none }, restore := { s.restore with format := none } } := by
  unfold answerFormat
  rw [waits]
  rfl

theorem formatFails_eq (waits : s.restore.format = some l) : formatFails s =
    fillReply l .storeFault [] { s with
      engine := { s.engine with ring := [] },
      journal := { s.journal with port := none },
      restore := { s.restore with part := .unformatted, finding := .storeWrite, stage := .idle, format := none } } :=
  answerFormat_eq _ _ waits

/-- The Purse Engine after a format: every purse FREE or at balance 0, and no capture (R198). -/
def Engine.formatted (e : Engine) : Engine :=
  { e.emptyCards 0 4096 with
    sponsors := [], ring := [], totals := Totals.zero, partialMark := false,
    closed := { totals := Totals.zero, partialMark := false, period := 0 } }

theorem Engine.card_formatted {e : Engine} (canonical : Table.wf .free e.cards = true) (inside : k < 4096) :
    e.formatted.card k = { CardPurse.free with cardNumber := (e.card k).cardNumber } :=
  (Engine.card_emptyCards e canonical 0 4096 k).trans (if_pos ⟨Nat.zero_le k, inside⟩)

theorem Engine.sponsor_formatted (e : Engine) (n : Nat) : e.formatted.sponsor n = SponsorPurse.zero := rfl

theorem formatDone_eq (waits : s.restore.format = some l) : formatDone s = fillReply l .ok (beBytes 4 1) { s with
    engine := s.engine.formatted,
    period := { s.period with number := 1, state := .opened, drainTimer := .stopped },
    journal := { s.journal with
      lastDurable := 0, nextSeq := 1, store := .ok, queue := [], stale := [], voidSlot := none,
      exhaustionDue := false, port := none },
    config := { s.config with source := .formatted },
    restore := { s.restore with
      part := .ready, finding := .none, ringBase := 1, formatPeriod := 1, format := none } } :=
  answerFormat_eq _ _ waits

/-- A reset leaves of the write under way what the cut leaves. -/
theorem exec_reset_memory {c : Instr} {cut : WriteEffect} {t : State}
    (reset : c = .powerOnReset cut ∨ c = .pinReset cut ∨ c = .resetNLow cut) (runs : exec c s = .next t) :
    t.memory = cutWrite cut s := by
  rcases reset with rfl | rfl | rfl <;>
  · cases runs
    rfl

theorem cutWrite_of_writes {op : PortOp} {w : StoreWrite} {cut : WriteEffect} (writes : s.Writes op w) :
    cutWrite cut s = unfinishedEffect op cut w s.memory := by
  rw [cutWrite, writes.2]

end

/-- Settles O60: FORMAT_STORE by part state, the writes of a format, and its two ends. -/
theorem formatRuns : Obligations.formatRuns := by
  unfold Obligations.formatRuns
  refine fun l s => ⟨fun asks part => ?_, fun asks part => ?_, fun ⟨asks, part⟩ room => ?_, fun ⟨asks, part⟩ full => ?_,
    fun w status effect answer u header succeeds u_eq header_eq => ?_,
    fun op w effect c op_eq writes waits last fails => ?_, fun w cut c t writes canonical long reset runs i inside => ?_⟩
  · exact (request_of_asks asks).trans (congrArg _ (restoreFormatStore_unformatted (s := s.taken) part))
  · exact (request_of_asks asks).trans (congrArg _ (restoreFormatStore_busy (s := s.taken) part))
  · refine (request_of_asks asks).trans (congrArg _ ((restoreFormatStore_ready (s := s.taken) part).trans (if_pos ?_)))
    have left : ¬ s.journal.exhausted = true := mt s.journal.exhausted_iff.mp (Nat.not_le.mpr room)
    simpa using left
  · have due : ¬ (!s.journal.exhausted) = true := by simp [s.journal.exhausted_iff.mpr full]
    have judged : exec (.formatStore l) s = .next (if s.engine.openHolds ≠ 0 then refuse l .inUse s.taken
        else if s.period.state ≠ .opened then refuse l .periodClosing s.taken
        else acceptFormat l .none (dropReads s.taken)) :=
      (request_of_asks asks).trans (congrArg _ ((restoreFormatStore_ready (s := s.taken) part).trans (if_neg due)))
    refine ⟨fun held => ?_, fun unheld closing => ?_, fun unheld opened => ?_⟩
    · rw [judged, if_pos held]
      rfl
    · rw [judged, if_neg (not_not.mpr unheld), if_pos closing]
      rfl
    · rw [judged, if_neg (not_not.mpr unheld), if_neg (not_not.mpr opened), dropReads_eq,
        fillAll_lanes_congr (s := s) (t := s.taken) _ _ rfl]
      rfl
  · have goes_on : ∀ op, s.Writes op w →
        exec (.storeWriteComplete effect ⟨status, answer⟩) s = .next (writeSucceeded op u) := fun op writes => by
      rw [exec_storeWriteComplete_succeeds writes succeeds, u_eq]
    refine ⟨fun writes => ?_, fun k inside writes => ?_, fun writes => ?_, fun k inside writes => ?_, fun writes => ?_,
      fun writes waits => ⟨s.engine.formatted, rfl, fun canonical k inside => Engine.card_formatted canonical.1 inside,
        Engine.sponsor_formatted s.engine, ?_⟩⟩
    · rw [goes_on _ writes]
      exact congrArg _ (formatRing_more (by omega))
    · rw [goes_on _ writes]
      exact congrArg _ (formatRing_more (by omega))
    · rw [goes_on _ writes]
      exact congrArg _ formatRing_end
    · rw [goes_on _ writes]
      exact congrArg _ (formatImages_more (by omega))
    · rw [goes_on _ writes, header_eq]
      refine congrArg _ (formatImages_end.trans ?_)
      rw [u_eq]
      rfl
    · rw [goes_on _ writes, u_eq]
      exact congrArg _ (formatDone_eq (s := { s with memory := writeEffect effect w s.memory }) waits)
  · have fails_so : writeFailed op { s with memory := unfinishedEffect op effect w s.memory } =
        formatFails { s with memory := unfinishedEffect op effect w s.memory } := by
      rcases op_eq with rfl | ⟨k, rfl⟩ | ⟨k, rfl⟩ | rfl <;> rfl
    rw [exec_of_failsBy writes fails, attemptFails_last last, fails_so,
      formatFails_eq (s := { s with memory := unfinishedEffect op effect w s.memory }) waits]
  · rw [exec_reset_memory reset runs, cutWrite_of_writes writes]
    exact readByte_unfinishedEffect_mark cut w s.memory i inside long canonical

end Sys2Proof.Machine
end

section
/-! PROOF. The configuration block read back (R206): each setting from its bytes, and the block from its parts. -/

namespace Sys2Proof.Machine

/-! ## Parts of a run of bytes -/

/-- The `len` bytes from byte `off` on: what a field of the block is read from. -/
def bytesAt (b : List Byte) (off len : Nat) : List Byte := (b.drop off).take len

theorem readField_eq_bytesAt (b : List Byte) (off len : Nat) : readField b off len = beNat (bytesAt b off len) := rfl

theorem bytesAt_zero_length (b : List Byte) : bytesAt b 0 b.length = b := by
  rw [bytesAt, List.drop_zero, List.take_length]

section
variable {b : List Byte} {off m n : Nat}

theorem bytesAt_length (inside : off + n ≤ b.length) : (bytesAt b off n).length = n := by
  rw [bytesAt, List.length_take, List.length_drop]
  omega

theorem bytesAt_add (b : List Byte) (off m n : Nat) : bytesAt b off (m + n) = bytesAt b off m ++ bytesAt b (off + m) n := by
  rw [bytesAt, List.take_add, List.drop_drop, bytesAt, bytesAt]

/-- Bytes that split in two are the two parts. -/
theorem bytesAt_eq_append {xs ys : List Byte} (inside : off + (m + n) ≤ b.length) (length : xs.length = m) :
    bytesAt b off (m + n) = xs ++ ys ↔ bytesAt b off m = xs ∧ bytesAt b (off + m) n = ys := by
  rw [bytesAt_add]
  have front_length := bytesAt_length (b := b) (off := off) (n := m) (by omega)
  exact ⟨fun same => List.append_inj same (front_length.trans length.symm), fun ⟨front, back⟩ => front ▸ back ▸ rfl⟩

/-- The bytes of a field are those of the number it holds. -/
theorem bytesAt_eq_beBytes {v : Nat} (inside : off + n ≤ b.length) (fits : v < 256 ^ n) :
    bytesAt b off n = beBytes n v ↔ readField b off n = v := by
  refine ⟨fun same => ?_, fun same => ?_⟩
  · rw [readField_eq_bytesAt, same, beNat_beBytes, Nat.mod_eq_of_lt fits]
  · rw [← same, beBytes_readField inside]
    rfl

/-- Bytes that repeat one layout are its parts, each at its place. -/
theorem bytesAt_eq_flatMap {α : Type} {f : α → List Byte} (width : ∀ x, (f x).length = m) (xs : List α)
    (inside : off + m * xs.length ≤ b.length) :
    bytesAt b off (m * xs.length) = xs.flatMap f ↔ ∀ i (h : i < xs.length), bytesAt b (off + m * i) m = f xs[i] := by
  induction xs generalizing off with
  | nil => simp [bytesAt]
  | cons x xs ih =>
    have size : m * (x :: xs).length = m + m * xs.length := by rw [List.length_cons, Nat.mul_succ, Nat.add_comm]
    rw [size] at inside ⊢
    rw [List.flatMap_cons, bytesAt_eq_append inside (width x), ih (by omega)]
    have place : ∀ i, off + m * (i + 1) = off + m + m * i := fun i => by rw [Nat.mul_succ]; omega
    refine ⟨fun ⟨first, others⟩ i inside_list => ?_, fun all => ⟨all 0 (Nat.succ_pos _), fun i inside_list => ?_⟩⟩
    · cases i with
      | zero => exact first
      | succ i =>
        rw [place]
        exact others i (Nat.lt_of_succ_lt_succ inside_list)
    · rw [← place]
      exact all (i + 1) (Nat.succ_lt_succ inside_list)

theorem bytesAt_eq_flatMap_vector {α : Type} {f : α → List Byte} (width : ∀ x, (f x).length = m) (v : Vector α n)
    (inside : off + m * n ≤ b.length) :
    bytesAt b off (m * n) = v.toList.flatMap f ↔ ∀ i : Fin n, bytesAt b (off + m * i.val) m = f v[i] := by
  have size : v.toList.length = n := v.length_toList
  have parts := bytesAt_eq_flatMap (b := b) (off := off) width v.toList (by rw [size]; exact inside)
  rw [show m * v.toList.length = m * n by rw [size]] at parts
  exact parts.trans ⟨fun all i => all i.val (by rw [size]; exact i.isLt),
    fun all i inside_list => all ⟨i, by rw [← size]; exact inside_list⟩⟩

/-- Every element of a vector is present. -/
theorem allPresent_ofFn {α : Type} {f : Fin n → Option α} {d : α} {v : Vector α n} :
    allPresent d (Vector.ofFn f) = some v ↔ ∀ i, f i = some v[i] := by
  unfold allPresent
  split
  next present =>
    have some_of : ∀ i, f i = some ((f i).getD d) := fun i => by
      have inside : (Vector.ofFn f)[i] ∈ (Vector.ofFn f).toList := by simp
      have isSome := List.all_eq_true.mp present _ inside
      obtain ⟨x, hx⟩ := Option.isSome_iff_exists.mp isSome
      have at_i : f i = some x := by simpa using hx
      rw [at_i]
      rfl
    rw [Option.some.injEq]
    refine ⟨fun same i => ?_, fun all => Vector.ext fun i hi => ?_⟩
    · rw [← same, some_of i]
      simp
    · simp [all ⟨i, hi⟩]
  next absent =>
    refine ⟨nofun, fun all => absurd (List.all_eq_true.mpr fun o inside => ?_) absent⟩
    obtain ⟨i, hi, rfl⟩ := List.mem_iff_getElem.mp inside
    have bound : i < n := by simpa using hi
    simp [all ⟨i, bound⟩]

end

/-! ## The settings of one part -/

section
variable {b : List Byte} {off : Nat}

theorem roleOfCode_eq_some {v : Nat} {r : Role} : roleOfCode v = some r ↔ v = roleCode r := by
  refine ⟨fun named => ?_, fun code => code ▸ roleOfCode_roleCode r⟩
  unfold roleOfCode at named
  split at named <;> cases named <;> rfl

theorem boolOfCode_eq_some {v : Nat} {x : Bool} : boolOfCode v = some x ↔ v = boolCode x := by
  refine ⟨fun named => ?_, fun code => code ▸ boolOfCode_boolCode x⟩
  unfold boolOfCode at named
  split at named <;> cases named <;> rfl

theorem routeOfCode_eq_some {v : Nat} {r : Option Lane} : routeOfCode v = some r ↔ v = routeField r := by
  refine ⟨fun named => ?_, fun code => code ▸ routeOfCode_routeField r⟩
  unfold routeOfCode at named
  split at named
  next absent => cases named; exact absent
  next =>
    unfold laneOfCode at named
    split at named <;> cases named
    rfl

theorem roleCode_lt (r : Role) : roleCode r < 256 := by cases r <;> decide
theorem routeField_lt (r : Option Lane) : routeField r < 256 := by
  cases r with
  | none => decide
  | some l => exact l.isLt.trans (by decide)

/-- A lane's settings lie in their ranges (R148, R149). -/
def LaneSettings.inRange (x : LaneSettings) : Prop :=
  5 ≤ x.holdLifetime ∧ x.holdLifetime ≤ 600 ∧ (x.silenceLimit = 0 ∨ 2 ≤ x.silenceLimit ∧ x.silenceLimit ≤ 120) ∧
    1 ≤ x.holdLimit ∧ x.holdLimit ≤ 64

theorem laneSettingsOf_eq_some {role life silence limit : Nat} {x : LaneSettings} :
    laneSettingsOf role life silence limit = some x ↔
      x.inRange ∧ role = roleCode x.role ∧ life = x.holdLifetime ∧ silence = x.silenceLimit ∧ limit = x.holdLimit := by
  constructor
  · intro given
    unfold laneSettingsOf at given
    split at given
    next r named =>
      split at given
      next range =>
        cases given
        exact ⟨⟨range.1.1, range.1.2, range.2.1, range.2.2⟩, roleOfCode_eq_some.mp named, rfl, rfl, rfl⟩
      next => cases given
    next => cases given
  · rintro ⟨⟨least, most, silence, holds⟩, rfl, rfl, rfl, rfl⟩
    rw [laneSettingsOf, roleOfCode_roleCode]
    exact if_pos ⟨⟨least, most⟩, silence, holds⟩

theorem laneBytes_length (x : LaneSettings) : (laneBytes x).length = 5 := by simp [laneBytes]

/-- A lane's five bytes spell its settings. -/
theorem laneSettingsOf_bytes (inside : off + 5 ≤ b.length) (x : LaneSettings) :
    laneSettingsOf (readField b off 1) (readField b (off + 1) 2) (readField b (off + 3) 1) (readField b (off + 4) 1) = some x ↔
      x.inRange ∧ bytesAt b off 5 = laneBytes x := by
  rw [laneSettingsOf_eq_some, laneBytes, List.append_assoc, List.append_assoc]
  refine and_congr_right fun ⟨_, life, silence, _, holds⟩ => ?_
  rw [show 5 = 1 + (2 + (1 + 1)) from rfl, bytesAt_eq_append (by omega) (beBytes_length 1 _),
    bytesAt_eq_append (by omega) (beBytes_length 2 _), bytesAt_eq_append (by omega) (beBytes_length 1 _),
    bytesAt_eq_beBytes (by omega) (roleCode_lt _), bytesAt_eq_beBytes (by omega) (by omega),
    bytesAt_eq_beBytes (by omega) (by omega), bytesAt_eq_beBytes (by omega) (by omega)]

theorem scheduleEntryOf_eq_some {time enable : Nat} {x : ScheduleEntry} : scheduleEntryOf time enable = some x ↔
    x.time ≤ 86399 ∧ time = x.time ∧ enable = boolCode x.enabled := by
  constructor
  · intro given
    unfold scheduleEntryOf at given
    split at given
    next on named =>
      split at given
      next range =>
        cases given
        exact ⟨range, rfl, boolOfCode_eq_some.mp named⟩
      next => cases given
    next => cases given
  · rintro ⟨range, rfl, rfl⟩
    rw [scheduleEntryOf, boolOfCode_boolCode]
    exact if_pos range

theorem scheduleBytes_length (x : ScheduleEntry) : (scheduleBytes x).length = 4 := by simp [scheduleBytes]

theorem scheduleEntryOf_bytes (inside : off + 4 ≤ b.length) (x : ScheduleEntry) :
    scheduleEntryOf (readField b off 3) (readField b (off + 3) 1) = some x ↔
      x.time ≤ 86399 ∧ bytesAt b off 4 = scheduleBytes x := by
  rw [scheduleEntryOf_eq_some, scheduleBytes]
  refine and_congr_right fun range => ?_
  have bit := boolCode_lt x.enabled
  rw [show 4 = 3 + 1 from rfl, bytesAt_eq_append (by omega) (beBytes_length 3 _),
    bytesAt_eq_beBytes (by omega) (by omega), bytesAt_eq_beBytes (by omega) (by omega)]

/-- A range entry's fields lie in their ranges (R10). -/
def RangeEntry.inRange (x : RangeEntry) : Prop :=
  1 ≤ x.firstCard ∧ x.firstCard ≤ 16777215 ∧ x.slotEnd ≤ 4096 ∧ x.grant ≤ 10000 ∧ x.limit ≤ 100000 ∧
    ∀ n ∈ x.sponsor, n < 64

/-- The enable-and-sponsor byte of a range entry (R206). -/
def RangeEntry.markByte (x : RangeEntry) : Nat :=
  (if x.enabled then 128 else 0) + x.sponsor.getD 127

theorem rangeBytes_fields (x : RangeEntry) : rangeBytes x = beBytes 3 x.firstCard ++ (beBytes 2 x.slotEnd ++
    (beBytes 2 x.grant ++ (beBytes 1 x.markByte ++ beBytes 3 x.limit))) := by
  rw [rangeBytes_eq, RangeEntry.markByte]
  simp only [List.append_assoc]

theorem rangeBytes_length (x : RangeEntry) : (rangeBytes x).length = 11 := by simp [rangeBytes]

theorem blockSponsor_eq_some {v : Nat} {sp : Option Nat} : blockSponsor v = some sp ↔
    sp = some (v % 128) ∧ v % 128 < 64 ∨ sp = none ∧ v % 128 = 0x7F := by
  unfold blockSponsor
  by_cases low : v % 128 < 64
  · have other : v % 128 ≠ 0x7F := by omega
    simp [low, other, eq_comm]
  · by_cases all : v % 128 = 0x7F <;> simp [low, all, eq_comm]

/-- The enable-and-sponsor byte spells both. -/
theorem blockSponsor_markByte {v : Nat} (byte : v < 256) (x : RangeEntry) :
    (decide (128 ≤ v) = x.enabled ∧ blockSponsor v = some x.sponsor) ↔ v = x.markByte ∧ ∀ n ∈ x.sponsor, n < 64 := by
  rw [blockSponsor_eq_some]
  obtain ⟨on, first, slotEnd, grant, sponsor, limit⟩ := x
  cases on <;> cases sponsor <;>
    simp only [RangeEntry.markByte, Option.getD_some, Option.getD_none, decide_eq_true_eq, decide_eq_false_iff_not,
      Option.some.injEq, Option.mem_def, reduceCtorEq, false_and, or_false, false_or, true_and, if_true, Bool.false_eq_true, if_false,
      IsEmpty.forall_iff, implies_true, and_true, forall_eq'] <;>
    omega

theorem rangeEntryOf_eq_some {first slotEnd grant v limit : Nat} (byte : v < 256) {x : RangeEntry} :
    rangeEntryOf (some (decide (128 ≤ v))) first slotEnd grant (blockSponsor v) limit = some x ↔
      x.inRange ∧ first = x.firstCard ∧ slotEnd = x.slotEnd ∧ grant = x.grant ∧ v = x.markByte ∧ limit = x.limit := by
  constructor
  · intro given
    unfold rangeEntryOf at given
    split at given
    next e sp on named =>
      split at given
      next range =>
        cases given
        obtain ⟨mark, small⟩ :=
          (blockSponsor_markByte byte ⟨e, first, slotEnd, grant, sp, limit⟩).mp ⟨Option.some.inj on, named⟩
        exact ⟨⟨range.1.1, range.1.2, range.2.1, range.2.2.1, range.2.2.2, small⟩, rfl, rfl, rfl, mark, rfl⟩
      next => cases given
    next => cases given
  · rintro ⟨⟨least, most, slot, grant, limit, small⟩, rfl, rfl, rfl, mark, rfl⟩
    obtain ⟨on, named⟩ := (blockSponsor_markByte byte x).mpr ⟨mark, small⟩
    rw [on, named]
    exact if_pos ⟨⟨least, most⟩, slot, grant, limit⟩

theorem readField_byte_lt (b : List Byte) (off : Nat) : readField b off 1 < 256 := by
  have short : (bytesAt b off 1).length ≤ 1 := by
    rw [bytesAt]
    exact List.length_take_le _ _
  exact (beNat_lt _).trans_le (Nat.pow_le_pow_right (by decide) short)

theorem RangeEntry.markByte_lt {x : RangeEntry} (small : ∀ n ∈ x.sponsor, n < 64) : x.markByte < 256 := by
  have sponsor : x.sponsor.getD 127 < 128 := by
    cases named : x.sponsor with
    | none => decide
    | some n => exact (small n named).trans (by decide)
  have enabled : (if x.enabled then 128 else 0) ≤ 128 := by split <;> decide
  unfold RangeEntry.markByte
  omega

theorem rangeEntryOf_bytes (inside : off + 11 ≤ b.length) (x : RangeEntry) :
    rangeEntryOf (some (decide (128 ≤ readField b (off + 7) 1))) (readField b off 3) (readField b (off + 3) 2)
      (readField b (off + 5) 2) (blockSponsor (readField b (off + 7) 1)) (readField b (off + 8) 3) = some x ↔
      x.inRange ∧ bytesAt b off 11 = rangeBytes x := by
  rw [rangeEntryOf_eq_some (readField_byte_lt b _), rangeBytes_fields]
  refine and_congr_right fun ⟨_, first, slot, grant, limit, small⟩ => ?_
  rw [show 11 = 3 + (2 + (2 + (1 + 3))) from rfl, bytesAt_eq_append (by omega) (beBytes_length 3 _),
    bytesAt_eq_append (by omega) (beBytes_length 2 _), bytesAt_eq_append (by omega) (beBytes_length 2 _),
    bytesAt_eq_append (by omega) (beBytes_length 1 _), bytesAt_eq_beBytes (by omega) (by omega),
    bytesAt_eq_beBytes (by omega) (by omega), bytesAt_eq_beBytes (by omega) (by omega),
    bytesAt_eq_beBytes (by omega) (RangeEntry.markByte_lt small), bytesAt_eq_beBytes (by omega) (by omega)]

theorem routeOfCode_bytes (inside : off + 1 ≤ b.length) (r : Option Lane) :
    routeOfCode (readField b off 1) = some r ↔ bytesAt b off 1 = beBytes 1 (routeField r) := by
  rw [routeOfCode_eq_some, bytesAt_eq_beBytes inside (routeField_lt r)]

end

end Sys2Proof.Machine
end

section
/-! PROOF. The restore's first step (R188, R206): the configuration block as a whole, and what the header decides. -/

namespace Sys2Proof.Machine

/-! ## The configuration block -/

section
variable {b : List Byte} {c : WorkingConfig}

/-- The block of a configuration holds each part at its place (R206). -/
theorem eq_configBlock_iff (length : b.length = 172) : b = configBlock c ↔ bytesAt b 0 10 = scalarBytes c ∧
    (∀ i : Fin 8, bytesAt b (10 + 5 * i.val) 5 = laneBytes c.lanes[i]) ∧
    (∀ i : Fin 6, bytesAt b (50 + 4 * i.val) 4 = scheduleBytes c.schedule[i]) ∧
    (∀ i : Fin 8, bytesAt b (74 + 11 * i.val) 11 = rangeBytes c.ranges[i]) ∧
    ∀ i : Fin 10, bytesAt b (162 + 1 * i.val) 1 = beBytes 1 (routeField c.routes[i]) := by
  have whole : b = bytesAt b 0 (10 + (5 * 8 + (4 * 6 + (11 * 8 + 1 * 10)))) := by
    have all := bytesAt_zero_length b
    rw [length] at all
    exact all.symm
  have lanes_length : (c.lanes.toList.flatMap laneBytes).length = 5 * 8 := by
    simp [List.length_flatMap, laneBytes_length]
  have schedule_length : (c.schedule.toList.flatMap scheduleBytes).length = 4 * 6 := by
    simp [List.length_flatMap, scheduleBytes_length]
  have ranges_length : (c.ranges.toList.flatMap rangeBytes).length = 11 * 8 := by
    simp [List.length_flatMap, rangeBytes_length]
  have scalar_length : (scalarBytes c).length = 10 := by simp [scalarBytes]
  rw [show b = configBlock c ↔ bytesAt b 0 (10 + (5 * 8 + (4 * 6 + (11 * 8 + 1 * 10)))) = configBlock c by rw [← whole]]
  simp only [configBlock, List.append_assoc, routeBytes]
  rw [bytesAt_eq_append (by omega) scalar_length, bytesAt_eq_append (by omega) lanes_length,
    bytesAt_eq_append (by omega) schedule_length, bytesAt_eq_append (by omega) ranges_length,
    bytesAt_eq_flatMap_vector laneBytes_length _ (by omega), bytesAt_eq_flatMap_vector scheduleBytes_length _ (by omega),
    bytesAt_eq_flatMap_vector rangeBytes_length _ (by omega),
    bytesAt_eq_flatMap_vector (fun r => beBytes_length 1 (routeField r)) _ (by omega)]

theorem scalarBytes_iff (length : b.length = 172) (count : c.sponsorCount ≤ 64) (ceiling : c.ceiling ≤ 2000000)
    (lowMark : c.lowMark ≤ 100000000) (drainLimit : c.drainLimit ≤ 900) : bytesAt b 0 10 = scalarBytes c ↔
      readField b 0 1 = c.sponsorCount ∧ readField b 1 3 = c.ceiling ∧ readField b 4 4 = c.lowMark ∧
        readField b 8 2 = c.drainLimit := by
  rw [scalarBytes, List.append_assoc, List.append_assoc, show 10 = 1 + (3 + (4 + 2)) from rfl,
    bytesAt_eq_append (by omega) (beBytes_length 1 _), bytesAt_eq_append (by omega) (beBytes_length 3 _),
    bytesAt_eq_append (by omega) (beBytes_length 4 _), bytesAt_eq_beBytes (by omega) (by omega),
    bytesAt_eq_beBytes (by omega) (by omega), bytesAt_eq_beBytes (by omega) (by omega),
    bytesAt_eq_beBytes (by omega) (by omega)]

/-- The lanes a block spells. -/
def blockLanes (b : List Byte) : Vector (Option LaneSettings) 8 := Vector.ofFn fun i =>
  laneSettingsOf (readField b (10 + 5 * i.val) 1) (readField b (10 + 5 * i.val + 1) 2) (readField b (10 + 5 * i.val + 3) 1)
    (readField b (10 + 5 * i.val + 4) 1)

/-- The schedule entries a block spells. -/
def blockSchedule (b : List Byte) : Vector (Option ScheduleEntry) 6 := Vector.ofFn fun i =>
  scheduleEntryOf (readField b (50 + 4 * i.val) 3) (readField b (53 + 4 * i.val) 1)

/-- The range entries a block spells. -/
def blockRanges (b : List Byte) : Vector (Option RangeEntry) 8 := Vector.ofFn fun i =>
  rangeEntryOf (some (decide (128 ≤ readField b (74 + 11 * i.val + 7) 1))) (readField b (74 + 11 * i.val) 3)
    (readField b (74 + 11 * i.val + 3) 2) (readField b (74 + 11 * i.val + 5) 2)
    (blockSponsor (readField b (74 + 11 * i.val + 7) 1)) (readField b (74 + 11 * i.val + 8) 3)

/-- The routes a block spells. -/
def blockRoutes (b : List Byte) : Vector (Option (Option Lane)) 10 := Vector.ofFn fun i =>
  routeOfCode (readField b (162 + i.val) 1)

theorem blockLanes_eq (length : b.length = 172) (v : Vector LaneSettings 8) :
    allPresent (LaneSettings.default 0) (blockLanes b) = some v ↔
      ∀ i : Fin 8, v[i].inRange ∧ bytesAt b (10 + 5 * i.val) 5 = laneBytes v[i] := by
  rw [blockLanes, allPresent_ofFn]
  exact forall_congr' fun i => laneSettingsOf_bytes (by omega) _

theorem blockSchedule_eq (length : b.length = 172) (v : Vector ScheduleEntry 6) :
    allPresent { time := 0, enabled := false } (blockSchedule b) = some v ↔
      ∀ i : Fin 6, v[i].time ≤ 86399 ∧ bytesAt b (50 + 4 * i.val) 4 = scheduleBytes v[i] := by
  rw [blockSchedule, allPresent_ofFn]
  refine forall_congr' fun i => ?_
  rw [← scheduleEntryOf_bytes (by omega), show 53 + 4 * i.val = 50 + 4 * i.val + 3 by omega]

theorem blockRanges_eq (length : b.length = 172) (v : Vector RangeEntry 8) :
    allPresent RangeEntry.default (blockRanges b) = some v ↔
      ∀ i : Fin 8, v[i].inRange ∧ bytesAt b (74 + 11 * i.val) 11 = rangeBytes v[i] := by
  rw [blockRanges, allPresent_ofFn]
  exact forall_congr' fun i => rangeEntryOf_bytes (by omega) _

theorem blockRoutes_eq (length : b.length = 172) (v : Vector (Option Lane) 10) :
    allPresent none (blockRoutes b) = some v ↔
      ∀ i : Fin 10, bytesAt b (162 + 1 * i.val) 1 = beBytes 1 (routeField v[i]) := by
  rw [blockRoutes, allPresent_ofFn]
  refine forall_congr' fun i => ?_
  rw [Nat.one_mul, routeOfCode_bytes (by omega)]

/-- The configuration in range, part by part. -/
theorem WorkingConfig.inRange_iff : c.inRange ↔
    (c.sponsorCount ≤ 64 ∧ c.ceiling ≤ 2000000 ∧ c.lowMark ≤ 100000000 ∧ (10 ≤ c.drainLimit ∧ c.drainLimit ≤ 900) ∧
      slotEndsInOrder c.ranges = true ∧ clearOfSponsors c.ranges c.sponsorCount = true ∧ cardsApart c.ranges = true) ∧
    (∀ i : Fin 8, c.lanes[i].inRange) ∧ (∀ i : Fin 6, c.schedule[i].time ≤ 86399) ∧ ∀ i : Fin 8, c.ranges[i].inRange := by
  unfold WorkingConfig.inRange LaneSettings.inRange RangeEntry.inRange
  tauto

/-- The block of 172 bytes spells a configuration exactly where it is its block and every value lies in range. -/
theorem readConfigBlock_eq_some (length : b.length = 172) :
    readConfigBlock b = some c ↔ c.inRange ∧ b = configBlock c := by
  have spells : readConfigBlock b = some c ↔
      (allPresent (LaneSettings.default 0) (blockLanes b) = some c.lanes ∧
        allPresent { time := 0, enabled := false } (blockSchedule b) = some c.schedule ∧
        allPresent RangeEntry.default (blockRanges b) = some c.ranges ∧
        allPresent none (blockRoutes b) = some c.routes) ∧
      (readField b 0 1 = c.sponsorCount ∧ readField b 1 3 = c.ceiling ∧ readField b 4 4 = c.lowMark ∧
        readField b 8 2 = c.drainLimit) ∧
      c.sponsorCount ≤ 64 ∧ c.ceiling ≤ 2000000 ∧ c.lowMark ≤ 100000000 ∧ (10 ≤ c.drainLimit ∧ c.drainLimit ≤ 900) ∧
        slotEndsInOrder c.ranges = true ∧ clearOfSponsors c.ranges c.sponsorCount = true ∧ cardsApart c.ranges = true := by
    constructor
    · intro read
      unfold readConfigBlock at read
      dsimp only at read
      split at read
      next ls sc rs ro lanes schedule ranges routes =>
        split at read
        next range =>
          cases read
          exact ⟨⟨lanes, schedule, ranges, routes⟩, ⟨rfl, rfl, rfl, rfl⟩, range⟩
        next => cases read
      next => cases read
    · rintro ⟨⟨lanes, schedule, ranges, routes⟩, ⟨count, ceiling, lowMark, drainLimit⟩, range⟩
      unfold blockLanes at lanes
      unfold blockSchedule at schedule
      unfold blockRanges at ranges
      unfold blockRoutes at routes
      unfold readConfigBlock
      simp only [lanes, schedule, ranges, routes, count, ceiling, lowMark, drainLimit]
      exact if_pos range
  rw [spells, WorkingConfig.inRange_iff, eq_configBlock_iff length, blockLanes_eq length, blockSchedule_eq length,
    blockRanges_eq length, blockRoutes_eq length, forall_and, forall_and, forall_and]
  constructor
  · rintro ⟨⟨⟨lanes, lanes_at⟩, ⟨schedule, schedule_at⟩, ⟨ranges, ranges_at⟩, routes_at⟩, scalars, range⟩
    obtain ⟨count, ceiling, lowMark, drainLimit, -⟩ := id range
    exact ⟨⟨range, lanes, schedule, ranges⟩,
      (scalarBytes_iff length count ceiling lowMark drainLimit.2).mpr scalars, lanes_at, schedule_at, ranges_at, routes_at⟩
  · rintro ⟨⟨range, lanes, schedule, ranges⟩, scalars, lanes_at, schedule_at, ranges_at, routes_at⟩
    obtain ⟨count, ceiling, lowMark, drainLimit, -⟩ := id range
    exact ⟨⟨⟨lanes, lanes_at⟩, ⟨schedule, schedule_at⟩, ⟨ranges, ranges_at⟩, routes_at⟩,
      (scalarBytes_iff length count ceiling lowMark drainLimit.2).mp scalars, range⟩

end

/-! ## The header -/

section
variable {h : List Byte}

theorem judgeHeader_noMark (unmarked : h.take 4 ≠ formatMark) : judgeHeader h = .noMark := if_pos unmarked

theorem judgeHeader_bad (length : h.length = 430) (marked : h.take 4 = formatMark)
    (bad : (h.drop 13).take 2 ≠ checkBytes (h.take 13) ∨ (h.drop 4).take 1 ≠ [0x01]) : judgeHeader h = .bad := by
  have judged : (!markAndCheckOk h || decide (readField h 4 1 ≠ 1)) = true := by
    rcases bad with check | version
    · simp [markAndCheckOk, check]
    · have other : readField h 4 1 ≠ 1 := fun one =>
        version ((bytesAt_eq_beBytes (b := h) (off := 4) (n := 1) (v := 1) (by omega) (by decide)).mpr one)
      simp [other]
  rw [judgeHeader, if_neg (not_not.mpr marked)]
  exact if_pos (by simpa using judged)

/-- A good header gives the ring base, the period and the block's configuration. -/
theorem judgeHeader_good (length : h.length = 430) {base period : Nat} (base_lt : base < 2 ^ 32) (period_lt : period < 2 ^ 32)
    (start : h.take 13 = [0x5A, 0x3C, 0x96, 0xC3, 0x01] ++ beBytes 4 base ++ beBytes 4 period)
    (check : (h.drop 13).take 2 = checkBytes (h.take 13)) : judgeHeader h = .good base period
      (if (h.drop 0x1AC).take 2 = checkBytes ((h.drop 0x100).take 172) then readConfigBlock ((h.drop 0x100).take 172)
        else none) := by
  have fields : bytesAt h 0 (4 + (1 + (4 + 4))) = formatMark ++ (beBytes 1 1 ++ (beBytes 4 base ++ beBytes 4 period)) :=
    start
  rw [bytesAt_eq_append (by omega) (show formatMark.length = 4 from rfl), bytesAt_eq_append (by omega) (beBytes_length 1 1),
    bytesAt_eq_append (by omega) (beBytes_length 4 base), bytesAt_eq_beBytes (by omega) (by decide),
    bytesAt_eq_beBytes (by omega) base_lt, bytesAt_eq_beBytes (by omega) period_lt] at fields
  obtain ⟨mark, version, base_at, period_at⟩ := fields
  have marked : h.take 4 = formatMark := mark
  have ok : markAndCheckOk h = true := by simp [markAndCheckOk, marked, check]
  have sound : ¬ ((!markAndCheckOk h) = true ∨ readField h 4 1 ≠ 1) := by
    rw [ok]
    exact fun judged => judged.elim (by simp) (· version)
  rw [judgeHeader, if_neg (not_not.mpr marked), if_neg (by simpa using sound)]
  exact congrArg₂ (HeaderFound.good · · _) base_at period_at

end

/-! ## The configuration loaded -/

section
variable {s : State}

/-- `t` is `s` with a configuration loaded and the lanes opened, in what that leaves unchanged (R167, R188). -/
def State.OpensTo (s t : State) : Prop :=
  (∀ l : Lane, t.lanes[l] = { s.lanes[l] with
    settings := t.lanes[l].settings,
    receiver := if t.lanes[l].settings.role = .off then .closed else .discarding }) ∧
  t.config.lock = s.config.lock ∧ t.memory = s.memory ∧ t.journal = s.journal ∧ t.deadlines = s.deadlines ∧
  t.engine = { s.engine with sponsorCount := t.engine.sponsorCount, ranges := t.engine.ranges }

theorem loadConfig_lane (c : WorkingConfig) (source : ConfigSource) (l : Lane) :
    (loadConfig c source s).lanes[l] = s.lanes[l].opened c.lanes[l] := by
  simp [loadConfig]

theorem loadConfig_workingConfig (c : WorkingConfig) (source : ConfigSource) :
    (loadConfig c source s).workingConfig = c := by
  have lanes : (loadConfig c source s).lanes.map LaneUnit.settings = c.lanes := by
    refine Vector.ext fun i hi => ?_
    rw [Vector.getElem_map]
    exact congrArg LaneUnit.settings (loadConfig_lane c source ⟨i, hi⟩)
  exact congrArg (fun v => { c with lanes := v }) lanes

theorem raiseFlag_workingConfig (c : EventClass) : (raiseFlag c s).workingConfig = s.workingConfig := by
  rw [raiseFlag_eq]
  rfl

theorem loadConfig_opensTo (c : WorkingConfig) (source : ConfigSource) : s.OpensTo (loadConfig c source s) := by
  refine ⟨fun l => ?_, rfl, rfl, rfl, rfl, rfl⟩
  rw [loadConfig_lane]
  rfl

theorem State.OpensTo.raiseFlag {t : State} (opens : s.OpensTo t) (c : EventClass) : s.OpensTo (raiseFlag c t) := by
  rw [raiseFlag_eq]
  exact opens

theorem loadHeader_opensTo (found : HeaderFound) : s.OpensTo (loadHeader found s) := by
  cases found with
  | noMark => exact loadConfig_opensTo _ _
  | bad => exact loadConfig_opensTo _ _
  | good base period config =>
    cases config with
    | none => exact (loadConfig_opensTo WorkingConfig.default .defaults).raiseFlag .configDefaulted
    | some c => exact loadConfig_opensTo c .header

/-- A good header is taken over with its ring base and period, whatever its block spells. -/
theorem loadHeader_good_restore (base period : Nat) (config : Option WorkingConfig) :
    (loadHeader (.good base period config) s).restore = { s.restore with
      stage := .ringScan config.isNone, ringBase := base, formatPeriod := period } := by
  cases config with
  | none =>
    show { (raiseFlag .configDefaulted (loadConfig WorkingConfig.default .defaults s)).restore with
      stage := .ringScan true, ringBase := base, formatPeriod := period } = _
    rw [raiseFlag_restore]
    rfl
  | some c => rfl

/-- Where no configuration is read, the defaults take effect. -/
theorem loadHeader_defaulted (s : State) (base period : Nat) :
    (loadHeader (.good base period none) s).workingConfig = WorkingConfig.default ∧
      (loadHeader (.good base period none) s).config.source = .defaults := by
  have working : (loadHeader (.good base period none) s).workingConfig =
      (raiseFlag .configDefaulted (loadConfig WorkingConfig.default .defaults s)).workingConfig := rfl
  have config : (loadHeader (.good base period none) s).config =
      (raiseFlag .configDefaulted (loadConfig WorkingConfig.default .defaults s)).config := rfl
  rw [working, config, raiseFlag_workingConfig, raiseFlag_config]
  exact ⟨loadConfig_workingConfig _ _, rfl⟩

theorem exec_restoreHeaderLoaded {answer : StoreAnswer} (released : s.restore.inReset = false)
    (part : s.restore.part = .restoring) (stage : s.restore.stage = .header) :
    exec (.restoreHeaderLoaded answer) s = .next (loadHeader (judgeHeader (readAnswer answer s.memory 0 430)) s) :=
  (event_of_released released).trans (congrArg _ (if_pos ⟨part, stage⟩))

end

/-- Settles O57: what the restore's first step does with each header, and what a configuration block spells. -/
theorem headerLoaded : Obligations.headerLoaded := by
  unfold Obligations.headerLoaded
  refine ⟨fun answer s h block released part stage h_eq block_eq => ?_, fun b c length => readConfigBlock_eq_some length⟩
  have length : h.length = 430 := by rw [h_eq, readAnswer_length]
  have block_length : block.length = 172 := by
    rw [block_eq, List.length_take, List.length_drop, length]
    rfl
  refine ⟨_, exec_restoreHeaderLoaded released part stage, ?_⟩
  rw [← h_eq]
  refine ⟨fun unmarked => ?_, fun marked bad => ?_, fun base period base_lt period_lt start check => ?_,
    loadHeader_opensTo (judgeHeader h)⟩
  · rw [judgeHeader_noMark unmarked]
    exact ⟨rfl, rfl, loadConfig_workingConfig WorkingConfig.default .defaults, rfl⟩
  · rw [judgeHeader_bad length marked bad]
    exact ⟨rfl, rfl, loadConfig_workingConfig WorkingConfig.default .defaults, rfl⟩
  · have good := judgeHeader_good length base_lt period_lt start check
    rw [← block_eq] at good
    refine ⟨?_, ?_, ?_, ?_, fun c range block_is block_check => ?_, fun unread => ?_⟩
    case refine_5 =>
      rw [good, if_pos block_check, (readConfigBlock_eq_some block_length).mpr ⟨range, block_is⟩]
      exact ⟨rfl, loadConfig_workingConfig c .header, rfl, rfl⟩
    case refine_6 =>
      have none_read : (if (h.drop 0x1AC).take 2 = checkBytes block then readConfigBlock block else none) = none := by
        split
        next block_check =>
          have no_block := unread.resolve_right (not_not.mpr block_check)
          refine Option.eq_none_iff_forall_ne_some.mpr fun c read => ?_
          obtain ⟨range, block_is⟩ := (readConfigBlock_eq_some block_length).mp read
          exact no_block c range block_is
        next => rfl
      rw [good, none_read]
      obtain ⟨working, source⟩ := loadHeader_defaulted s base period
      exact ⟨by rw [loadHeader_good_restore]; rfl, working, source, raiseFlag_flag _ _⟩
    all_goals rw [good, loadHeader_good_restore]
    exact part

end Sys2Proof.Machine
end

section
/-! PROOF. The ring scan (R191): the newest number, the slots in the order of the numbers they have room for, and the records found. -/

namespace Sys2Proof.Machine

/-! ## The newest sequence number -/

theorem foldl_max_spec (xs : List Record) (n : Nat) :
    let top := xs.foldl (fun n r => max n r.sequence) n
    n ≤ top ∧ (∀ r ∈ xs, r.sequence ≤ top) ∧ (top = n ∨ ∃ r ∈ xs, r.sequence = top) := by
  induction xs generalizing n with
  | nil => exact ⟨Nat.le_refl n, nofun, .inl rfl⟩
  | cons x xs ih =>
    obtain ⟨above, bounds, attained⟩ := ih (max n x.sequence)
    refine ⟨(Nat.le_max_left _ _).trans above, fun r mem => ?_, ?_⟩
    · rcases List.mem_cons.mp mem with rfl | inside
      · exact (Nat.le_max_right _ _).trans above
      · exact bounds r inside
    · rcases attained with same | ⟨r, inside, same⟩
      · rcases Nat.le_total n x.sequence with less | more
        · exact .inr ⟨x, List.mem_cons_self, by rw [List.foldl_cons, same, Nat.max_eq_right less]⟩
        · exact .inl (by rw [List.foldl_cons, same, Nat.max_eq_left more])
      · exact .inr ⟨r, List.mem_cons_of_mem _ inside, same⟩

/-- The newest number is the one that bounds the valid units and is 0 or attained. -/
theorem newestSequence_eq {units : List (Option Record)} {n : Nat} (bounds : ∀ r, some r ∈ units → r.sequence ≤ n)
    (attained : n = 0 ∨ ∃ r, some r ∈ units ∧ r.sequence = n) : newestSequence units = n := by
  have mem : ∀ r, r ∈ units.filterMap id ↔ some r ∈ units := fun r => by simp
  obtain ⟨-, upper, met⟩ := foldl_max_spec (units.filterMap id) 0
  refine Nat.le_antisymm ?_ ?_
  · rcases met with zero | ⟨r, inside, same⟩
    · exact zero.trans_le (Nat.zero_le n)
    · exact same.symm.trans_le (bounds r ((mem r).mp inside))
  · rcases attained with rfl | ⟨r, inside, rfl⟩
    · exact Nat.zero_le _
    · exact upper r ((mem r).mpr inside)

/-! ## The slots in order -/

/-- A list read from place `k` on and round to it again. -/
theorem drop_append_take_range {α : Type} (f : Nat → α) {k size : Nat} (inside : k ≤ size) :
    ((List.range size).map f).drop k ++ ((List.range size).map f).take k =
      (List.range size).map fun i => f ((k + i) % size) := by
  rw [← List.rotate_eq_drop_append_take (by rw [List.length_map, List.length_range]; exact inside)]
  refine List.ext_getElem (by simp only [List.length_rotate, List.length_map]) fun i _ _ => ?_
  simp only [List.getElem_rotate, List.getElem_map, List.getElem_range, List.length_map, List.length_range, Nat.add_comm]

theorem map_zipIdx_range {α β : Type} (f : Nat → α) (g : α × Nat → β) (size : Nat) :
    ((List.range size).map f).zipIdx.map g = (List.range size).map fun i => g (f i, i) := by
  refine List.ext_getElem (by simp only [List.length_map, List.length_zipIdx]) fun i _ _ => ?_
  simp only [List.getElem_map, List.getElem_zipIdx, List.getElem_range, Nat.zero_add]

/-- The slot that has room for the `i`th of the 8,192 numbers up to `n` (R191). -/
def slotAt (n i : Nat) : Nat := (n + 1 + i) % 8192

theorem expectedOrder_eq (unit : Nat → Option Record) (n : Nat) :
    expectedOrder ((List.range 8192).map unit) n =
      (List.range 8192).map fun i => (unit (slotAt n i), (n : Int) - 8191 + i) := by
  have inside : (n + 1) % 8192 ≤ 8192 := (Nat.mod_lt _ (by decide)).le
  unfold expectedOrder
  dsimp only
  rw [drop_append_take_range unit inside, map_zipIdx_range]
  refine List.map_congr_left fun i _ => ?_
  rw [slotAt, Nat.mod_add_mod]

theorem all_first_rest {α : Type} (meets : Bool → α → Bool) (xs : List α) :
    ((xs.take 1).all (meets true) && (xs.drop 1).all (meets false)) = true ↔
      ∀ i (h : i < xs.length), meets (decide (i = 0)) xs[i] = true := by
  cases xs with
  | nil => simp
  | cons x xs =>
    rw [Bool.and_eq_true, List.all_eq_true, List.all_eq_true]
    refine ⟨fun ⟨first, rest⟩ i inside => ?_, fun all => ⟨fun y mem => ?_, fun y mem => ?_⟩⟩
    · cases i with
      | zero => exact first x (List.mem_singleton.mpr rfl)
      | succ i => exact rest _ (List.getElem_mem (Nat.lt_of_succ_lt_succ inside))
    · rw [List.mem_singleton.mp mem]
      exact all 0 (Nat.succ_pos _)
    · obtain ⟨i, inside, rfl⟩ := List.mem_iff_getElem.mp mem
      exact all (i + 1) (Nat.succ_lt_succ inside)

theorem slotMeets_iff (base : Nat) (first : Bool) (u : Option Record) (x : Int) : slotMeets base first (u, x) = true ↔
    x < base ∨ (∃ r, u = some r ∧ (r.sequence : Int) = x) ∨ first = true ∧ u = none := by
  cases u <;> simp [slotMeets]

/-- The ring is consistent where its newest number is not below the base and every slot at or above the base meets its number. -/
theorem ringConsistent_iff (base n : Nat) (unit : Nat → Option Record) :
    ringConsistent base n (expectedOrder ((List.range 8192).map unit) n) = true ↔ ¬ (0 < n ∧ n < base) ∧
      ∀ i : Nat, i < 8192 → (base : Int) ≤ (n : Int) - 8191 + i →
        (∃ r, unit (slotAt n i) = some r ∧ (r.sequence : Int) = (n : Int) - 8191 + i) ∨ i = 0 ∧ unit (slotAt n i) = none := by
  have not_below : (!(decide (0 < n) && decide (n < base))) = true ↔ ¬ (0 < n ∧ n < base) := by
    rw [Bool.not_eq_true', ← Bool.not_eq_true, Bool.and_eq_true, decide_eq_true_iff, decide_eq_true_iff]
  rw [ringConsistent, Bool.and_assoc, Bool.and_eq_true, not_below, all_first_rest (slotMeets base), expectedOrder_eq]
  refine and_congr_right fun _ => ?_
  simp only [List.length_map, List.length_range, List.getElem_map, List.getElem_range, slotMeets_iff, decide_eq_true_eq]
  refine forall₂_congr fun i _ => ?_
  rw [← Int.not_le, Classical.or_iff_not_imp_left, not_not]

/-- The records of the slots examined are those of the slots whose number is at or above the base. -/
theorem mem_examinedRecords (base n : Nat) (unit : Nat → Option Record) (r : Record) :
    r ∈ examinedRecords base (expectedOrder ((List.range 8192).map unit) n) ↔
      ∃ i : Nat, i < 8192 ∧ (base : Int) ≤ (n : Int) - 8191 + i ∧ unit (slotAt n i) = some r := by
  rw [examinedRecords, expectedOrder_eq, List.filterMap_map]
  simp only [List.mem_filterMap, List.mem_range, Function.comp_apply]
  refine exists_congr fun i => and_congr_right fun _ => ?_
  rcases Int.lt_or_le ((n : Int) - 8191 + i) base with below | above
  · rw [if_pos below]
    exact ⟨nofun, fun ⟨above, _⟩ => absurd below (Int.not_lt.mpr above)⟩
  · rw [if_neg (Int.not_lt.mpr above)]
    exact ⟨fun found => ⟨above, found⟩, And.right⟩

theorem examinedRecords_rising {base n : Nat} {unit : Nat → Option Record}
    (consistent : ringConsistent base n (expectedOrder ((List.range 8192).map unit) n) = true) :
    (examinedRecords base (expectedOrder ((List.range 8192).map unit) n)).Pairwise
      (fun r r' => r.sequence < r'.sequence) := by
  obtain ⟨-, meets⟩ := (ringConsistent_iff base n unit).mp consistent
  rw [examinedRecords, expectedOrder_eq, List.filterMap_map, List.pairwise_filterMap]
  have numbered : ∀ i ∈ List.range 8192, ∀ r, (if (n : Int) - 8191 + i < base then none else unit (slotAt n i)) = some r →
      (r.sequence : Int) = (n : Int) - 8191 + i := by
    intro i mem r found
    split at found
    next => cases found
    next above =>
      rcases meets i (List.mem_range.mp mem) (Int.not_lt.mp above) with ⟨r', held, number⟩ | ⟨-, empty⟩
      · rw [held] at found
        cases found
        exact number
      · rw [empty] at found
        cases found
  refine List.Pairwise.imp_of_mem (fun {i j} memi memj less r found r' found' => ?_) List.pairwise_lt_range
  have here := numbered i memi r found
  have there := numbered j memj r' found'
  omega

/-! ## The scan -/

/-- The number slot `k` has room for is the one its place in the order gives. -/
theorem slotAt_iff {n k i : Nat} {e : Int} (window : (n : Int) - 8191 ≤ e ∧ e ≤ n ∧ e % 8192 = k) (inside : i < 8192) :
    slotAt n i = k ↔ e = (n : Int) - 8191 + i := by
  unfold slotAt
  omega

theorem slotAt_lt (n i : Nat) : slotAt n i < 8192 := Nat.mod_lt _ (by decide)

section
variable {s : State} {answer : StoreAnswer} {defaulted : Bool} {unit : Nat → Option Record}

theorem exec_restoreRingScan (released : s.restore.inReset = false) (part : s.restore.part = .restoring)
    (stage : s.restore.stage = .ringScan defaulted) :
    exec (.restoreRingScan answer) s = .next (scanRing defaulted (ringRecords answer s.memory) s) := by
  have arm : exec (.restoreRingScan answer) s = execRestoreRingScan answer s := rfl
  rw [arm, execRestoreRingScan, event_of_released released]
  simp only [part, stage]

theorem ringRecords_eq {m : Memory} (units : ∀ k, unit k = readRecord k (readAnswer answer m (0x40000 + 32 * k) 32)) :
    ringRecords answer m = (List.range 8192).map unit :=
  List.map_congr_left fun k _ => (units k).symm

theorem scanRing_consistent {units : List (Option Record)} {n : Nat} (newest : newestSequence units = n)
    (consistent : ringConsistent s.restore.ringBase n (expectedOrder units n) = true) : scanRing defaulted units s =
      { s with restore := { s.restore with
        stage := .images defaulted n (examinedRecords s.restore.ringBase (expectedOrder units n)) } } := by
  subst newest
  exact if_pos consistent

theorem scanRing_inconsistent {units : List (Option Record)} {n : Nat} (newest : newestSequence units = n)
    (inconsistent : ¬ ringConsistent s.restore.ringBase n (expectedOrder units n) = true) : scanRing defaulted units s =
      { s with restore := { s.restore with part := .restoreFailed, finding := .ringInconsistent, stage := .idle } } := by
  subst newest
  exact if_neg inconsistent

end

/-- Settles O58: the newest number, the slots examined, and what the ring scan leads on to. -/
theorem ringScanned : Obligations.ringScanned := by
  unfold Obligations.ringScanned
  refine ⟨fun answer s defaulted released part stage => ⟨_, exec_restoreRingScan released part stage⟩,
    fun answer s defaulted unit N e examined consistent released part stage units bounds attained window examined_iff
      consistent_iff => ?_⟩
  have newest : newestSequence ((List.range 8192).map unit) = N := by
    refine newestSequence_eq (fun r mem => ?_) (attained.imp_right fun ⟨k, inside, r, held, same⟩ => ⟨r, ?_, same⟩)
    · obtain ⟨k, inside, held⟩ := List.mem_map.mp mem
      exact bounds k (List.mem_range.mp inside) r held
    · exact List.mem_map.mpr ⟨k, List.mem_range.mpr inside, held⟩
  have place : ∀ i < 8192, e (slotAt N i) = (N : Int) - 8191 + i := fun i inside =>
    (slotAt_iff (window _ (slotAt_lt N i)) inside).mp rfl
  have placed : ∀ k < 8192, ∃ i < 8192, slotAt N i = k := fun k inside => by
    obtain ⟨low, high, _⟩ := window k inside
    exact ⟨(e k - N + 8191).toNat, by omega, (slotAt_iff (window k inside) (by omega)).mpr (by omega)⟩
  have meets : consistent ↔
      ringConsistent s.restore.ringBase N (expectedOrder ((List.range 8192).map unit) N) = true := by
    rw [consistent_iff, ringConsistent_iff]
    refine and_congr_right fun _ => ⟨fun all i inside above => ?_, fun all k in_ring => ?_⟩
    · have slot := all (slotAt N i) ((examined_iff _).mpr ⟨slotAt_lt N i, by rwa [place i inside]⟩)
      rw [place i inside] at slot
      refine slot.imp_right fun ⟨first, empty⟩ => ⟨?_, empty⟩
      unfold slotAt at first
      omega
    · obtain ⟨inside, above⟩ := (examined_iff k).mp in_ring
      obtain ⟨i, small, rfl⟩ := placed k inside
      rw [place i small] at above ⊢
      exact (all i small above).imp_right fun ⟨first, empty⟩ => ⟨by rw [first]; rfl, empty⟩
  have found : ∀ r, r ∈ examinedRecords s.restore.ringBase (expectedOrder ((List.range 8192).map unit) N) ↔
      ∃ k, examined k ∧ unit k = some r := by
    intro r
    rw [mem_examinedRecords]
    constructor
    · rintro ⟨i, inside, above, held⟩
      exact ⟨slotAt N i, (examined_iff _).mpr ⟨slotAt_lt N i, by rwa [place i inside]⟩, held⟩
    · rintro ⟨k, in_ring, held⟩
      obtain ⟨inside, above⟩ := (examined_iff k).mp in_ring
      obtain ⟨i, small, rfl⟩ := placed k inside
      exact ⟨i, small, by rwa [place i small] at above, held⟩
  rw [exec_restoreRingScan released part stage, ringRecords_eq units]
  refine ⟨fun holds => ⟨_, ?_, found, examinedRecords_rising (meets.mp holds)⟩, fun fails => ?_, fun empty base_pos => ?_⟩
  · rw [scanRing_consistent newest (meets.mp holds)]
  · rw [scanRing_inconsistent newest (mt meets.mpr fails)]
  · have zero : N = 0 := attained.resolve_right fun ⟨k, inside, r, held, _⟩ => by
      rw [empty k inside] at held
      cases held
    subst zero
    have unexamined : ∀ k, ¬ examined k := fun k in_ring => by
      obtain ⟨inside, above⟩ := (examined_iff k).mp in_ring
      obtain ⟨_, high, _⟩ := window k inside
      omega
    have holds : consistent := consistent_iff.mpr ⟨fun below => absurd below.1 (Nat.lt_irrefl 0),
      fun k in_ring => absurd in_ring (unexamined k)⟩
    have no_records : examinedRecords s.restore.ringBase (expectedOrder ((List.range 8192).map unit) 0) = [] :=
      List.eq_nil_iff_forall_not_mem.mpr fun r mem => by
        obtain ⟨k, in_ring, -⟩ := (found r).mp mem
        exact unexamined k in_ring
    refine ⟨rfl, ?_⟩
    rw [scanRing_consistent newest (meets.mp holds), no_records]

end Sys2Proof.Machine
end

section
/-! PROOF. The purse table the restore rebuilds (R192): what each slot takes, whether it fits, and the table with every purse seated. -/

namespace Sys2Proof.Machine

/-! ## What a slot takes -/

section
variable {k : Nat}

/-- Below the end of the slots, a record carries an image for the slot where it names it. -/
theorem Record.imageFor_eq_some {r : Record} (inside : k < 4096) (i : Image) : r.imageFor k = some i ↔ r.Carries k i := by
  unfold Record.imageFor Record.Carries
  by_cases card : r.body.cardSlot = some k
  · simp only [card, if_true, Option.map_eq_some_iff, true_and, ne_eq, not_true, false_and, exists_false, or_false]
    exact exists_congr fun c => and_congr_right fun _ => eq_comm
  · have names : r.body.sponsor = some (4095 - k) ↔ ∃ a, r.body.sponsorAfter = some a ∧ a.sponsor + k = 4095 := by
      rw [RecordBody.sponsor, Option.map_eq_some_iff]
      exact exists_congr fun a => and_congr_right fun _ => by omega
    simp only [card, if_false, false_and, exists_false, false_or, ne_eq, not_false_eq_true, true_and]
    by_cases named : r.body.sponsor = some (4095 - k)
    · obtain ⟨a, after, here⟩ := names.mp named
      simp [named, after, here, eq_comm]
    · rw [if_neg named]
      exact ⟨nofun, fun ⟨a, after, here, _⟩ => absurd (names.mpr ⟨a, after, here⟩) named⟩

theorem newestFor_concat (records : List Record) (r : Record) :
    newestFor (records ++ [r]) k = (r.imageFor k).or (newestFor records k) := by
  rw [newestFor, List.foldl_append]
  rfl

theorem newestFor_eq_none {records : List Record} (absent : newestFor records k = none) :
    ∀ r ∈ records, r.imageFor k = none := by
  induction records using List.reverseRecOn with
  | nil => exact nofun
  | append_singleton records r ih =>
    rw [newestFor_concat, Option.or_eq_none_iff] at absent
    intro r' mem
    rcases List.mem_append.mp mem with earlier | last
    · exact ih absent.2 r' earlier
    · rw [List.mem_singleton.mp last]
      exact absent.1

/-- The image kept for a slot is that of the newest record that names it. -/
theorem newestFor_eq_some {records : List Record} (rising : records.Pairwise fun r r' => r.sequence < r'.sequence)
    {j : Image} (found : newestFor records k = some j) : ∃ r ∈ records, r.imageFor k = some j ∧
      ∀ r' ∈ records, ∀ j', r'.imageFor k = some j' → r'.sequence ≤ r.sequence := by
  induction records using List.reverseRecOn with
  | nil => cases found
  | append_singleton records r ih =>
    obtain ⟨rising, -, below⟩ := List.pairwise_append.mp rising
    rw [newestFor_concat] at found
    cases last : r.imageFor k with
    | some i =>
      rw [last] at found
      cases found
      refine ⟨r, by simp, last, fun r' mem _ _ => ?_⟩
      rcases List.mem_append.mp mem with earlier | same
      · exact (below r' earlier r (List.mem_singleton.mpr rfl)).le
      · exact (congrArg Record.sequence (List.mem_singleton.mp same)).le
    | none =>
      rw [last, Option.none_or] at found
      obtain ⟨r', mem, carries, newest⟩ := ih rising found
      refine ⟨r', List.mem_append_left _ mem, carries, fun r'' mem' j' carries' => ?_⟩
      rcases List.mem_append.mp mem' with earlier | same
      · exact newest r'' earlier j' carries'
      · rw [List.mem_singleton.mp same, last] at carries'
        cases carries'

/-- What the slots take is what the restore computes for them. -/
theorem SlotTakes.eq_slotTakes {image : Nat → Option Image} {records : List Record} {taken : Nat → Option (Image × Bool)}
    (takes : SlotTakes image records taken) (rising : records.Pairwise fun r r' => r.sequence < r'.sequence)
    (inside : k < 4096) : taken k = slotTakes (image k) (newestFor records k) := by
  obtain ⟨with_record, without⟩ := takes k inside
  cases found : newestFor records k with
  | none =>
    have unnamed := newestFor_eq_none found
    obtain ⟨kept, lost⟩ := without fun r mem j carries => by
      rw [← Record.imageFor_eq_some inside, unnamed r mem] at carries
      cases carries
    cases read : image k with
    | none => exact lost read
    | some i => exact kept i read
  | some j =>
    obtain ⟨r, mem, carries, newest⟩ := newestFor_eq_some rising found
    obtain ⟨newer, older, absent⟩ := with_record j ⟨r, mem, (Record.imageFor_eq_some inside j).mp carries,
      fun r' mem' j' carries' => newest r' mem' j' ((Record.imageFor_eq_some inside j').mpr carries')⟩
    cases read : image k with
    | none => exact absent read
    | some i =>
      by_cases order : j.sequence ≤ i.sequence
      · exact (newer i read order).trans (if_pos order).symm
      · exact (older i read (Nat.lt_of_not_le order)).trans (if_neg order).symm

end

/-! ## Whether a purse fits -/

/-- A fitted purse is in its place in the table. -/
def Fitted.SitsIn (k : Nat) (e : Engine) : Fitted → Prop
  | .card p => e.card k = p
  | .sponsor balance => e.sponsor (4095 - k) = ⟨balance, 0, 0⟩

section
variable {e e' : Engine} {k : Nat} {c : CardAfter} {q balance : Nat} {i : Image} {x : Fitted}

theorem fitPurse_card_inside (inside : k + e.sponsorCount < 4096) : fitPurse e k (.card c q) =
    if restoredState k q c.state = .free ∨ slotOf e.ranges c.cardNumber = some k then
      some (.card (CardPurse.free.withAfter { c with state := restoredState k q c.state })) else none :=
  if_pos ((e.isCardSlot_iff k).mpr inside)

theorem fitPurse_card_outside (outside : 4096 ≤ k + e.sponsorCount) : fitPurse e k (.card c q) =
    if restoredState k q c.state = .free then some (.sponsor 0) else none :=
  if_neg (mt (e.isCardSlot_iff k).mp (Nat.not_lt.mpr outside))

theorem fitPurse_sponsor_inside (inside : k + e.sponsorCount < 4096) : fitPurse e k (.sponsor balance q) =
    if balance = 0 then some (.card .free) else none := if_pos ((e.isCardSlot_iff k).mpr inside)

theorem fitPurse_sponsor_outside (outside : 4096 ≤ k + e.sponsorCount) :
    fitPurse e k (.sponsor balance q) = some (.sponsor balance) :=
  if_neg (mt (e.isCardSlot_iff k).mp (Nat.not_lt.mpr outside))

/-- A purse does not fit where it is misplaced (R192). -/
theorem fitPurse_eq_none : fitPurse e k i = none ↔ e.Misplaces k i := by
  unfold Engine.Misplaces
  rcases Nat.lt_or_ge (k + e.sponsorCount) 4096 with inside | outside
  · have not_outside := Nat.not_le.mpr inside
    cases i with
    | card c q => simp [fitPurse_card_inside inside, not_outside]
    | sponsor balance q => simp [fitPurse_sponsor_inside inside, inside, Nat.pos_iff_ne_zero]
  · have not_inside := Nat.not_lt.mpr outside
    cases i with
    | card c q => simp [fitPurse_card_outside outside, outside]
    | sponsor balance q => simp [fitPurse_sponsor_outside outside, not_inside]

/-- Fitting looks at the loaded configuration alone. -/
theorem fitPurse_congr (count : e'.sponsorCount = e.sponsorCount) (ranges : e'.ranges = e.ranges) :
    fitPurse e' k i = fitPurse e k i := by
  unfold fitPurse Engine.isCardSlot
  rw [count, ranges]

theorem fitPurse_region (fits : fitPurse e k i = some x) : match x with
    | .card _ => k + e.sponsorCount < 4096
    | .sponsor _ => 4096 ≤ k + e.sponsorCount := by
  rcases Nat.lt_or_ge (k + e.sponsorCount) 4096 with inside | outside
  · cases i with
    | card c q =>
      rw [fitPurse_card_inside inside] at fits
      split at fits <;> cases fits
      exact inside
    | sponsor balance q =>
      rw [fitPurse_sponsor_inside inside] at fits
      split at fits <;> cases fits
      exact inside
  · cases i with
    | card c q =>
      rw [fitPurse_card_outside outside] at fits
      split at fits <;> cases fits
      exact outside
    | sponsor balance q =>
      rw [fitPurse_sponsor_outside outside] at fits
      cases fits
      exact outside

/-- A purse that fits and is in its place is seated (R192). -/
theorem Engine.seats_of_sitsIn (count : e'.sponsorCount = e.sponsorCount) (fits : fitPurse e k i = some x)
    (sits : x.SitsIn k e') : e'.Seats k i := by
  unfold Engine.Seats
  rw [count]
  refine ⟨fun balance q i_eq outside => ?_, fun balance q i_eq inside => ?_, fun c q i_eq outside => ?_,
    fun c q i_eq inside => ?_⟩ <;> subst i_eq
  · rw [fitPurse_sponsor_outside outside] at fits
    cases fits
    exact sits
  · rw [fitPurse_sponsor_inside inside] at fits
    split at fits <;> cases fits
    exact sits
  · rw [fitPurse_card_outside outside] at fits
    split at fits <;> cases fits
    exact sits
  · rw [fitPurse_card_inside inside] at fits
    split at fits <;> cases fits
    exact sits

end

end Sys2Proof.Machine
end

section
/-! PROOF. The purse table rebuilt slot by slot (R192). -/

namespace Sys2Proof.Machine

section
variable {image : Nat → Option Image} {records : List Record} {e e' : Engine} {k : Nat} {ks : List Nat}
  {acc : List (Nat × List Byte)}

/-! ## One slot placed -/

theorem placePurse_frame (k : Nat) (x : Fitted) (e : Engine) :
    placePurse k x e = { e with cards := (placePurse k x e).cards, sponsors := (placePurse k x e).sponsors } := by
  cases x <;> rfl

theorem placePurse_tables (x : Fitted) (canonical : Table.wf .free e.cards = true ∧ Table.wf .zero e.sponsors = true) :
    Table.wf .free (placePurse k x e).cards = true ∧ Table.wf .zero (placePurse k x e).sponsors = true := by
  cases x with
  | card p => exact ⟨Table.wf_put _ _ canonical.1, canonical.2⟩
  | sponsor balance => exact ⟨canonical.1, Table.wf_put _ _ canonical.2⟩

theorem placePurse_sitsIn (x : Fitted) (canonical : Table.wf .free e.cards = true ∧ Table.wf .zero e.sponsors = true) :
    x.SitsIn k (placePurse k x e) := by
  cases x with
  | card p => exact Engine.card_mapCard_same e canonical.1 k _
  | sponsor balance => exact Engine.sponsor_mapSponsor_same e canonical.2 (4095 - k) _

/-! ## The slots that are left -/

/-- The image slot `k` is rewritten with, where it is (R192). -/
def rewriteAt (image : Nat → Option Image) (records : List Record) (k : Nat) : Option (Nat × List Byte) :=
  match slotTakes (image k) (newestFor records k) with
  | some (i, true) => some (k, imageUnit k i)
  | _ => none

theorem rewriteAt_eq_some {x : Nat × List Byte} : rewriteAt image records k = some x ↔
    ∃ i, slotTakes (image k) (newestFor records k) = some (i, true) ∧ x = (k, imageUnit k i) := by
  unfold rewriteAt
  split
  next i taken => simp [taken, eq_comm]
  next other => exact ⟨nofun, fun ⟨i, taken, _⟩ => absurd taken (other i)⟩

/-- Slot `k` fails with the finding `f` (R192). -/
def FailsAt (image : Nat → Option Image) (records : List Record) (e : Engine) (k : Nat) (f : Finding) : Prop :=
  slotTakes (image k) (newestFor records k) = none ∧ f = .imageInvalid ∨
    ∃ i again, slotTakes (image k) (newestFor records k) = some (i, again) ∧ fitPurse e k i = none ∧ f = .purseMisplaced

theorem exists_fits (sound : ∀ f, ¬ FailsAt image records e k f) : ∃ i again x,
    slotTakes (image k) (newestFor records k) = some (i, again) ∧ fitPurse e k i = some x := by
  cases taken : slotTakes (image k) (newestFor records k) with
  | none => exact absurd (.inl ⟨taken, rfl⟩) (sound .imageInvalid)
  | some y =>
    obtain ⟨i, again⟩ := y
    cases fits : fitPurse e k i with
    | none => exact absurd (.inr ⟨i, again, taken, fits, rfl⟩) (sound .purseMisplaced)
    | some x => exact ⟨i, again, x, rfl, fits⟩

theorem failsAt_congr {f : Finding} (count : e'.sponsorCount = e.sponsorCount) (ranges : e'.ranges = e.ranges) :
    FailsAt image records e' k f ↔ FailsAt image records e k f := by
  unfold FailsAt
  simp only [fitPurse_congr count ranges]

theorem rebuild_cons {i : Image} {again : Bool} {x : Fitted}
    (taken : slotTakes (image k) (newestFor records k) = some (i, again)) (fits : fitPurse e k i = some x) :
    rebuild image records (k :: ks) e acc =
      rebuild image records ks (placePurse k x e) ((rewriteAt image records k).toList ++ acc) := by
  rw [rebuild, rewriteAt, taken]
  dsimp only
  rw [fits]
  cases again <;> rfl

/-- A slot that fails after slots that do not names the finding. -/
theorem rebuild_error {f : Finding} {pre post : List Nat} (sound : ∀ j ∈ pre, ∀ f, ¬ FailsAt image records e j f)
    (fails : FailsAt image records e k f) : rebuild image records (pre ++ k :: post) e acc = .error f := by
  induction pre generalizing e acc with
  | nil =>
    rcases fails with ⟨taken, rfl⟩ | ⟨i, again, taken, fits, rfl⟩
    · rw [List.nil_append, rebuild, taken]
    · rw [List.nil_append, rebuild, taken]
      dsimp only
      rw [fits]
  | cons j pre ih =>
    obtain ⟨i, again, x, taken, fits⟩ := exists_fits (sound j List.mem_cons_self)
    have same := placePurse_frame j x e
    have count : (placePurse j x e).sponsorCount = e.sponsorCount := by rw [same]
    have ranges : (placePurse j x e).ranges = e.ranges := by rw [same]
    rw [List.cons_append, rebuild_cons taken fits]
    exact ih (fun j' mem f' => mt (failsAt_congr count ranges).mp (sound j' (List.mem_cons_of_mem _ mem) f'))
      ((failsAt_congr count ranges).mpr fails)

/-- `e'` is `e` with the purses taken for the slots `ks` put in place (R192). -/
structure Rebuilds (image : Nat → Option Image) (records : List Record) (ks : List Nat) (e e' : Engine) : Prop where
  frame : e' = { e with cards := e'.cards, sponsors := e'.sponsors }
  sits : ∀ k ∈ ks, ∀ i again x, slotTakes (image k) (newestFor records k) = some (i, again) → fitPurse e k i = some x →
    x.SitsIn k e'
  cards : ∀ j, j ∉ ks ∨ 4096 ≤ j + e.sponsorCount → e'.card j = e.card j
  sponsors : ∀ m, (∀ k ∈ ks, 4095 - k = m → k + e.sponsorCount < 4096) → e'.sponsor m = e.sponsor m

theorem Rebuilds.nil : Rebuilds image records [] e e := ⟨rfl, nofun, fun _ _ => rfl, fun _ _ => rfl⟩

theorem Rebuilds.cons {i : Image} {again : Bool} {x : Fitted} (canonical : Table.wf .free e.cards = true ∧
      Table.wf .zero e.sponsors = true) (rising : (k :: ks).Pairwise (· < ·)) (inside : ∀ j ∈ k :: ks, j < 4096)
    (taken : slotTakes (image k) (newestFor records k) = some (i, again)) (fits : fitPurse e k i = some x)
    (rest : Rebuilds image records ks (placePurse k x e) e') : Rebuilds image records (k :: ks) e e' := by
  obtain ⟨later, -⟩ := List.pairwise_cons.mp rising
  obtain ⟨frame, sits, cards, sponsors⟩ := rest
  have same := placePurse_frame k x e
  have count : (placePurse k x e).sponsorCount = e.sponsorCount := by rw [same]
  have ranges : (placePurse k x e).ranges = e.ranges := by rw [same]
  have region := fitPurse_region fits
  have not_later : k ∉ ks := fun mem => Nat.lt_irrefl k (later k mem)
  have k_inside := inside k List.mem_cons_self
  have placed := placePurse_sitsIn (k := k) x canonical
  refine ⟨?_, fun j mem i' again' x' taken' fits' => ?_, fun j apart => ?_, fun m apart => ?_⟩
  · rw [frame, same]
  · rcases List.mem_cons.mp mem with rfl | mem
    · rw [taken] at taken'
      cases taken'
      rw [fits] at fits'
      cases fits'
      cases x with
      | card p => exact (cards j (.inl not_later)).trans placed
      | sponsor balance =>
        refine (sponsors (4095 - j) fun k' mem' same_sponsor => ?_).trans placed
        have above := later k' mem'
        have below := inside k' (List.mem_cons_of_mem _ mem')
        omega
    · exact sits j mem i' again' x' taken' (by rwa [fitPurse_congr count ranges])
  · refine (cards j ?_).trans ?_
    · rw [count]
      exact apart.imp_left fun absent mem => absent (List.mem_cons_of_mem _ mem)
    · cases x with
      | card p =>
        refine Engine.card_mapCard_other e (fun same_slot => ?_) _
        subst same_slot
        rcases apart with absent | outside
        · exact absent List.mem_cons_self
        · exact absurd region (Nat.not_lt.mpr outside)
      | sponsor balance => rfl
  · refine (sponsors m fun k' mem' same_sponsor => ?_).trans ?_
    · rw [count]
      exact apart k' (List.mem_cons_of_mem _ mem') same_sponsor
    · cases x with
      | card p => rfl
      | sponsor balance =>
        refine Engine.sponsor_mapSponsor_other e (fun same_sponsor => ?_) _
        exact absurd region (Nat.not_le.mpr (apart k List.mem_cons_self same_sponsor.symm))

/-- Where no slot fails, the table is rebuilt, and the rewrites are those of the slots in order. -/
theorem rebuild_ok (canonical : Table.wf .free e.cards = true ∧ Table.wf .zero e.sponsors = true)
    (rising : ks.Pairwise (· < ·)) (inside : ∀ j ∈ ks, j < 4096) (sound : ∀ k ∈ ks, ∀ f, ¬ FailsAt image records e k f) :
    ∃ e', rebuild image records ks e acc = .ok (e', acc.reverse ++ ks.filterMap (rewriteAt image records)) ∧
      Rebuilds image records ks e e' := by
  induction ks generalizing e acc with
  | nil => exact ⟨e, by rw [rebuild, List.filterMap_nil, List.append_nil], .nil⟩
  | cons k ks ih =>
    obtain ⟨i, again, x, taken, fits⟩ := exists_fits (sound k List.mem_cons_self)
    have same := placePurse_frame k x e
    have count : (placePurse k x e).sponsorCount = e.sponsorCount := by rw [same]
    have ranges : (placePurse k x e).ranges = e.ranges := by rw [same]
    obtain ⟨e', rebuilt, rebuilds⟩ := ih (acc := (rewriteAt image records k).toList ++ acc)
      (placePurse_tables x canonical) (List.pairwise_cons.mp rising).2
      (fun j mem => inside j (List.mem_cons_of_mem _ mem))
      (fun j mem f => mt (failsAt_congr count ranges).mp (sound j (List.mem_cons_of_mem _ mem) f))
    refine ⟨e', ?_, rebuilds.cons canonical rising inside taken fits⟩
    rw [rebuild_cons taken fits, rebuilt, List.filterMap_cons]
    cases rewriteAt image records k <;> simp

end

end Sys2Proof.Machine
end

section
/-! PROOF. The last steps of the restore (R193, R194), and the image step as a whole (R192, R195). -/

namespace Sys2Proof.Machine

/-! ## The capture ring (R194) -/

section
variable {records : List Record} {r : Record} {x : RingEntry}

/-- The record gives back the capture of receipt `q`. -/
def Record.Reverses (r : Record) (q : Nat) : Prop :=
  ∃ slot c sp ap cp back, r.body = .reversal slot c sp ap cp q back

/-- The record closes the card purse of slot `slot`, after sequence number `q`. -/
def Record.Closes (r : Record) (slot q : Nat) : Prop := ∃ c, r.body = .change .closePurse slot c ∧ q < r.sequence

/-- The two marks are all that a later record sets in a ring entry. -/
theorem RingEntry.meet_eq (x : RingEntry) (r : Record) :
    x.meet r = { x with reversal := (x.meet r).reversal, closedMark := (x.meet r).closedMark } := by
  unfold RingEntry.meet
  split
  · split <;> rfl
  · split <;> rfl
  · rfl

theorem RingEntry.meet_reversal_of (reverses : r.Reverses x.receipt) : (x.meet r).reversal = .done := by
  obtain ⟨slot, c, sp, ap, cp, back, body⟩ := reverses
  unfold RingEntry.meet
  rw [body]
  exact congrArg RingEntry.reversal (if_pos rfl)

theorem RingEntry.meet_reversal_other (apart : ¬ r.Reverses x.receipt) : (x.meet r).reversal = x.reversal := by
  unfold RingEntry.meet
  split
  next slot c sp ap cp q back body =>
    split
    next same => exact absurd ⟨slot, c, sp, ap, cp, back, same ▸ body⟩ apart
    next => rfl
  next => split <;> rfl
  next => rfl

theorem RingEntry.meet_closedMark_of (closes : r.Closes x.cardSlot x.receipt) : (x.meet r).closedMark = true := by
  obtain ⟨c, body, later⟩ := closes
  unfold RingEntry.meet
  rw [body]
  exact congrArg RingEntry.closedMark (if_pos ⟨rfl, later⟩)

theorem RingEntry.meet_closedMark_other (apart : ¬ r.Closes x.cardSlot x.receipt) :
    (x.meet r).closedMark = x.closedMark := by
  unfold RingEntry.meet
  split
  next => split <;> rfl
  next slot c body =>
    split
    next meets => exact absurd ⟨c, meets.1 ▸ body, meets.2⟩ apart
    next => rfl
  next => rfl

/-- The records change nothing of a ring entry but its two marks. -/
theorem foldl_meet_eq (records : List Record) (x : RingEntry) : records.foldl RingEntry.meet x =
    { x with
      reversal := (records.foldl RingEntry.meet x).reversal, closedMark := (records.foldl RingEntry.meet x).closedMark } := by
  induction records generalizing x with
  | nil => rfl
  | cons r records ih =>
    rw [List.foldl_cons, ih, RingEntry.meet_eq]

theorem foldl_meet_reversal_of (met : x.reversal = .done ∨ ∃ r ∈ records, r.Reverses x.receipt) :
    (records.foldl RingEntry.meet x).reversal = .done := by
  induction records generalizing x with
  | nil => exact met.resolve_right fun ⟨_, mem, _⟩ => by cases mem
  | cons r records ih =>
    have receipt : (x.meet r).receipt = x.receipt := by rw [RingEntry.meet_eq]
    rw [List.foldl_cons]
    refine ih ?_
    rw [receipt]
    by_cases here : r.Reverses x.receipt
    · exact .inl (RingEntry.meet_reversal_of here)
    · rw [RingEntry.meet_reversal_other here]
      refine met.imp_right fun ⟨r', mem, reverses⟩ => ⟨r', ?_, reverses⟩
      exact (List.mem_cons.mp mem).resolve_left fun same => here (same ▸ reverses)

theorem foldl_meet_reversal_other (apart : ∀ r ∈ records, ¬ r.Reverses x.receipt) :
    (records.foldl RingEntry.meet x).reversal = x.reversal := by
  induction records generalizing x with
  | nil => rfl
  | cons r records ih =>
    have receipt : (x.meet r).receipt = x.receipt := by rw [RingEntry.meet_eq]
    rw [List.foldl_cons, ih (by rw [receipt]; exact fun r' mem => apart r' (List.mem_cons_of_mem _ mem)),
      RingEntry.meet_reversal_other (apart r List.mem_cons_self)]

theorem foldl_meet_closedMark : (records.foldl RingEntry.meet x).closedMark = true ↔
    x.closedMark = true ∨ ∃ r ∈ records, r.Closes x.cardSlot x.receipt := by
  induction records generalizing x with
  | nil => simp
  | cons r records ih =>
    have receipt : (x.meet r).receipt = x.receipt := by rw [RingEntry.meet_eq]
    have slot : (x.meet r).cardSlot = x.cardSlot := by rw [RingEntry.meet_eq]
    rw [List.foldl_cons, ih, receipt, slot, List.exists_mem_cons_iff]
    by_cases here : r.Closes x.cardSlot x.receipt
    · simp [RingEntry.meet_closedMark_of here, here]
    · rw [RingEntry.meet_closedMark_other here]
      simp [here]

theorem Record.isCapture_iff : r.isCapture = true ↔ ∃ slot c sp ap cp, r.body = .capture slot c sp ap cp := by
  obtain ⟨sequence, lane, period, body⟩ := r
  cases body with
  | change kind slot c => cases kind <;> simp [Record.isCapture, recordKind]
  | _ => simp [Record.isCapture, recordKind]

/-- A CAPTURE record gets an entry in the ring, and no other record does. -/
theorem Record.ringEntry_isSome (r : Record) : r.ringEntry.isSome = r.isCapture := by
  obtain ⟨sequence, lane, period, body⟩ := r
  cases body with
  | change kind slot c => cases kind <;> rfl
  | _ => rfl

theorem ringEntries_of_captures (records : List Record) :
    List.Forall₂ (fun r x => r.ringEntry = some x) (records.filter Record.isCapture)
      (records.filterMap Record.ringEntry) := by
  induction records with
  | nil => exact .nil
  | cons r records ih =>
    have kind := r.ringEntry_isSome
    cases entry : r.ringEntry with
    | none =>
      rw [entry] at kind
      rw [List.filter_cons_of_neg (by rw [← kind]; exact Bool.false_ne_true), List.filterMap_cons_none entry]
      exact ih
    | some x =>
      rw [entry] at kind
      rw [List.filter_cons_of_pos kind.symm, List.filterMap_cons_some entry]
      exact .cons entry ih

/-- The entry of a CAPTURE record, met by all records, is as they leave it (R194). -/
theorem Record.ringsAs_of_ringEntry (records : List Record) (entry : r.ringEntry = some x) :
    r.RingsAs records (records.foldl RingEntry.meet x) := by
  obtain ⟨slot, c, sp, ap, cp, body⟩ := Record.isCapture_iff.mp (by rw [← r.ringEntry_isSome, entry]; rfl)
  have x_eq : x = ⟨r.sequence, r.lane, slot, c.cardNumber, sp.map SponsorAfter.sponsor, ap, cp, r.period, .notReversed,
      false⟩ := by
    simp only [Record.ringEntry, body, captureEntry, Option.some.injEq] at entry
    exact entry.symm
  refine ⟨slot, c, sp, ap, cp, body, ?_, fun ⟨r', mem, reverses⟩ => ?_, fun apart => ?_, ?_⟩
  · rw [foldl_meet_eq, x_eq]
  · exact foldl_meet_reversal_of (.inr ⟨r', mem, by rw [x_eq]; exact reverses⟩)
  · refine (foldl_meet_reversal_other fun r' mem ⟨slot', c', sp', ap', cp', back, reverses⟩ => ?_).trans (by rw [x_eq])
    rw [x_eq] at reverses
    exact apart r' mem slot' c' sp' ap' cp' back reverses
  · rw [foldl_meet_closedMark, x_eq]
    simp only [Bool.false_eq_true, false_or]
    rfl

/-- The ring holds the newest 256 captures, each as the records leave it. -/
theorem restoredRing_captures (records : List Record) : ∃ older captures,
    records.filter Record.isCapture = older ++ captures ∧ captures.length ≤ 256 ∧
      (older ≠ [] → captures.length = 256) ∧ List.Forall₂ (Record.RingsAs records) captures (restoredRing records) := by
  have entries := ringEntries_of_captures records
  have lengths := entries.length_eq
  generalize captures_eq : records.filter Record.isCapture = all at entries lengths
  refine ⟨all.take (all.length - 256), all.drop (all.length - 256), (List.take_append_drop _ _).symm, ?_, fun older => ?_, ?_⟩
  · rw [List.length_drop]
    omega
  · have more : all.length - 256 ≠ 0 := fun zero => older (by rw [zero, List.take_zero])
    rw [List.length_drop]
    omega
  · unfold restoredRing
    dsimp only
    rw [← lengths, List.forall₂_map_right_iff]
    exact (List.forall₂_drop _ entries).imp fun r x entry => Record.ringsAs_of_ringEntry records entry

end

end Sys2Proof.Machine
end

section
/-! PROOF. The restore's image step (R192 to R195): every slot judged, the images rewritten, and the part READY. -/

namespace Sys2Proof.Machine

section
variable {s : State} {newest : Nat} {records : List Record}

/-! ## READY -/

/-- The restore's last steps, block by block (R193, R194). -/
theorem finishRestore_eq (newest : Nat) (records : List Record) (s : State) (number : Nat) (mark : Bool)
    (ring : List RingEntry) (ring_eq : ring = restoredRing records) (number_eq : number = restoredPeriod s.restore.formatPeriod records)
    (mark_eq : mark = restoredPartial s.restore.ringBase number records) : finishRestore newest records s = { s with
    restore := { s.restore with part := .ready, finding := .none, stage := .idle },
    engine := { s.engine with
      totals := restoredTotals number records, partialMark := mark, ring := ring },
    journal := { s.journal with
      lastDurable := newest, nextSeq := newest + 1, exhaustionDue := decide (4294967231 ≤ newest), port := none },
    period := { s.period with number := number, state := .opened },
    notices := if mark then (raiseFlag .totalsPartial s).notices else s.notices } := by
  unfold finishRestore
  dsimp only
  rw [← number_eq, ← mark_eq, ← ring_eq]
  cases mark with
  | false => rfl
  | true =>
    have raised := raiseFlag_of_same .totalsPartial (s := s) (t := (s.mapPeriod fun p =>
      { p with number := number, state := .opened }).mapEngine fun e => { e with
        totals := restoredTotals number records, partialMark := true, ring := ring }) rfl rfl rfl
    rw [if_pos (show true = true from rfl), raised]
    rfl

theorem restoredPartial_iff (base number : Nat) (records : List Record) : restoredPartial base number records = true ↔
    ∃ oldest, records.head? = some oldest ∧ base < oldest.sequence ∧ oldest.period = number ∧
      recordKind oldest.body ≠ 10 := by
  have not_close : ∀ r : Record, (!r.isPeriodClose) = true ↔ recordKind r.body ≠ 10 := by
    rintro ⟨sequence, lane, period, body⟩
    cases body with
    | change kind slot c => cases kind <;> simp [Record.isPeriodClose, recordKind]
    | _ => simp [Record.isPeriodClose, recordKind]
  unfold restoredPartial
  cases records.head? with
  | none => simp
  | some oldest => simp [← not_close, and_assoc]

theorem restored_finishRestore (newest : Nat) (records : List Record) (s : State) :
    Restored newest records s (finishRestore newest records s) := by
  obtain ⟨ring, ring_eq⟩ : ∃ ring, ring = restoredRing records := ⟨_, rfl⟩
  have eq := finishRestore_eq newest records s _ _ ring ring_eq rfl rfl
  refine ⟨?_, ?_, ?_⟩
  · rw [eq]
    have number : restoredPeriod s.restore.formatPeriod records =
        (records.getLast?.map Record.period).getD s.restore.formatPeriod := by
      unfold restoredPeriod
      cases records.getLast? <;> rfl
    rw [← number]
    rfl
  · rw [eq]
    exact restoredPartial_iff _ _ _
  · rw [eq]
    have captures := restoredRing_captures records
    rwa [← ring_eq] at captures

/-! ## The rewrites -/

theorem nextRewrite_cons {k : Nat} {unit : List Byte} {rest : List (Nat × List Byte)} :
    nextRewrite newest records ((k, unit) :: rest) s = State.Issues .restoreImage (0x20000 + 32 * k) unit
      { s with restore := { s.restore with stage := .rewriting newest records rest } } := rfl

theorem nextRewrite_nil : Restored newest records s (nextRewrite newest records [] s) := restored_finishRestore _ _ _

theorem restoreContinues_eq {rest : List (Nat × List Byte)} (stage : s.restore.stage = .rewriting newest records rest) :
    restoreContinues s = nextRewrite newest records rest s := by
  rw [restoreContinues, stage]

theorem exec_restoreImages {answer : StoreAnswer} {defaulted : Bool} (released : s.restore.inReset = false)
    (part : s.restore.part = .restoring) (stage : s.restore.stage = .images defaulted newest records) :
    exec (.restoreImages answer) s = .next (restoreImages defaulted newest records
      (fun k => readImage (readAnswer answer s.memory (0x20000 + 32 * k) 32)) s) := by
  have arm : exec (.restoreImages answer) s = execRestoreImages answer s := rfl
  rw [arm, execRestoreImages, event_of_released released]
  simp only [part, stage]
  rfl

theorem restoredState_ne_unlisted (k q : Nat) : restoredState k q .unlisted ≠ .unlisted := by
  unfold restoredState
  rw [if_pos rfl]
  split <;> exact nofun

/-! ## All slots -/

section
variable {image : Nat → Option Image} {defaulted : Bool}

/-- A slot below the end splits the slots in order. -/
theorem range_split {k : Nat} (inside : k < 4096) : ∃ pre post, List.range 4096 = pre ++ k :: post ∧ ∀ j ∈ pre, j < k := by
  obtain ⟨pre, post, split⟩ := List.append_of_mem (List.mem_range.mpr inside)
  have rising : (List.range 4096).Pairwise (· < ·) := List.pairwise_lt_range
  rw [split] at rising
  exact ⟨pre, post, split, fun j mem => (List.pairwise_append.mp rising).2.2 j mem k List.mem_cons_self⟩

theorem restoreImages_of_error {f : Finding}
    (failed : rebuild image records (List.range 4096) s.engine [] = .error f) :
    restoreImages defaulted newest records image s = { s with restore := { s.restore with
      part := .restoreFailed,
      finding := if f = .purseMisplaced ∧ defaulted then .pursesWithoutConfig else f,
      stage := .idle } } := by
  unfold restoreImages
  rw [failed]
  rfl

theorem restoreImages_of_ok {e : Engine} {rewrites : List (Nat × List Byte)}
    (rebuilt : rebuild image records (List.range 4096) s.engine [] = .ok (e, rewrites)) :
    restoreImages defaulted newest records image s = nextRewrite newest records rewrites { s with engine := e } := by
  unfold restoreImages
  rw [rebuilt]

/-- The first slot that fails names the finding. -/
theorem rebuild_range_error {e : Engine} {k : Nat} {f : Finding} (inside : k < 4096)
    (sound : ∀ j < k, ∀ f, ¬ FailsAt image records e j f) (fails : FailsAt image records e k f) :
    rebuild image records (List.range 4096) e [] = .error f := by
  obtain ⟨pre, post, split, below⟩ := range_split inside
  rw [split]
  exact rebuild_error (fun j mem => sound j (below j mem)) fails

theorem rebuild_range_ok {e : Engine} (canonical : Table.wf .free e.cards = true ∧ Table.wf .zero e.sponsors = true)
    (sound : ∀ k < 4096, ∀ f, ¬ FailsAt image records e k f) :
    ∃ e', rebuild image records (List.range 4096) e [] =
        .ok (e', (List.range 4096).filterMap (rewriteAt image records)) ∧
      Rebuilds image records (List.range 4096) e e' := by
  obtain ⟨e', rebuilt, rebuilds⟩ := rebuild_ok (acc := []) canonical (List.pairwise_lt_range (n := 4096))
    (fun _ => List.mem_range.mp) fun k mem => sound k (List.mem_range.mp mem)
  rw [List.reverse_nil, List.nil_append] at rebuilt
  exact ⟨e', rebuilt, rebuilds⟩

end

end

/-- Settles O59: the purses taken and seated, the images rewritten, and the restore's end. -/
theorem imagesRestored : Obligations.imagesRestored := by
  unfold Obligations.imagesRestored
  refine ⟨fun answer s defaulted n records image taken fails released part stage canonical count rising image_eq takes
      fails_iff => ?_,
    fun s u w n records rest status effect answer writes stage succeeds u_eq => ?_,
    fun s w effect c writes last fails => ?_, fun k q x => ⟨restoredState_ne_unlisted k q, fun listed => if_neg listed⟩⟩
  · have taken_eq : ∀ k < 4096, taken k = slotTakes (image k) (newestFor records k) := fun k inside =>
      takes.eq_slotTakes rising inside
    have fails_of : ∀ k < 4096, ∀ f, FailsAt image records s.engine k f →
        fails k (if f = .purseMisplaced ∧ defaulted then .pursesWithoutConfig else f) := by
      intro k inside f failsAt
      rw [fails_iff, taken_eq k inside]
      rcases failsAt with ⟨absent, rfl⟩ | ⟨i, again, taken_i, fits, rfl⟩
      · exact .inl ⟨absent, if_neg (by simp)⟩
      · refine .inr ⟨i, again, taken_i, fitPurse_eq_none.mp fits, ?_⟩
        simp
    have to_fails : ∀ k < 4096, ∀ f, fails k f → ∃ f', FailsAt image records s.engine k f' ∧
        f = if f' = .purseMisplaced ∧ defaulted then .pursesWithoutConfig else f' := by
      intro k inside f failing
      rw [fails_iff, taken_eq k inside] at failing
      rcases failing with ⟨absent, rfl⟩ | ⟨i, again, taken_i, misplaced, rfl⟩
      · exact ⟨.imageInvalid, .inl ⟨absent, rfl⟩, (if_neg (by simp)).symm⟩
      · exact ⟨.purseMisplaced, .inr ⟨i, again, taken_i, fitPurse_eq_none.mpr misplaced, rfl⟩, by simp⟩
    have images : (fun k => readImage (readAnswer answer s.memory (0x20000 + 32 * k) 32)) = image :=
      funext fun k => (image_eq k).symm
    rw [exec_restoreImages released part stage, images]
    refine ⟨fun k f inside failing first => ?_, fun sound => ?_⟩
    · obtain ⟨f', failsAt, rfl⟩ := to_fails k inside f failing
      rw [restoreImages_of_error (rebuild_range_error inside
        (fun j below f'' failsAt' => first j below _ (fails_of j (below.trans inside) f'' failsAt')) failsAt)]
    · obtain ⟨e, rebuilt, frame, sits, cards, sponsors⟩ := rebuild_range_ok ⟨canonical.1, canonical.2.1⟩
        fun k inside f failsAt => sound k inside _ (fails_of k inside f failsAt)
      have restores := restoreImages_of_ok (newest := n) (defaulted := defaulted) rebuilt
      have e_count : e.sponsorCount = s.engine.sponsorCount := by rw [frame]
      refine ⟨e, { s with engine := e }, (List.range 4096).filterMap (rewriteAt image records), rfl, frame,
        fun k inside i again taken_k => ?_, fun k outside => cards k (.inr outside), fun m above => ?_, ?_,
        fun k unit => ?_, fun none => ?_, fun k unit rest some => ?_⟩
      · rw [taken_eq k inside] at taken_k
        cases fits : fitPurse s.engine k i with
        | none => exact absurd (fails_of k inside _ (.inr ⟨i, again, taken_k, fits, rfl⟩)) (sound k inside _)
        | some x =>
          exact Engine.seats_of_sitsIn e_count fits (sits k (List.mem_range.mpr inside) i again x taken_k fits)
      · refine sponsors m fun k mem same => ?_
        have inside := List.mem_range.mp mem
        omega
      · refine List.pairwise_filterMap.mpr (List.pairwise_lt_range.imp fun less x at_x y at_y => ?_)
        obtain ⟨_, _, rfl⟩ := rewriteAt_eq_some.mp at_x
        obtain ⟨_, _, rfl⟩ := rewriteAt_eq_some.mp at_y
        exact less
      · rw [List.mem_filterMap]
        constructor
        · rintro ⟨k', mem, at_k⟩
          obtain ⟨i, taken_k, same⟩ := rewriteAt_eq_some.mp at_k
          cases same
          have inside := List.mem_range.mp mem
          exact ⟨inside, i, (taken_eq k inside).trans taken_k, rfl⟩
        · rintro ⟨inside, i, taken_k, rfl⟩
          exact ⟨k, List.mem_range.mpr inside, rewriteAt_eq_some.mpr ⟨i, (taken_eq k inside).symm.trans taken_k, rfl⟩⟩
      · rw [restores, none]
        exact ⟨_, rfl, nextRewrite_nil⟩
      · rw [restores, some, nextRewrite_cons]
  · have goes_on : exec (.storeWriteComplete effect ⟨status, answer⟩) s = .next (nextRewrite n records rest u) := by
      rw [exec_storeWriteComplete_succeeds writes succeeds, ← u_eq]
      exact congrArg _ (restoreContinues_eq (by rw [u_eq]; exact stage))
    rw [goes_on]
    refine ⟨fun k unit more rest_eq => ?_, fun rest_eq => ?_⟩
    · rw [rest_eq, nextRewrite_cons, u_eq]
    · rw [rest_eq]
      exact ⟨_, rfl, nextRewrite_nil⟩
  · rw [exec_of_lastFails writes nofun last fails]
    rfl

end Sys2Proof.Machine
end

section
/-! PROOF. The laws of holds, purses and records in flight, as laws of an engine, its deadline list and a list of records: what the
commands of the engine keep is proved of these, and the laws of the state are read off. -/

namespace Sys2Proof.Machine

/-! ## Records in flight -/

/-- A record in flight, with its owner. -/
abbrev Flight := Record × Owner

/-- The handles whose CAPTURE records are in flight. -/
def handlesOf (fl : List Flight) : List Nat := fl.filterMap fun x => x.2.handle

/-- The lanes that wait on records in flight. -/
def lanesOf (fl : List Flight) : List Lane := fl.filterMap fun x => x.2.lane

/-- What records in flight reserve on a card slot, `f` telling the amount. -/
def reservedIn (fl : List Flight) (f : RecordBody → Nat) (slot : Nat) : Nat :=
  ((fl.filter fun x => x.1.body.cardSlot = some slot).map fun x => f x.1.body).sum

/-- How many records in flight name a card slot. -/
def namingCard (fl : List Flight) (slot : Nat) : Nat := (fl.filter fun x => x.1.body.cardSlot = some slot).length

/-- How many records in flight name a sponsor. -/
def namingSponsor (fl : List Flight) (n : Nat) : Nat := (fl.filter fun x => x.1.body.sponsor = some n).length

/-- How many records in flight are Period Control's. -/
def closesIn (fl : List Flight) : Nat := (fl.filter fun x => x.2 = .periodControl).length

section
variable {fl fl' : List Flight} (x : Flight)

theorem handlesOf_cons : handlesOf (x :: fl) = x.2.handle.toList ++ handlesOf fl := by
  unfold handlesOf
  rw [List.filterMap_cons]
  cases x.2.handle <;> rfl

theorem lanesOf_cons : lanesOf (x :: fl) = x.2.lane.toList ++ lanesOf fl := by
  unfold lanesOf
  rw [List.filterMap_cons]
  cases x.2.lane <;> rfl

theorem reservedIn_cons (f : RecordBody → Nat) (slot : Nat) : reservedIn (x :: fl) f slot =
    (if x.1.body.cardSlot = some slot then f x.1.body else 0) + reservedIn fl f slot := by
  unfold reservedIn
  rw [List.filter_cons]
  split
  next named =>
    rw [if_pos (by simpa using named)]
    rfl
  next other => rw [if_neg (by simpa using other), Nat.zero_add]

theorem namingCard_cons (slot : Nat) : namingCard (x :: fl) slot =
    (if x.1.body.cardSlot = some slot then 1 else 0) + namingCard fl slot := by
  unfold namingCard
  rw [List.filter_cons]
  split
  next named => rw [if_pos (by simpa using named), List.length_cons, Nat.add_comm]
  next other => rw [if_neg (by simpa using other), Nat.zero_add]

theorem namingSponsor_cons (n : Nat) : namingSponsor (x :: fl) n =
    (if x.1.body.sponsor = some n then 1 else 0) + namingSponsor fl n := by
  unfold namingSponsor
  rw [List.filter_cons]
  split
  next named => rw [if_pos (by simpa using named), List.length_cons, Nat.add_comm]
  next other => rw [if_neg (by simpa using other), Nat.zero_add]

theorem closesIn_cons : closesIn (x :: fl) = (if x.2 = .periodControl then 1 else 0) + closesIn fl := by
  unfold closesIn
  rw [List.filter_cons]
  split
  next named => rw [if_pos (by simpa using named), List.length_cons, Nat.add_comm]
  next other => rw [if_neg (by simpa using other), Nat.zero_add]

theorem reservedIn_perm (perm : fl'.Perm fl) (f : RecordBody → Nat) (slot : Nat) :
    reservedIn fl' f slot = reservedIn fl f slot := ((perm.filter _).map _).sum_eq

theorem namingCard_perm (perm : fl'.Perm fl) (slot : Nat) : namingCard fl' slot = namingCard fl slot :=
  (perm.filter _).length_eq

theorem namingSponsor_perm (perm : fl'.Perm fl) (n : Nat) : namingSponsor fl' n = namingSponsor fl n :=
  (perm.filter _).length_eq

theorem closesIn_perm (perm : fl'.Perm fl) : closesIn fl' = closesIn fl := (perm.filter _).length_eq

theorem namingCard_pos {x : Flight} {slot : Nat} (mem : x ∈ fl) (named : x.1.body.cardSlot = some slot) :
    0 < namingCard fl slot :=
  List.length_pos_of_mem (List.mem_filter.2 ⟨mem, by simpa using named⟩)

theorem namingSponsor_pos {x : Flight} {n : Nat} (mem : x ∈ fl) (named : x.1.body.sponsor = some n) :
    0 < namingSponsor fl n :=
  List.length_pos_of_mem (List.mem_filter.2 ⟨mem, by simpa using named⟩)

/-- A slot that no record names has nothing reserved. -/
theorem reservedIn_of_unnamed {slot : Nat} (unnamed : namingCard fl slot = 0) (f : RecordBody → Nat) :
    reservedIn fl f slot = 0 := by
  rw [reservedIn, List.length_eq_zero_iff.1 unnamed]
  rfl

end

/-! ## Holds and their lists (R24, R26, R28, R30) -/

/-- The law of the hold table and its lists, of an engine and the deadline list. -/
structure Engine.HoldLaw (e : Engine) (list : List DeadlineEntry) : Prop where
  freeOnce : e.freeList.Nodup
  free : ∀ k, k ∈ e.freeList ↔ k < 512 ∧ (e.hold k).state = .free
  beyond : ∀ k, 512 ≤ k → (e.hold k).state = .free
  lane : ∀ l : Lane, e.laneHolds[l].length ≤ 64 ∧ e.laneHolds[l].Nodup ∧
    ∀ h, h ∈ e.laneHolds[l] ↔ e.isOpen h ∧ (e.hold (handleSlot h)).lane = l
  purse : ∀ slot, (e.card slot).holdList.length ≤ 4 ∧ (e.card slot).holdList.Nodup ∧
    ∀ h, h ∈ (e.card slot).holdList ↔ e.isOpen h ∧ (e.hold (handleSlot h)).cardSlot = slot
  dueOnce : (list.map DeadlineEntry.handle).Nodup
  due : ∀ y, y ∈ list ↔ e.isOpen y.handle ∧ (e.hold (handleSlot y.handle)).deadline = y.deadline ∧
    (e.hold (handleSlot y.handle)).deadlinePassed = false
  marks : ∀ k, (e.hold k).state ≠ .settling → (e.hold k).endMark = .unmarked ∧ (e.hold k).deadlinePassed = false
  shares : ∀ k, (e.hold k).state = .free → (e.hold k).allowanceShare = 0 ∧ (e.hold k).cashShare = 0

theorem State.holdLaw_iff (s : State) : s.holdLaw ↔
    s.engine.HoldLaw s.deadlines.list ∧ ∀ l : Lane, s.lanes[l].settings.holdLimit ≤ 64 := by
  constructor
  · rintro ⟨freeOnce, free, beyond, lane, purse, dueOnce, due, marks, shares⟩
    exact ⟨⟨freeOnce, free, beyond, fun l => (lane l).2, purse, dueOnce, due, marks, shares⟩, fun l => (lane l).1⟩
  · rintro ⟨⟨freeOnce, free, beyond, lane, purse, dueOnce, due, marks, shares⟩, limits⟩
    exact ⟨freeOnce, free, beyond, fun l => ⟨limits l, lane l⟩, purse, dueOnce, due, marks, shares⟩

/-! ## Purses, and the records that name them (R2, R5, R7, R12, R84) -/

/-- What a record in flight needs of the card purse it names. -/
def RecordBody.Finds (b : RecordBody) (p : CardPurse) : Prop :=
  match b with
  | .change .openPurse _ c => p.state = .free ∧ p.pendingRecords = 1 ∧ p.closeQueued = false ∧
      c.cardNumber = p.cardNumber ∧ c.state = .opened
  | .change .closePurse .. => p.state ≠ .free ∧ p.closeQueued = true ∧ p.holdList = []
  | _ => p.state ≠ .free ∧ p.closeQueued = false

theorem RecordBody.Finds.of_same {b : RecordBody} {p p' : CardPurse} (found : b.Finds p) (state : p'.state = p.state)
    (pending : p'.pendingRecords = p.pendingRecords) (queued : p'.closeQueued = p.closeQueued)
    (number : p'.cardNumber = p.cardNumber) (empty : p.holdList = [] → p'.holdList = []) : b.Finds p' := by
  cases b with
  | change kind =>
    cases kind with
    | openPurse =>
      obtain ⟨free, alone, unqueued, card, opened⟩ := found
      exact ⟨state.trans free, pending.trans alone, queued.trans unqueued, card.trans number.symm, opened⟩
    | closePurse =>
      obtain ⟨kept, closing, noHold⟩ := found
      exact ⟨state.symm ▸ kept, queued.trans closing, empty noHold⟩
    | block | unblock => exact ⟨state.symm ▸ found.1, queued.trans found.2⟩
  | capture | reversal | topUp | withdraw | fund | periodClose => exact ⟨state.symm ▸ found.1, queued.trans found.2⟩

/-- A CAPTURE record is of the purse and sponsor of its hold, and of no more than its shares. -/
def Engine.Covers (e : Engine) (x : Flight) : Prop :=
  ∀ h ∈ x.2.handle, ∀ slot c sp ap cp, x.1.body = .capture slot c sp ap cp →
    (e.hold (handleSlot h)).cardSlot = slot ∧ (e.hold (handleSlot h)).sponsor = sp.map SponsorAfter.sponsor ∧
      ap ≤ (e.hold (handleSlot h)).allowanceShare ∧ cp ≤ (e.hold (handleSlot h)).cashShare

/-- The law of the card purse `p` at a slot, with the records `fl` in flight. -/
structure Engine.CardLaw (e : Engine) (number : Nat) (fl : List Flight) (slot : Nat) (p : CardPurse) : Prop where
  cashHeld : p.cashHeld = e.shares Hold.cashShare p.holdList
  allowanceHeld : p.allowanceHeld = e.shares Hold.allowanceShare p.holdList
  outgoing : p.cashOutgoing = reservedIn fl RecordBody.withdrawn slot
  topUps : p.topUpPending = reservedIn fl RecordBody.toppedUp slot
  cash : p.cashHeld + p.cashOutgoing ≤ p.cashBalance
  allowance : p.allowanceHeld ≤ p.allowanceRemaining
  current : p.holdList ≠ [] → p.state ≠ .free ∧ p.allowancePeriod = number
  pending : p.pendingRecords = namingCard fl slot
  region : e.isCardSlot slot = false → p = p.emptied
  mapped : p.state ≠ .free ∨ p.pendingRecords ≠ 0 → slotOf e.ranges p.cardNumber = some slot
  closing : p.closeQueued = true → p.pendingRecords = 1 ∧ ∃ x ∈ fl, ∃ c, x.1.body = .change .closePurse slot c

/-- The law of a sponsor purse. -/
structure Engine.SponsorLaw (e : Engine) (fl : List Flight) (n : Nat) (p : SponsorPurse) : Prop where
  held : p.held = e.sponsorShares n
  balance : p.held ≤ p.balance
  pending : p.pendingRecords = namingSponsor fl n

/-- The laws of settlement, balances and places, of an engine, the period and the records in flight; `ex` are the handles of
SETTLING holds whose record the engine has just taken. -/
structure Engine.PurseLaw (e : Engine) (number : Nat) (fl : List Flight) (ex : List Nat) : Prop where
  settledOnce : (handlesOf fl ++ ex).Nodup
  settling : ∀ h, h ∈ handlesOf fl ++ ex ↔ e.resolve h = .settling
  covers : ∀ x ∈ fl, e.Covers x
  map : e.mapOk
  card : ∀ slot, e.CardLaw number fl slot (e.card slot)
  sponsor : ∀ n, e.SponsorLaw fl n (e.sponsor n)
  holdSponsors : ∀ k, (e.hold k).state ≠ .free → ∀ n ∈ (e.hold k).sponsor, n < e.sponsorCount
  flightSponsors : ∀ x ∈ fl, ∀ n ∈ x.1.body.sponsor, n < e.sponsorCount
  finds : ∀ x ∈ fl, ∀ slot, x.1.body.cardSlot = some slot → x.1.body.Finds (e.card slot)

theorem State.purseLaw_iff (s : State) : s.settlingLaw ∧ s.balanceLaw ∧ s.placeLaw ↔
    s.engine.PurseLaw s.period.number s.inFlight [] := by
  constructor
  · rintro ⟨⟨once, settling, covers⟩, ⟨balances, sponsors⟩, map, places, pending, holdSponsors, flightSponsors, finds⟩
    have noExtra : handlesOf s.inFlight ++ [] = s.inFlight.filterMap fun x => x.2.handle := List.append_nil _
    refine ⟨noExtra ▸ once, noExtra ▸ settling, covers, map, fun slot => ?_, fun n => ?_, holdSponsors, flightSponsors,
      fun x mem slot named => ?_⟩
    · obtain ⟨cashHeld, allowanceHeld, outgoing, topUps, cash, allowance, current⟩ := balances slot _ rfl
      obtain ⟨pending, region, mapped, closing⟩ := places slot _ rfl
      exact ⟨cashHeld, allowanceHeld, outgoing, topUps, cash, allowance, current, pending, region, mapped, closing⟩
    · exact ⟨(sponsors n).1, (sponsors n).2, pending n⟩
    · have found := finds x mem slot _ named rfl
      obtain ⟨⟨sequence, lane, period, body⟩, owner⟩ := x
      cases body with
      | change kind => cases kind <;> exact found
      | _ => exact found
  · intro law
    have noExtra : handlesOf s.inFlight ++ [] = s.inFlight.filterMap fun x => x.2.handle := List.append_nil _
    refine ⟨⟨noExtra ▸ law.settledOnce, noExtra ▸ law.settling, law.covers⟩, ⟨?_, fun n => ?_⟩, law.map, ?_,
      fun n => (law.sponsor n).pending, law.holdSponsors, law.flightSponsors, ?_⟩
    · rintro slot _ rfl
      have card := law.card slot
      exact ⟨card.cashHeld, card.allowanceHeld, card.outgoing, card.topUps, card.cash, card.allowance, card.current⟩
    · exact ⟨(law.sponsor n).held, (law.sponsor n).balance⟩
    · rintro slot _ rfl
      have card := law.card slot
      exact ⟨card.pending, card.region, card.mapped, card.closing⟩
    · rintro x mem slot _ named rfl
      have found := law.finds x mem slot named
      obtain ⟨⟨sequence, lane, period, body⟩, owner⟩ := x
      cases body with
      | change kind => cases kind <;> exact found
      | _ => exact found

/-! ## Open holds -/

section
variable {e e' : Engine} {k : Nat}

theorem Engine.isOpen_iff (e : Engine) (h : Nat) :
    e.isOpen h ↔ (e.hold (h % 512)).generation = h / 512 ∧ (e.hold (h % 512)).state ≠ .free := by
  rw [Engine.isOpen, Engine.resolve_eq_live, Engine.resolve_eq_settling, ← and_or_left]
  cases (e.hold (h % 512)).state <;> simp

theorem handleOf_mod (g : Nat) {k : Nat} (inside : k < 512) : handleOf g k % 512 = k := by
  unfold handleOf
  omega

theorem handleOf_div (g : Nat) {k : Nat} (inside : k < 512) : handleOf g k / 512 = g := by
  unfold handleOf
  omega

theorem handleOf_div_mod (h : Nat) : handleOf (h / 512) (h % 512) = h := by
  unfold handleOf
  omega

/-- The handle the hold in a slot goes by. -/
def Engine.handle (e : Engine) (k : Nat) : Nat := handleOf (e.hold k).generation k

theorem Engine.handle_of_isOpen {h : Nat} (opened : e.isOpen h) : e.handle (h % 512) = h := by
  rw [Engine.handle, ((e.isOpen_iff h).1 opened).1, handleOf_div_mod]

theorem Engine.HoldLaw.slot_lt {list : List DeadlineEntry} (law : e.HoldLaw list) (opened : (e.hold k).state ≠ .free) :
    k < 512 := by
  by_contra high
  exact opened (law.beyond k (by omega))

theorem Engine.isOpen_handle (inside : k < 512) (opened : (e.hold k).state ≠ .free) : e.isOpen (e.handle k) := by
  rw [Engine.isOpen_iff, Engine.handle, handleOf_mod _ inside, handleOf_div _ inside]
  exact ⟨rfl, opened⟩

/-- An open hold whose handle is not the one of slot `k` stands in another slot. -/
theorem Engine.slot_ne_of_isOpen {h : Nat} (opened : e.isOpen h) (other : h ≠ e.handle k) : h % 512 ≠ k := by
  rintro rfl
  exact other (e.handle_of_isOpen opened).symm

theorem Engine.isOpen_congr {h : Nat} (same : e'.hold (h % 512) = e.hold (h % 512)) : e'.isOpen h ↔ e.isOpen h := by
  rw [Engine.isOpen_iff, Engine.isOpen_iff, same]

end

end Sys2Proof.Machine
end

section
/-! PROOF. The law of the hold table and its lists as holds are placed, changed and detached. -/

namespace Sys2Proof.Machine

namespace Engine
section
variable {e e' : Engine} {list list' : List DeadlineEntry} {k : Nat}

/-- A change that leaves the hold table and its lists alone. -/
theorem HoldLaw.of_same (law : e.HoldLaw list) (holds : ∀ j, e'.hold j = e.hold j) (free : e'.freeList = e.freeList)
    (lanes : e'.laneHolds = e.laneHolds) (purses : ∀ slot, (e'.card slot).holdList = (e.card slot).holdList) :
    e'.HoldLaw list := by
  have opened (h : Nat) : e'.isOpen h ↔ e.isOpen h := isOpen_congr (holds _)
  refine ⟨free ▸ law.freeOnce, fun j => ?_, fun j high => ?_, fun l => ?_, fun slot => ?_, law.dueOnce, fun y => ?_,
    fun j => ?_, fun j => ?_⟩
  · rw [free, holds]
    exact law.free j
  · rw [holds]
    exact law.beyond j high
  · simp only [lanes, opened, holds]
    exact law.lane l
  · simp only [purses, opened, holds]
    exact law.purse slot
  · simp only [opened, holds]
    exact law.due y
  · rw [holds]
    exact law.marks j
  · rw [holds]
    exact law.shares j

/-- One hold is changed and stays open in its place: what becomes of its deadline entry is `list'`. -/
theorem HoldLaw.retouch (law : e.HoldLaw list) (opened : (e.hold k).state ≠ .free) (opened' : (e'.hold k).state ≠ .free)
    (generation : (e'.hold k).generation = (e.hold k).generation) (lane : (e'.hold k).lane = (e.hold k).lane)
    (slot : (e'.hold k).cardSlot = (e.hold k).cardSlot) (others : ∀ j, j ≠ k → e'.hold j = e.hold j)
    (free : e'.freeList = e.freeList) (lanes : e'.laneHolds = e.laneHolds)
    (purses : ∀ slot, (e'.card slot).holdList = (e.card slot).holdList)
    (marks : (e'.hold k).state ≠ .settling → (e'.hold k).endMark = .unmarked ∧ (e'.hold k).deadlinePassed = false)
    (dueOnce : (list'.map DeadlineEntry.handle).Nodup)
    (due : ∀ y, y ∈ list' ↔ (y ∈ list ∧ y.handle ≠ e.handle k) ∨
      y.handle = e.handle k ∧ (e'.hold k).deadline = y.deadline ∧ (e'.hold k).deadlinePassed = false) :
    e'.HoldLaw list' := by
  have inside := law.slot_lt opened
  have isOpen (h : Nat) : e'.isOpen h ↔ e.isOpen h := by
    rw [isOpen_iff, isOpen_iff]
    by_cases same : h % 512 = k
    · simp [same, generation, opened, opened']
    · rw [others _ same]
  have laneOf (j : Nat) : (e'.hold j).lane = (e.hold j).lane := by
    by_cases same : j = k
    · rw [same, lane]
    · rw [others j same]
  have slotOf (j : Nat) : (e'.hold j).cardSlot = (e.hold j).cardSlot := by
    by_cases same : j = k
    · rw [same, slot]
    · rw [others j same]
  refine ⟨free ▸ law.freeOnce, fun j => ?_, fun j high => ?_, fun l => ?_, fun c => ?_, dueOnce, fun y => ?_, fun j => ?_,
    fun j => ?_⟩
  · rw [free, law.free j]
    by_cases same : j = k
    · simp [same, opened, opened']
    · rw [others j same]
  · rw [others j (by omega)]
    exact law.beyond j high
  · simp only [lanes, isOpen, laneOf]
    exact law.lane l
  · simp only [purses, isOpen, slotOf]
    exact law.purse c
  · rw [due, law.due, isOpen]
    by_cases own : y.handle = e.handle k
    · have at_k : handleSlot (e.handle k) = k := by rw [Engine.handle, handleSlot, handleOf_mod _ inside]
      have open_k : e.isOpen (e.handle k) := isOpen_handle inside opened
      simp [own, open_k, at_k]
    · by_cases openY : e.isOpen y.handle
      · have other : handleSlot y.handle ≠ k := slot_ne_of_isOpen openY own
        simp [own, openY, others _ other]
      · simp [own, openY]
  · by_cases same : j = k
    · exact same ▸ marks
    · rw [others j same]
      exact law.marks j
  · by_cases same : j = k
    · intro freed
      exact absurd (same ▸ freed) opened'
    · rw [others j same]
      exact law.shares j

/-- The deadline list stands as it was when the deadline and its mark are as they were. -/
theorem HoldLaw.due_kept (law : e.HoldLaw list) (opened : (e.hold k).state ≠ .free)
    (deadline : (e'.hold k).deadline = (e.hold k).deadline)
    (passed : (e'.hold k).deadlinePassed = (e.hold k).deadlinePassed) (y : DeadlineEntry) :
    y ∈ list ↔ (y ∈ list ∧ y.handle ≠ e.handle k) ∨
      y.handle = e.handle k ∧ (e'.hold k).deadline = y.deadline ∧ (e'.hold k).deadlinePassed = false := by
  have inside := law.slot_lt opened
  by_cases own : y.handle = e.handle k
  · have at_k : handleSlot (e.handle k) = k := by rw [Engine.handle, handleSlot, handleOf_mod _ inside]
    have open_k : e.isOpen (e.handle k) := isOpen_handle inside opened
    rw [law.due, deadline, passed]
    simp [own, at_k, open_k]
  · simp [own]

/-- A hold is detached: its slot joins the free list, and its handle leaves every list. -/
theorem HoldLaw.detach (law : e.HoldLaw list) (opened : (e.hold k).state ≠ .free) (freed : (e'.hold k).state = .free)
    (unmarked : (e'.hold k).endMark = .unmarked ∧ (e'.hold k).deadlinePassed = false)
    (empty : (e'.hold k).allowanceShare = 0 ∧ (e'.hold k).cashShare = 0)
    (others : ∀ j, j ≠ k → e'.hold j = e.hold j) (free : e'.freeList = e.freeList ++ [k])
    (lanes : ∀ l : Lane, e'.laneHolds[l] =
      if (e.hold k).lane = l then e.laneHolds[l].erase (e.handle k) else e.laneHolds[l])
    (purses : ∀ slot, (e'.card slot).holdList =
      if (e.hold k).cardSlot = slot then (e.card slot).holdList.erase (e.handle k) else (e.card slot).holdList) :
    e'.HoldLaw (list.filter fun y => y.handle ≠ e.handle k) := by
  have inside := law.slot_lt opened
  have open_k : e.isOpen (e.handle k) := isOpen_handle inside opened
  have at_k : handleSlot (e.handle k) = k := by rw [Engine.handle, handleSlot, handleOf_mod _ inside]
  have isOpen (h : Nat) : e'.isOpen h ↔ e.isOpen h ∧ h ≠ e.handle k := by
    by_cases same : h % 512 = k
    · rw [isOpen_iff, same, freed]
      refine iff_of_false (fun now => now.2 rfl) fun ⟨was, other⟩ => slot_ne_of_isOpen was other same
    · rw [isOpen_iff, isOpen_iff, others _ same]
      refine (and_iff_left ?_).symm
      rintro rfl
      exact same at_k
  have kept {h : Nat} (was : e.isOpen h) (other : h ≠ e.handle k) : e'.hold (handleSlot h) = e.hold (handleSlot h) :=
    others _ (slot_ne_of_isOpen was other)
  have mem_erase {xs ys : List Nat} {own : Prop} [Decidable own] (once : xs.Nodup)
      (ys_eq : ys = if own then xs.erase (e.handle k) else xs) (listed : e.handle k ∈ xs ↔ own) (h : Nat) :
      h ∈ ys ↔ h ∈ xs ∧ h ≠ e.handle k := by
    rw [ys_eq]
    split
    next => rw [once.mem_erase_iff, and_comm]
    next apart =>
      refine (and_iff_left_of_imp ?_).symm
      rintro mem rfl
      exact apart (listed.1 mem)
  have nodup {xs ys : List Nat} {own : Prop} [Decidable own] (once : xs.Nodup)
      (ys_eq : ys = if own then xs.erase (e.handle k) else xs) : ys.Nodup ∧ ys.length ≤ xs.length := by
    rw [ys_eq]
    split
    next => exact ⟨once.erase _, List.erase_sublist.length_le⟩
    next => exact ⟨once, Nat.le_refl _⟩
  refine ⟨?_, fun j => ?_, fun j high => ?_, fun l => ?_, fun slot => ?_, ?_, fun y => ?_, fun j => ?_, fun j => ?_⟩
  · rw [free]
    refine law.freeOnce.append (List.nodup_singleton k) fun j mem own => opened ?_
    rw [List.mem_singleton.1 own] at mem
    exact ((law.free k).1 mem).2
  · rw [free, List.mem_append, List.mem_singleton, law.free j]
    by_cases same : j = k
    · simp [same, inside, freed]
    · simp [same, others j same]
  · rw [others j (by omega)]
    exact law.beyond j high
  · obtain ⟨length, once, mem⟩ := law.lane l
    have listed : e.handle k ∈ e.laneHolds[l] ↔ (e.hold k).lane = l := by
      rw [mem, at_k]
      exact and_iff_right open_k
    refine ⟨(nodup once (lanes l)).2.trans length, (nodup once (lanes l)).1, fun h => ?_⟩
    rw [mem_erase once (lanes l) listed, mem, isOpen]
    constructor
    · rintro ⟨⟨was, own⟩, other⟩
      exact ⟨⟨was, other⟩, kept was other ▸ own⟩
    · rintro ⟨⟨was, other⟩, own⟩
      exact ⟨⟨was, kept was other ▸ own⟩, other⟩
  · obtain ⟨length, once, mem⟩ := law.purse slot
    have listed : e.handle k ∈ (e.card slot).holdList ↔ (e.hold k).cardSlot = slot := by
      rw [mem, at_k]
      exact and_iff_right open_k
    refine ⟨(nodup once (purses slot)).2.trans length, (nodup once (purses slot)).1, fun h => ?_⟩
    rw [mem_erase once (purses slot) listed, mem, isOpen]
    constructor
    · rintro ⟨⟨was, own⟩, other⟩
      exact ⟨⟨was, other⟩, kept was other ▸ own⟩
    · rintro ⟨⟨was, other⟩, own⟩
      exact ⟨⟨was, kept was other ▸ own⟩, other⟩
  · exact law.dueOnce.sublist (List.filter_sublist.map _)
  · rw [List.mem_filter, law.due, isOpen, decide_eq_true_iff]
    constructor
    · rintro ⟨⟨was, due⟩, other⟩
      exact ⟨⟨was, other⟩, kept was other ▸ due⟩
    · rintro ⟨⟨was, other⟩, due⟩
      exact ⟨⟨was, kept was other ▸ due⟩, other⟩
  · by_cases same : j = k
    · exact fun _ => same ▸ unmarked
    · rw [others j same]
      exact law.marks j
  · by_cases same : j = k
    · exact fun _ => same ▸ empty
    · rw [others j same]
      exact law.shares j

/-- A hold is placed in the slot at the head of the free list: its handle joins the lists of its lane and its purse, and its
deadline entry the deadline list. -/
theorem HoldLaw.place {rest : List Nat} {entry : DeadlineEntry} (law : e.HoldLaw list) (head : e.freeList = k :: rest)
    (live : (e'.hold k).state = .live)
    (unmarked : (e'.hold k).endMark = .unmarked ∧ (e'.hold k).deadlinePassed = false)
    (others : ∀ j, j ≠ k → e'.hold j = e.hold j) (free : e'.freeList = rest)
    (laneRoom : e.laneHolds[(e'.hold k).lane].length < 64)
    (purseRoom : (e.card (e'.hold k).cardSlot).holdList.length < 4)
    (lanes : ∀ l : Lane, e'.laneHolds[l] = if (e'.hold k).lane = l then e.laneHolds[l] ++ [e'.handle k] else e.laneHolds[l])
    (purses : ∀ slot, (e'.card slot).holdList =
      if (e'.hold k).cardSlot = slot then (e.card slot).holdList ++ [e'.handle k] else (e.card slot).holdList)
    (due : list'.Perm (entry :: list)) (handle : entry.handle = e'.handle k)
    (deadline : (e'.hold k).deadline = entry.deadline) : e'.HoldLaw list' := by
  obtain ⟨inside, wasFree⟩ := (law.free k).1 (head ▸ List.mem_cons_self)
  have at_k : handleSlot (e'.handle k) = k := by rw [Engine.handle, handleSlot, handleOf_mod _ inside]
  have opened : (e'.hold k).state ≠ .free := by rw [live]; nofun
  have open_k : e'.isOpen (e'.handle k) := isOpen_handle inside opened
  have notOpen {h : Nat} (same : h % 512 = k) : ¬ e.isOpen h := fun was => by
    rw [isOpen_iff, same] at was
    exact was.2 wasFree
  have isOpen (h : Nat) : e'.isOpen h ↔ e.isOpen h ∨ h = e'.handle k := by
    by_cases same : h % 512 = k
    · rw [or_iff_right (notOpen same)]
      constructor
      · intro now
        rw [← e'.handle_of_isOpen now, same]
      · rintro rfl
        exact open_k
    · rw [isOpen_iff, isOpen_iff, others _ same]
      refine (or_iff_left ?_).symm
      rintro rfl
      exact same at_k
  have kept {h : Nat} (was : e.isOpen h) : e'.hold (handleSlot h) = e.hold (handleSlot h) :=
    others _ fun same => notOpen same was
  have apart {h : Nat} (was : e.isOpen h) : h ≠ e'.handle k := by
    rintro rfl
    exact notOpen at_k was
  have mem_join {xs ys : List Nat} {own : Prop} [Decidable own] {field : Hold → Prop}
      (ys_eq : ys = if own then xs ++ [e'.handle k] else xs) (own_iff : field (e'.hold k) ↔ own)
      (mem : ∀ h, h ∈ xs ↔ e.isOpen h ∧ field (e.hold (handleSlot h))) (h : Nat) :
      h ∈ ys ↔ e'.isOpen h ∧ field (e'.hold (handleSlot h)) := by
    have stays : h ∈ xs ↔ e.isOpen h ∧ field (e'.hold (handleSlot h)) := by
      rw [mem]
      exact and_congr_right fun was => by rw [kept was]
    have new : h = e'.handle k ∧ field (e'.hold (handleSlot h)) ↔ h = e'.handle k ∧ own :=
      and_congr_right fun same => by rw [same, at_k, own_iff]
    rw [isOpen, or_and_right, new, ys_eq, ← stays]
    split
    next own => simp [own]
    next other => simp [other]
  have bounded {xs ys : List Nat} {own : Prop} [Decidable own] {n : Nat} {field : Hold → Prop} (once : xs.Nodup)
      (length : xs.length ≤ n) (room : own → xs.length < n) (ys_eq : ys = if own then xs ++ [e'.handle k] else xs)
      (mem : ∀ h, h ∈ xs ↔ e.isOpen h ∧ field (e.hold (handleSlot h))) : ys.length ≤ n ∧ ys.Nodup := by
    rw [ys_eq]
    split
    next own =>
      refine ⟨by simpa using room own, once.append (List.nodup_singleton _) fun h listed new => ?_⟩
      exact apart ((mem h).1 listed).1 (List.mem_singleton.1 new)
    next => exact ⟨length, once⟩
  have once := law.freeOnce
  rw [head, List.nodup_cons] at once
  refine ⟨free ▸ once.2, fun j => ?_, fun j high => ?_, fun l => ?_, fun slot => ?_, ?_, fun y => ?_, fun j => ?_, fun j => ?_⟩
  · have freeBefore := law.free j
    rw [head, List.mem_cons] at freeBefore
    rw [free]
    by_cases same : j = k
    · rw [same]
      exact iff_of_false once.1 fun freed => opened freed.2
    · rw [others j same, ← freeBefore, or_iff_right same]
  · rw [others j (by omega)]
    exact law.beyond j high
  · obtain ⟨length, once, mem⟩ := law.lane l
    obtain ⟨length', once'⟩ := bounded (field := fun h => h.lane = l) once length
      (by rintro rfl; exact laneRoom) (lanes l) mem
    exact ⟨length', once', mem_join (field := fun h => h.lane = l) (lanes l) Iff.rfl mem⟩
  · obtain ⟨length, once, mem⟩ := law.purse slot
    obtain ⟨length', once'⟩ := bounded (field := fun h => h.cardSlot = slot) once length
      (by rintro rfl; exact purseRoom) (purses slot) mem
    exact ⟨length', once', mem_join (field := fun h => h.cardSlot = slot) (purses slot) Iff.rfl mem⟩
  · rw [(due.map DeadlineEntry.handle).nodup_iff, List.map_cons, List.nodup_cons, handle]
    refine ⟨fun listed => ?_, law.dueOnce⟩
    obtain ⟨y, mem, same⟩ := List.mem_map.1 listed
    exact apart ((law.due y).1 mem).1 same
  · rw [due.mem_iff, List.mem_cons, law.due, isOpen, or_and_right, or_comm]
    refine or_congr (and_congr_right fun was => by rw [kept was]) ⟨?_, ?_⟩
    · rintro rfl
      rw [handle, at_k]
      exact ⟨rfl, deadline, unmarked.2⟩
    · rintro ⟨own, due, _⟩
      rw [own, at_k, deadline] at due
      cases y
      cases entry
      simp_all
  · by_cases same : j = k
    · exact fun _ => same ▸ unmarked
    · rw [others j same]
      exact law.marks j
  · by_cases same : j = k
    · exact fun freed => absurd (same ▸ freed) opened
    · rw [others j same]
      exact law.shares j

end
end Engine

end Sys2Proof.Machine
end

section
/-! PROOF. The sums of the shares of open holds, and the laws of settlement, balances and places as holds are placed, changed and
detached. -/

namespace Sys2Proof.Machine

/-! ## Sums over lists without repetition -/

/-- Two sums over a list without repetition, of functions that differ at one member. -/
theorem List.sum_map_change {α : Type} [DecidableEq α] {f g : α → Nat} {a : α} {xs : List α} (once : xs.Nodup) (mem : a ∈ xs)
    (same : ∀ x ∈ xs, x ≠ a → g x = f x) : (xs.map g).sum + f a = (xs.map f).sum + g a := by
  have rest : ((xs.erase a).map g).sum = ((xs.erase a).map f).sum := by
    refine congrArg _ (List.map_congr_left fun x listed => ?_)
    obtain ⟨other, listed⟩ := once.mem_erase_iff.1 listed
    exact same x listed other
  rw [← List.sum_map_erase f mem, ← List.sum_map_erase g mem, rest]
  omega

theorem List.sum_map_filter {α : Type} (p : α → Bool) (f : α → Nat) (xs : List α) :
    ((xs.filter p).map f).sum = (xs.map fun x => if p x then f x else 0).sum := by
  induction xs with
  | nil => rfl
  | cons x xs ih =>
    rw [List.filter_cons]
    split
    next kept => simp [kept, ih]
    next dropped => simp [dropped, ih]

namespace Engine
section
variable {e e' : Engine} {k n : Nat}

/-! ## Shares -/

theorem shares_congr {f : Hold → Nat} {hs : List Nat} (same : ∀ h ∈ hs, f (e'.hold (handleSlot h)) = f (e.hold (handleSlot h))) :
    e'.shares f hs = e.shares f hs :=
  congrArg _ (List.map_congr_left same)

/-- One hold of a list of open holds is changed. -/
theorem shares_change (f : Hold → Nat) {hs : List Nat} (once : hs.Nodup) (opened : ∀ h ∈ hs, e.isOpen h)
    (inside : k < 512) (mem : e.handle k ∈ hs) (others : ∀ j, j ≠ k → e'.hold j = e.hold j) :
    e'.shares f hs + f (e.hold k) = e.shares f hs + f (e'.hold k) := by
  have at_k : handleSlot (e.handle k) = k := by rw [Engine.handle, handleSlot, handleOf_mod _ inside]
  have sum := List.sum_map_change (f := fun h => f (e.hold (handleSlot h))) (g := fun h => f (e'.hold (handleSlot h))) once mem
    fun h listed other => congrArg f (others _ (slot_ne_of_isOpen (opened h listed) other))
  simp only [at_k] at sum
  exact sum

/-- One hold of a list of open holds leaves it. -/
theorem shares_erase (f : Hold → Nat) {hs : List Nat} (once : hs.Nodup) (opened : ∀ h ∈ hs, e.isOpen h)
    (inside : k < 512) (mem : e.handle k ∈ hs) (others : ∀ j, j ≠ k → e'.hold j = e.hold j) :
    f (e.hold k) + e'.shares f (hs.erase (e.handle k)) = e.shares f hs := by
  have at_k : handleSlot (e.handle k) = k := by rw [Engine.handle, handleSlot, handleOf_mod _ inside]
  have rest : e'.shares f (hs.erase (e.handle k)) = e.shares f (hs.erase (e.handle k)) := by
    refine shares_congr fun h listed => ?_
    obtain ⟨other, listed⟩ := once.mem_erase_iff.1 listed
    exact congrArg f (others _ (slot_ne_of_isOpen (opened h listed) other))
  rw [rest]
  have sum := List.sum_map_erase (fun h => f (e.hold (handleSlot h))) mem
  rwa [at_k] at sum

/-- A hold joins a list of open holds. -/
theorem shares_append (f : Hold → Nat) {hs : List Nat} {h : Nat} (here : handleSlot h = k)
    (apart : ∀ j ∈ hs, handleSlot j ≠ k) (others : ∀ j, j ≠ k → e'.hold j = e.hold j) :
    e'.shares f (hs ++ [h]) = e.shares f hs + f (e'.hold k) := by
  have rest : e'.shares f hs = e.shares f hs := shares_congr fun j listed => by rw [others _ (apart j listed)]
  unfold shares at rest ⊢
  rw [List.map_append, List.sum_append, rest, List.map_singleton, List.sum_singleton, here]

/-- What a hold keeps of sponsor `n`. -/
def sponsorShare (n : Nat) (h : Hold) : Nat := if h.state ≠ .free ∧ h.sponsor = some n then h.allowanceShare else 0

theorem sponsorShares_eq (e : Engine) (n : Nat) :
    e.sponsorShares n = ((List.range 512).map fun k => sponsorShare n (e.hold k)).sum := by
  unfold sponsorShares
  generalize List.range 512 = ks
  rw [List.sum_map_filter]
  refine congrArg _ (List.map_congr_left fun k _ => ?_)
  simp only [sponsorShare, decide_eq_true_iff]

theorem sponsorShares_change (inside : k < 512) (others : ∀ j, j ≠ k → e'.hold j = e.hold j) (n : Nat) :
    e'.sponsorShares n + sponsorShare n (e.hold k) = e.sponsorShares n + sponsorShare n (e'.hold k) := by
  rw [sponsorShares_eq, sponsorShares_eq]
  have once : (List.range 512).Nodup := List.nodup_range
  have mem : k ∈ List.range 512 := List.mem_range.2 inside
  generalize List.range 512 = ks at once mem ⊢
  exact List.sum_map_change (f := fun j => sponsorShare n (e.hold j)) (g := fun j => sponsorShare n (e'.hold j)) once mem
    fun j _ other => congrArg _ (others j other)

theorem sponsorShares_congr (same : ∀ k, e'.hold k = e.hold k) (n : Nat) : e'.sponsorShares n = e.sponsorShares n := by
  simp only [sponsorShares, same]

/-- An open hold's share is part of what its sponsor's holds keep. -/
theorem sponsorShare_le (inside : k < 512) (n : Nat) : sponsorShare n (e.hold k) ≤ e.sponsorShares n := by
  rw [sponsorShares_eq]
  have mem : k ∈ List.range 512 := List.mem_range.2 inside
  generalize List.range 512 = ks at mem ⊢
  exact List.single_le_sum (fun _ _ => Nat.zero_le _) _ (List.mem_map_of_mem mem)

/-! ## Laws carried over -/

theorem mapOk_congr (ranges : e'.ranges = e.ranges) (count : e'.sponsorCount = e.sponsorCount) (ok : e.mapOk) : e'.mapOk := by
  unfold mapOk at ok ⊢
  rwa [ranges, count]

section
variable {number slot : Nat} {fl : List Flight} {ex : List Nat} {p : CardPurse}

/-- The law of a purse is that of its fields, of the shares of its holds, and of the map. -/
theorem CardLaw.of_shares (law : e.CardLaw number fl slot p) (ranges : e'.ranges = e.ranges)
    (count : e'.sponsorCount = e.sponsorCount)
    (same : ∀ f : Hold → Nat, (f = Hold.cashShare ∨ f = Hold.allowanceShare) → e'.shares f p.holdList = e.shares f p.holdList) :
    e'.CardLaw number fl slot p where
  cashHeld := (same _ (.inl rfl)).symm ▸ law.cashHeld
  allowanceHeld := (same _ (.inr rfl)).symm ▸ law.allowanceHeld
  outgoing := law.outgoing
  topUps := law.topUps
  cash := law.cash
  allowance := law.allowance
  current := law.current
  pending := law.pending
  region := by
    unfold isCardSlot
    rw [count]
    exact law.region
  mapped := ranges ▸ law.mapped
  closing := law.closing

theorem SponsorLaw.of_shares {p : SponsorPurse} (law : e.SponsorLaw fl n p) (same : e'.sponsorShares n = e.sponsorShares n) :
    e'.SponsorLaw fl n p := ⟨law.held.trans same.symm, law.balance, law.pending⟩

/-- A change of the engine that the laws of purses do not tell. -/
theorem PurseLaw.of_same (law : e.PurseLaw number fl ex) (holds : ∀ j, e'.hold j = e.hold j)
    (cards : ∀ j, e'.card j = e.card j) (sponsors : ∀ n, e'.sponsor n = e.sponsor n) (ranges : e'.ranges = e.ranges)
    (count : e'.sponsorCount = e.sponsorCount) : e'.PurseLaw number fl ex where
  settledOnce := law.settledOnce
  settling h := by
    rw [resolve_congr (holds _)]
    exact law.settling h
  covers x mem := by
    unfold Covers
    simp only [holds]
    exact law.covers x mem
  map := mapOk_congr ranges count law.map
  card j := by
    rw [cards]
    exact (law.card j).of_shares ranges count fun f _ => shares_congr fun h _ => by rw [holds]
  sponsor n := by
    rw [sponsors]
    exact (law.sponsor n).of_shares (sponsorShares_congr holds n)
  holdSponsors j := by
    rw [holds, count]
    exact law.holdSponsors j
  flightSponsors := count ▸ law.flightSponsors
  finds x mem slot named := by
    rw [cards]
    exact law.finds x mem slot named

/-! ## One hold changed -/

section
variable {list : List DeadlineEntry} (law : e.PurseLaw number fl ex) (holds : e.HoldLaw list)
include law holds

omit law in
/-- Every handle of a purse's hold list is of an open hold. -/
theorem HoldLaw.purse_isOpen {h : Nat} (mem : h ∈ (e.card slot).holdList) : e.isOpen h :=
  (((holds.purse slot).2.2 h).1 mem).1

omit holds in
/-- The handle of a CAPTURE record in flight is of a SETTLING hold. -/
theorem PurseLaw.flight_settling {x : Flight} (mem : x ∈ fl) {h : Nat} (handle : h ∈ x.2.handle) : e.resolve h = .settling :=
  (law.settling h).1 (List.mem_append.2 (.inl (List.mem_filterMap.2 ⟨x, mem, handle⟩)))

/-- One open hold is changed in what the laws of purses do not tell but for its state, which `ex'` follows. -/
theorem PurseLaw.retouch {ex' : List Nat} (opened : (e.hold k).state ≠ .free) (opened' : (e'.hold k).state ≠ .free)
    (slot : (e'.hold k).cardSlot = (e.hold k).cardSlot)
    (sponsor : (e'.hold k).sponsor = (e.hold k).sponsor) (allowance : (e'.hold k).allowanceShare = (e.hold k).allowanceShare)
    (cash : (e'.hold k).cashShare = (e.hold k).cashShare) (others : ∀ j, j ≠ k → e'.hold j = e.hold j)
    (cards : ∀ j, e'.card j = e.card j) (sponsors : ∀ n, e'.sponsor n = e.sponsor n) (ranges : e'.ranges = e.ranges)
    (count : e'.sponsorCount = e.sponsorCount) (settledOnce : (handlesOf fl ++ ex').Nodup)
    (settling : ∀ h, h ∈ handlesOf fl ++ ex' ↔ e'.resolve h = .settling) : e'.PurseLaw number fl ex' := by
  have fields (j : Nat) : (e'.hold j).cardSlot = (e.hold j).cardSlot ∧ (e'.hold j).sponsor = (e.hold j).sponsor ∧
      (e'.hold j).allowanceShare = (e.hold j).allowanceShare ∧ (e'.hold j).cashShare = (e.hold j).cashShare := by
    by_cases same : j = k
    · exact same ▸ ⟨slot, sponsor, allowance, cash⟩
    · rw [others j same]
      exact ⟨rfl, rfl, rfl, rfl⟩
  refine ⟨settledOnce, settling, fun x mem h handle c after sp ap cp body => ?_, mapOk_congr ranges count law.map, fun j => ?_,
    fun n => ?_, fun j => ?_, count ▸ law.flightSponsors, fun x mem c named => ?_⟩
  · obtain ⟨slotSame, sponsorSame, allowanceSame, cashSame⟩ := fields (handleSlot h)
    rw [slotSame, sponsorSame, allowanceSame, cashSame]
    exact law.covers x mem h handle c after sp ap cp body
  · rw [cards]
    refine (law.card j).of_shares ranges count ?_
    rintro f (rfl | rfl) <;> refine shares_congr fun h _ => ?_
    · exact (fields _).2.2.2
    · exact (fields _).2.2.1
  · rw [sponsors]
    refine (law.sponsor n).of_shares ?_
    have change := sponsorShares_change (holds.slot_lt opened) others n
    have same : sponsorShare n (e'.hold k) = sponsorShare n (e.hold k) := by
      simp only [sponsorShare, ne_eq, opened, opened', not_false_eq_true, sponsor, allowance]
    omega
  · rw [(fields j).2.1, count]
    by_cases same : j = k
    · exact fun _ => same ▸ law.holdSponsors k opened
    · rw [others j same]
      exact law.holdSponsors j
  · rw [cards]
    exact law.finds x mem c named

/-- A hold is detached that no record in flight settles: its shares go back to its purses. -/
theorem PurseLaw.detach (opened : (e.hold k).state ≠ .free) (freed : (e'.hold k).state = .free)
    (others : ∀ j, j ≠ k → e'.hold j = e.hold j) (unsettled : e.handle k ∉ handlesOf fl)
    (card : e'.card (e.hold k).cardSlot = { e.card (e.hold k).cardSlot with
      cashHeld := (e.card (e.hold k).cardSlot).cashHeld - (e.hold k).cashShare,
      allowanceHeld := (e.card (e.hold k).cardSlot).allowanceHeld - (e.hold k).allowanceShare,
      holdList := (e.card (e.hold k).cardSlot).holdList.erase (e.handle k) })
    (cards : ∀ j, j ≠ (e.hold k).cardSlot → e'.card j = e.card j)
    (named : ∀ n, (e.hold k).sponsor = some n →
      e'.sponsor n = { e.sponsor n with held := (e.sponsor n).held - (e.hold k).allowanceShare })
    (sponsors : ∀ n, (e.hold k).sponsor ≠ some n → e'.sponsor n = e.sponsor n) (ranges : e'.ranges = e.ranges)
    (count : e'.sponsorCount = e.sponsorCount) : e'.PurseLaw number fl (ex.erase (e.handle k)) := by
  have inside := holds.slot_lt opened
  have at_k : handleSlot (e.handle k) = k := by rw [Engine.handle, handleSlot, handleOf_mod _ inside]
  have exOnce : ex.Nodup := (List.nodup_append.1 law.settledOnce).2.1
  have settles {h : Nat} (other : h ≠ e.handle k) : e'.resolve h = .settling ↔ e.resolve h = .settling := by
    by_cases same : h % 512 = k
    · rw [resolve_eq_settling, resolve_eq_settling, same, freed]
      refine iff_of_false (fun now => nomatch now.2) fun was => other ?_
      rw [Engine.handle, was.1, ← same, handleOf_div_mod]
    · rw [resolve_congr (others _ same)]
  have freed_k : e'.resolve (e.handle k) ≠ .settling := by
    rw [Ne, resolve_eq_settling, show e.handle k % 512 = k from at_k, freed]
    exact fun now => nomatch now.2
  refine ⟨law.settledOnce.sublist ((List.Sublist.refl _).append List.erase_sublist), fun h => ?_, fun x mem h handle => ?_,
    mapOk_congr ranges count law.map, fun j => ?_, fun n => ?_, fun j => ?_, count ▸ law.flightSponsors,
    fun x mem c named => ?_⟩
  · by_cases own : h = e.handle k
    · rw [own, List.mem_append, exOnce.mem_erase_iff]
      exact iff_of_false (fun now => now.elim unsettled fun new => new.1 rfl) freed_k
    · rw [settles own, ← law.settling h, List.mem_append, List.mem_append, List.mem_erase_of_ne own]
  · have settling := law.flight_settling mem handle
    have other : h ≠ e.handle k := by
      rintro rfl
      exact unsettled (List.mem_filterMap.2 ⟨x, mem, handle⟩)
    have kept : e'.hold (handleSlot h) = e.hold (handleSlot h) := others _ (slot_ne_of_isOpen (.inr settling) other)
    rw [kept]
    exact law.covers x mem h handle
  · have cardLaw := law.card j
    obtain ⟨-, once, listed⟩ := holds.purse j
    by_cases own : j = (e.hold k).cardSlot
    · subst own
      have mem : e.handle k ∈ (e.card (e.hold k).cardSlot).holdList := (listed _).2 ⟨isOpen_handle inside opened, by rw [at_k]⟩
      have erased (f : Hold → Nat) := shares_erase (e' := e') f once (fun h => (fun m => ((listed h).1 m).1)) inside mem others
      have cashErased := erased Hold.cashShare
      have allowanceErased := erased Hold.allowanceShare
      rw [← cardLaw.cashHeld] at cashErased
      rw [← cardLaw.allowanceHeld] at allowanceErased
      have cash := cardLaw.cash
      have allowance := cardLaw.allowance
      rw [card]
      refine ⟨by dsimp only; omega, by dsimp only; omega, cardLaw.outgoing, cardLaw.topUps, by dsimp only; omega,
        by dsimp only; omega, fun _ => cardLaw.current (List.ne_nil_of_mem mem), cardLaw.pending, fun outside => ?_,
        ranges ▸ cardLaw.mapped, cardLaw.closing⟩
      have emptied := cardLaw.region (by rwa [isCardSlot, ← count])
      rw [emptied] at mem
      exact absurd mem List.not_mem_nil
    · rw [cards j own]
      refine cardLaw.of_shares ranges count fun f _ => shares_congr fun h mem => ?_
      obtain ⟨isOpen, here⟩ := (listed h).1 mem
      refine congrArg f (others _ fun same => own ?_)
      rw [← here, same]
  · have sponsorLaw := law.sponsor n
    have change := sponsorShares_change inside others n
    have gone : sponsorShare n (e'.hold k) = 0 := if_neg fun now => now.1 freed
    by_cases own : (e.hold k).sponsor = some n
    · have share : sponsorShare n (e.hold k) = (e.hold k).allowanceShare := if_pos ⟨opened, own⟩
      have held := sponsorLaw.held
      have balance := sponsorLaw.balance
      rw [named n own]
      exact ⟨by dsimp only; omega, by dsimp only; omega, sponsorLaw.pending⟩
    · have share : sponsorShare n (e.hold k) = 0 := if_neg fun now => own now.2
      rw [sponsors n own]
      exact sponsorLaw.of_shares (by omega)
  · rw [count]
    by_cases same : j = k
    · exact fun stays => absurd (same ▸ freed) stays
    · rw [others j same]
      exact law.holdSponsors j
  · have found := law.finds x mem c named
    by_cases own : c = (e.hold k).cardSlot
    · have card' := own ▸ card
      exact found.of_same (by rw [card']) (by rw [card']) (by rw [card']) (by rw [card']) fun empty => by
        rw [card']
        simp [empty]
    · rw [cards c own]
      exact found

end
end
end
end Engine

end Sys2Proof.Machine
end

section
/-! PROOF. The laws of settlement, balances and places as a hold is placed and as records are queued and taken. -/

namespace Sys2Proof.Machine

/-! ## Cards and the slots they map to -/

/-- A card maps to a slot of the card region only. -/
theorem Engine.mapOk.inRegion {e : Engine} (ok : e.mapOk) {card slot : Nat} (mapped : slotOf e.ranges card = some slot) :
    e.isCardSlot slot = true := by
  obtain ⟨k, enabled, -, -, below⟩ := slotOf_eq_some mapped
  have clear := (clearOfSponsors_iff _).1 ok.2.1 k enabled
  rw [Engine.isCardSlot_iff]
  omega

/-- A record that finds its purse in use and not closing is neither an OPEN nor a CLOSE_PURSE record. -/
theorem RecordBody.Finds.ordinary {b : RecordBody} {p p' : CardPurse} (found : b.Finds p) (kept : p.state ≠ .free)
    (unqueued : p.closeQueued = false) (kept' : p'.state ≠ .free) (unqueued' : p'.closeQueued = false) : b.Finds p' := by
  cases b with
  | change kind =>
    cases kind with
    | openPurse => exact absurd found.1 kept
    | closePurse => exact absurd found.2.1 (by simp [unqueued])
    | block | unblock => exact ⟨kept', unqueued'⟩
  | capture | reversal | topUp | withdraw | fund | periodClose => exact ⟨kept', unqueued'⟩

namespace Engine
section
variable {e e' : Engine} {k number : Nat} {fl fl' : List Flight} {ex : List Nat} {x : Flight}

theorem PurseLaw.inRegion (law : e.PurseLaw number fl ex) {slot : Nat}
    (used : (e.card slot).state ≠ .free ∨ (e.card slot).pendingRecords ≠ 0) : e.isCardSlot slot = true :=
  law.map.inRegion ((law.card slot).mapped used)

/-- A hold is placed in a FREE slot. -/
theorem PurseLaw.place {list : List DeadlineEntry} (law : e.PurseLaw number fl ex) (holds : e.HoldLaw list) (inside : k < 512)
    (wasFree : (e.hold k).state = .free) (live : (e'.hold k).state = .live) (others : ∀ j, j ≠ k → e'.hold j = e.hold j)
    (card : e'.card (e'.hold k).cardSlot = { e.card (e'.hold k).cardSlot with
      cashHeld := (e.card (e'.hold k).cardSlot).cashHeld + (e'.hold k).cashShare,
      allowanceHeld := (e.card (e'.hold k).cardSlot).allowanceHeld + (e'.hold k).allowanceShare,
      holdList := (e.card (e'.hold k).cardSlot).holdList ++ [e'.handle k] })
    (cards : ∀ j, j ≠ (e'.hold k).cardSlot → e'.card j = e.card j)
    (used : (e.card (e'.hold k).cardSlot).state ≠ .free)
    (current : (e.card (e'.hold k).cardSlot).allowancePeriod = number)
    (unqueued : (e.card (e'.hold k).cardSlot).closeQueued = false)
    (cashRoom : (e.card (e'.hold k).cardSlot).cashHeld + (e.card (e'.hold k).cardSlot).cashOutgoing + (e'.hold k).cashShare ≤
      (e.card (e'.hold k).cardSlot).cashBalance)
    (allowanceRoom : (e.card (e'.hold k).cardSlot).allowanceHeld + (e'.hold k).allowanceShare ≤
      (e.card (e'.hold k).cardSlot).allowanceRemaining)
    (named : ∀ n, (e'.hold k).sponsor = some n → n < e.sponsorCount ∧
      (e.sponsor n).held + (e'.hold k).allowanceShare ≤ (e.sponsor n).balance ∧
      e'.sponsor n = { e.sponsor n with held := (e.sponsor n).held + (e'.hold k).allowanceShare })
    (sponsors : ∀ n, (e'.hold k).sponsor ≠ some n → e'.sponsor n = e.sponsor n) (ranges : e'.ranges = e.ranges)
    (count : e'.sponsorCount = e.sponsorCount) : e'.PurseLaw number fl ex := by
  have at_k : handleSlot (e'.handle k) = k := by rw [Engine.handle, handleSlot, handleOf_mod _ inside]
  have opened : (e'.hold k).state ≠ .free := by rw [live]; nofun
  have notOpen {h : Nat} (was : e.isOpen h) : handleSlot h ≠ k := by
    rintro same
    rw [isOpen_iff, show h % 512 = k from same] at was
    exact was.2 wasFree
  refine ⟨law.settledOnce, fun h => ?_, fun x mem h handle => ?_, mapOk_congr ranges count law.map, fun j => ?_, fun n => ?_,
    fun j => ?_, count ▸ law.flightSponsors, fun x mem c at_c => ?_⟩
  · rw [law.settling]
    by_cases same : h % 512 = k
    · rw [resolve_eq_settling, resolve_eq_settling, same, live, wasFree]
      exact iff_of_false (fun now => nomatch now.2) fun now => nomatch now.2
    · rw [resolve_congr (others _ same)]
  · rw [others _ (notOpen (.inr (law.flight_settling mem handle)))]
    exact law.covers x mem h handle
  · have cardLaw := law.card j
    obtain ⟨-, -, listed⟩ := holds.purse j
    have apart (h : Nat) (mem : h ∈ (e.card j).holdList) : handleSlot h ≠ k := notOpen ((listed h).1 mem).1
    by_cases own : j = (e'.hold k).cardSlot
    · have joined (f : Hold → Nat) := shares_append (e' := e') f at_k apart others
      have cashJoined := joined Hold.cashShare
      have allowanceJoined := joined Hold.allowanceShare
      rw [← cardLaw.cashHeld] at cashJoined
      rw [← cardLaw.allowanceHeld] at allowanceJoined
      have region : e'.isCardSlot j = true := by
        rw [Engine.isCardSlot, count]
        exact law.inRegion (.inl (own ▸ used))
      rw [own] at cashJoined allowanceJoined cardLaw ⊢
      rw [card]
      exact ⟨cashJoined.symm, allowanceJoined.symm, cardLaw.outgoing, cardLaw.topUps, by dsimp only; omega, allowanceRoom,
        fun _ => ⟨used, current⟩, cardLaw.pending, fun outside => absurd (own ▸ region) (by simp [outside]),
        ranges ▸ cardLaw.mapped, cardLaw.closing⟩
    · rw [cards j own]
      exact cardLaw.of_shares ranges count fun f _ => shares_congr fun h mem => congrArg f (others _ (apart h mem))
  · have sponsorLaw := law.sponsor n
    have change := sponsorShares_change inside others n
    have before : sponsorShare n (e.hold k) = 0 := if_neg fun now => now.1 wasFree
    by_cases own : (e'.hold k).sponsor = some n
    · obtain ⟨-, room, sponsor⟩ := named n own
      have share : sponsorShare n (e'.hold k) = (e'.hold k).allowanceShare := if_pos ⟨opened, own⟩
      have held := sponsorLaw.held
      rw [sponsor]
      exact ⟨by dsimp only; omega, room, sponsorLaw.pending⟩
    · have share : sponsorShare n (e'.hold k) = 0 := if_neg fun now => own now.2
      rw [sponsors n own]
      exact sponsorLaw.of_shares (by omega)
  · rw [count]
    by_cases same : j = k
    · rw [same]
      exact fun _ n sponsor => (named n sponsor).1
    · rw [others j same]
      exact law.holdSponsors j
  · have found := law.finds x mem c at_c
    by_cases own : c = (e'.hold k).cardSlot
    · subst own
      exact found.ordinary used unqueued (by rw [card]; exact used) (by rw [card]; exact unqueued)
    · rw [cards c own]
      exact found

/-- The order of the records in flight is nothing to the laws of purses. -/
theorem PurseLaw.perm (law : e.PurseLaw number fl ex) (perm : fl'.Perm fl) : e.PurseLaw number fl' ex where
  settledOnce := ((perm.filterMap _).append_right ex).nodup_iff.2 law.settledOnce
  settling h := ((perm.filterMap _).append_right ex).mem_iff.trans (law.settling h)
  covers x mem := law.covers x (perm.mem_iff.1 mem)
  map := law.map
  card slot :=
    have card := law.card slot
    { cashHeld := card.cashHeld
      allowanceHeld := card.allowanceHeld
      outgoing := card.outgoing.trans (reservedIn_perm perm _ slot).symm
      topUps := card.topUps.trans (reservedIn_perm perm _ slot).symm
      cash := card.cash
      allowance := card.allowance
      current := card.current
      pending := card.pending.trans (namingCard_perm perm slot).symm
      region := card.region
      mapped := card.mapped
      closing := fun queued =>
        have ⟨alone, x, mem, closes⟩ := card.closing queued
        ⟨alone, x, perm.mem_iff.2 mem, closes⟩ }
  sponsor n :=
    have sponsor := law.sponsor n
    ⟨sponsor.held, sponsor.balance, sponsor.pending.trans (namingSponsor_perm perm n).symm⟩
  holdSponsors := law.holdSponsors
  flightSponsors x mem := law.flightSponsors x (perm.mem_iff.1 mem)
  finds x mem := law.finds x (perm.mem_iff.1 mem)

end
end Engine

/-! ## A record queued -/

/-- What the queueing of a record with body `b` makes of the card purse `p` at its slot. -/
structure CardPurse.Queues (ranges : Vector RangeEntry 8) (slot : Nat) (b : RecordBody) (p p' : CardPurse) : Prop where
  purse : p' = { p with
    cardNumber := p'.cardNumber, cashOutgoing := p.cashOutgoing + b.withdrawn, topUpPending := p.topUpPending + b.toppedUp,
    pendingRecords := p.pendingRecords + 1, closeQueued := p'.closeQueued }
  cash : p.cashHeld + p.cashOutgoing + b.withdrawn ≤ p.cashBalance
  mapped : slotOf ranges p'.cardNumber = some slot
  finds : b.Finds p'
  alone : p.pendingRecords = 0 ∨ p.state ≠ .free ∧ p.closeQueued = false ∧ p'.closeQueued = false
  closes : p'.closeQueued = true → p.pendingRecords = 0 ∧ ∃ c, b = .change .closePurse slot c

/-! ## A record taken -/

/-- What the taking of a record with body `b` makes of the card purse `p` at its slot, its held amounts left alone. -/
structure CardPurse.Takes (b : RecordBody) (p p' : CardPurse) : Prop where
  holdList : p'.holdList = p.holdList
  cashHeld : p'.cashHeld = p.cashHeld
  allowanceHeld : p'.allowanceHeld = p.allowanceHeld
  cardNumber : p'.cardNumber = p.cardNumber
  outgoing : p'.cashOutgoing = p.cashOutgoing - b.withdrawn
  topUps : p'.topUpPending = p.topUpPending - b.toppedUp
  pending : p'.pendingRecords = p.pendingRecords - 1
  cash : p'.cashHeld + p'.cashOutgoing ≤ p'.cashBalance
  allowance : p'.allowanceHeld ≤ p'.allowanceRemaining
  current : p.holdList ≠ [] → p'.state ≠ .free ∧ p'.allowancePeriod = p.allowancePeriod
  unqueued : p'.closeQueued = false
  kept : p.pendingRecords ≠ 1 → p.state ≠ .free ∧ p.closeQueued = false ∧ p'.state ≠ .free

namespace Engine
section
variable {e e' : Engine} {number : Nat} {fl : List Flight} {ex : List Nat} {x : Flight}

/-- A record is queued. -/
theorem PurseLaw.queue (law : e.PurseLaw number fl (x.2.handle.toList ++ ex)) (holds : ∀ j, e'.hold j = e.hold j)
    (covered : e.Covers x)
    (card : ∀ slot, x.1.body.cardSlot = some slot → (e.card slot).Queues e.ranges slot x.1.body (e'.card slot))
    (cards : ∀ slot, x.1.body.cardSlot ≠ some slot → e'.card slot = e.card slot)
    (named : ∀ n, x.1.body.sponsor = some n → n < e.sponsorCount ∧ e'.sponsor n = (e.sponsor n).addPending)
    (sponsors : ∀ n, x.1.body.sponsor ≠ some n → e'.sponsor n = e.sponsor n) (ranges : e'.ranges = e.ranges)
    (count : e'.sponsorCount = e.sponsorCount) : e'.PurseLaw number (x :: fl) ex := by
  have handles : (handlesOf (x :: fl) ++ ex).Perm (handlesOf fl ++ (x.2.handle.toList ++ ex)) := by
    rw [handlesOf_cons, ← List.append_assoc]
    exact List.perm_append_comm.append_right ex
  refine ⟨handles.nodup_iff.2 law.settledOnce, fun h => ?_, fun y mem h handle => ?_, mapOk_congr ranges count law.map,
    fun j => ?_, fun n => ?_, fun j => ?_, fun y mem n sponsor => ?_, fun y mem c at_c => ?_⟩
  · rw [handles.mem_iff, law.settling, resolve_congr (holds _)]
  · rw [holds]
    obtain rfl | mem := List.mem_cons.1 mem
    · exact covered h handle
    · exact law.covers y mem h handle
  · have cardLaw := (law.card j).of_shares (e' := e') ranges count fun f _ => shares_congr fun h _ => by rw [holds]
    by_cases own : x.1.body.cardSlot = some j
    · have queues := card j own
      have region : e'.isCardSlot j = true := by
        rw [Engine.isCardSlot, count]
        exact law.map.inRegion queues.mapped
      have reserved (f : RecordBody → Nat) : reservedIn (x :: fl) f j = f x.1.body + reservedIn fl f j := by
        rw [reservedIn_cons, if_pos own]
      have naming : namingCard (x :: fl) j = 1 + namingCard fl j := by rw [namingCard_cons, if_pos own]
      have purse := queues.purse
      have cash := queues.cash
      have outgoing := cardLaw.outgoing
      have topUps := cardLaw.topUps
      have pending := cardLaw.pending
      have mapped := queues.mapped
      have closes := queues.closes
      generalize e'.card j = p' at purse mapped closes ⊢
      rw [purse]
      refine ⟨cardLaw.cashHeld, cardLaw.allowanceHeld, ?_, ?_, ?_, cardLaw.allowance, cardLaw.current, ?_,
        fun outside => absurd region (by simp [outside]), fun _ => ranges ▸ mapped, fun queued => ?_⟩
      · rw [reserved]
        dsimp only
        omega
      · rw [reserved]
        dsimp only
        omega
      · dsimp only
        omega
      · dsimp only
        omega
      · obtain ⟨alone, c, body⟩ := closes queued
        exact ⟨by dsimp only; omega, x, List.mem_cons_self, c, body⟩
    · rw [cards j own]
      have reserved (f : RecordBody → Nat) : reservedIn (x :: fl) f j = reservedIn fl f j := by
        rw [reservedIn_cons, if_neg own, Nat.zero_add]
      have naming : namingCard (x :: fl) j = namingCard fl j := by rw [namingCard_cons, if_neg own, Nat.zero_add]
      exact { cardLaw with
        outgoing := cardLaw.outgoing.trans (reserved _).symm
        topUps := cardLaw.topUps.trans (reserved _).symm
        pending := cardLaw.pending.trans naming.symm
        closing := fun queued =>
          have ⟨alone, y, mem, closes⟩ := cardLaw.closing queued
          ⟨alone, y, List.mem_cons_of_mem x mem, closes⟩ }
  · have sponsorLaw := (law.sponsor n).of_shares (e' := e') (sponsorShares_congr holds n)
    have pending := sponsorLaw.pending
    by_cases own : x.1.body.sponsor = some n
    · rw [(named n own).2]
      refine ⟨sponsorLaw.held, sponsorLaw.balance, ?_⟩
      rw [namingSponsor_cons, if_pos own, SponsorPurse.addPending]
      dsimp only
      omega
    · rw [sponsors n own]
      refine ⟨sponsorLaw.held, sponsorLaw.balance, ?_⟩
      rw [namingSponsor_cons, if_neg own, Nat.zero_add]
      exact pending
  · rw [holds, count]
    exact law.holdSponsors j
  · rw [count]
    obtain rfl | mem := List.mem_cons.1 mem
    · exact (named n sponsor).1
    · exact law.flightSponsors y mem n sponsor
  · by_cases own : x.1.body.cardSlot = some c
    · have queues := card c own
      obtain rfl | mem := List.mem_cons.1 mem
      · exact queues.finds
      · obtain none | ⟨used, unqueued, unqueued'⟩ := queues.alone
        · have pos := namingCard_pos mem at_c
          have pending := (law.card c).pending
          omega
        · have purse := queues.purse
          refine (law.finds y mem c at_c).ordinary used unqueued ?_ unqueued'
          rw [purse]
          exact used
    · rw [cards c own]
      obtain rfl | mem := List.mem_cons.1 mem
      · exact absurd at_c own
      · exact law.finds y mem c at_c

/-- The engine takes a record, which leaves the held amounts alone. -/
theorem PurseLaw.take (law : e.PurseLaw number (x :: fl) ex) (holds : ∀ j, e'.hold j = e.hold j)
    (card : ∀ slot, x.1.body.cardSlot = some slot → (e.card slot).Takes x.1.body (e'.card slot))
    (cards : ∀ slot, x.1.body.cardSlot ≠ some slot → e'.card slot = e.card slot)
    (named : ∀ n, x.1.body.sponsor = some n → (e'.sponsor n).held = (e.sponsor n).held ∧
      (e.sponsor n).held ≤ (e'.sponsor n).balance ∧ (e'.sponsor n).pendingRecords = (e.sponsor n).pendingRecords - 1)
    (sponsors : ∀ n, x.1.body.sponsor ≠ some n → e'.sponsor n = e.sponsor n) (ranges : e'.ranges = e.ranges)
    (count : e'.sponsorCount = e.sponsorCount) : e'.PurseLaw number fl (x.2.handle.toList ++ ex) := by
  have handles : (handlesOf fl ++ (x.2.handle.toList ++ ex)).Perm (handlesOf (x :: fl) ++ ex) := by
    rw [handlesOf_cons, ← List.append_assoc]
    exact List.perm_append_comm.append_right ex
  refine ⟨handles.nodup_iff.2 law.settledOnce, fun h => ?_, fun y mem h handle => ?_, mapOk_congr ranges count law.map,
    fun j => ?_, fun n => ?_, fun j => ?_, fun y mem => ?_, fun y mem c at_c => ?_⟩
  · rw [handles.mem_iff, law.settling, resolve_congr (holds _)]
  · rw [holds]
    exact law.covers y (List.mem_cons_of_mem x mem) h handle
  · have cardLaw := (law.card j).of_shares (e' := e') ranges count fun f _ => shares_congr fun h _ => by rw [holds]
    have outgoing := cardLaw.outgoing
    have topUps := cardLaw.topUps
    have pending := cardLaw.pending
    by_cases own : x.1.body.cardSlot = some j
    · have takes := card j own
      rw [reservedIn_cons, if_pos own] at outgoing topUps
      rw [namingCard_cons, if_pos own] at pending
      have mapped := cardLaw.mapped (.inr (by omega))
      refine ⟨by rw [takes.cashHeld, takes.holdList]; exact cardLaw.cashHeld,
        by rw [takes.allowanceHeld, takes.holdList]; exact cardLaw.allowanceHeld,
        by rw [takes.outgoing]; omega, by rw [takes.topUps]; omega, takes.cash, takes.allowance, fun held => ?_,
        by rw [takes.pending]; omega, fun outside => ?_, fun _ => takes.cardNumber ▸ mapped,
        fun queued => absurd queued (by simp [takes.unqueued])⟩
      · rw [takes.holdList] at held
        exact ⟨(takes.current held).1, (takes.current held).2.trans (cardLaw.current held).2⟩
      · rw [isCardSlot, count] at outside
        exact absurd (law.inRegion (slot := j) (.inr (by omega))) (by rw [isCardSlot, outside]; nofun)
    · rw [cards j own]
      rw [reservedIn_cons, if_neg own, Nat.zero_add] at outgoing topUps
      rw [namingCard_cons, if_neg own, Nat.zero_add] at pending
      refine { cardLaw with outgoing := outgoing, topUps := topUps, pending := pending, closing := fun queued => ?_ }
      obtain ⟨alone, y, mem, c, closes⟩ := cardLaw.closing queued
      refine ⟨alone, y, ?_, c, closes⟩
      obtain rfl | mem := List.mem_cons.1 mem
      · exact absurd (by rw [closes]; rfl) own
      · exact mem
  · have sponsorLaw := (law.sponsor n).of_shares (e' := e') (sponsorShares_congr holds n)
    have pending := sponsorLaw.pending
    by_cases own : x.1.body.sponsor = some n
    · obtain ⟨held, balance, dropped⟩ := named n own
      rw [namingSponsor_cons, if_pos own] at pending
      exact ⟨held.trans sponsorLaw.held, held ▸ balance, by omega⟩
    · rw [sponsors n own]
      rw [namingSponsor_cons, if_neg own, Nat.zero_add] at pending
      exact ⟨sponsorLaw.held, sponsorLaw.balance, pending⟩
  · rw [holds, count]
    exact law.holdSponsors j
  · rw [count]
    exact law.flightSponsors y (List.mem_cons_of_mem x mem)
  · have found := law.finds y (List.mem_cons_of_mem x mem) c at_c
    by_cases own : x.1.body.cardSlot = some c
    · have takes := card c own
      have pending := (law.card c).pending
      rw [namingCard_cons, if_pos own] at pending
      have pos := namingCard_pos mem at_c
      obtain ⟨used, unqueued, used'⟩ := takes.kept (by omega)
      exact found.ordinary used unqueued used' takes.unqueued
    · rw [cards c own]
      exact found

end
end Engine

end Sys2Proof.Machine
end

section
/-! PROOF. The laws of purses as a durable capture is charged, as the other records take effect or fall away, and as the purses, the
map and the period change. -/

namespace Sys2Proof.Machine

namespace Engine
section
variable {e e' : Engine} {k number : Nat} {fl : List Flight} {ex : List Nat} {x : Flight}

/-- The engine takes a durable CAPTURE record: its parts go from the hold, from its purses, and from their held amounts. -/
theorem PurseLaw.charge {list : List DeadlineEntry} {slot ap cp handle spent : Nat} {c : CardAfter} {sp : Option SponsorAfter}
    (law : e.PurseLaw number (x :: fl) ex) (holds : e.HoldLaw list) (body : x.1.body = .capture slot c sp ap cp)
    (owner : x.2.handle = some handle) (at_k : handleSlot handle = k) (state : (e'.hold k).state = (e.hold k).state)
    (generation : (e'.hold k).generation = (e.hold k).generation)
    (sponsor : (e'.hold k).sponsor = (e.hold k).sponsor)
    (allowance : (e'.hold k).allowanceShare = (e.hold k).allowanceShare - ap)
    (cash : (e'.hold k).cashShare = (e.hold k).cashShare - cp) (others : ∀ j, j ≠ k → e'.hold j = e.hold j)
    (card : e'.card slot = { e.card slot with
      cashBalance := (e.card slot).cashBalance - cp, allowanceRemaining := (e.card slot).allowanceRemaining - ap, spent := spent,
      cashHeld := (e.card slot).cashHeld - cp, allowanceHeld := (e.card slot).allowanceHeld - ap,
      pendingRecords := (e.card slot).pendingRecords - 1 })
    (cards : ∀ j, j ≠ slot → e'.card j = e.card j)
    (named : ∀ n, sp.map SponsorAfter.sponsor = some n → e'.sponsor n = { e.sponsor n with
      balance := (e.sponsor n).balance - ap, held := (e.sponsor n).held - ap,
      pendingRecords := (e.sponsor n).pendingRecords - 1 })
    (sponsors : ∀ n, sp.map SponsorAfter.sponsor ≠ some n → e'.sponsor n = e.sponsor n) (ranges : e'.ranges = e.ranges)
    (count : e'.sponsorCount = e.sponsorCount) : e'.PurseLaw number fl (handle :: ex) := by
  have mem_x : x ∈ x :: fl := List.mem_cons_self
  have settling := law.flight_settling mem_x (h := handle) owner
  have opened : e.isOpen handle := .inr settling
  have names : e.handle k = handle := at_k ▸ e.handle_of_isOpen opened
  have kept : (e.hold k).state ≠ .free := at_k ▸ ((e.isOpen_iff handle).1 opened).2
  have inside := holds.slot_lt kept
  obtain ⟨here, backs, allowanceCovered, cashCovered⟩ := law.covers x mem_x handle owner slot c sp ap cp body
  rw [at_k] at here backs allowanceCovered cashCovered
  have bodySlot : x.1.body.cardSlot = some slot := by rw [body]; rfl
  have bodySponsor : x.1.body.sponsor = sp.map SponsorAfter.sponsor := by rw [body]; rfl
  have found : (e.card slot).state ≠ .free ∧ (e.card slot).closeQueued = false := by
    have found := law.finds x mem_x slot bodySlot
    rw [body] at found
    exact found
  have handles : (handlesOf fl ++ (handle :: ex)).Perm (handlesOf (x :: fl) ++ ex) := by
    rw [handlesOf_cons, owner]
    exact List.perm_middle
  have resolves (h : Nat) : e'.resolve h = .settling ↔ e.resolve h = .settling := by
    rw [resolve_eq_settling, resolve_eq_settling]
    by_cases same : h % 512 = k
    · rw [same, generation, state]
    · rw [others _ same]
  refine ⟨handles.nodup_iff.2 law.settledOnce, fun h => ?_, fun y mem h own => ?_, mapOk_congr ranges count law.map,
    fun j => ?_, fun n => ?_, fun j => ?_, fun y mem => ?_, fun y mem j at_j => ?_⟩
  · rw [handles.mem_iff, law.settling, resolves]
  · have other : h ≠ e.handle k := by
      rintro rfl
      have once := (List.nodup_append.1 law.settledOnce).1
      rw [handlesOf_cons, owner] at once
      refine (List.nodup_cons.1 once).1 (List.mem_filterMap.2 ⟨y, mem, ?_⟩)
      exact names ▸ own
    have settlingY := law.flight_settling (List.mem_cons_of_mem x mem) own
    have same : e'.hold (handleSlot h) = e.hold (handleSlot h) := others _ (slot_ne_of_isOpen (.inr settlingY) other)
    rw [same]
    exact law.covers y (List.mem_cons_of_mem x mem) h own
  · have cardLaw := law.card j
    obtain ⟨-, once, listed⟩ := holds.purse j
    have pending := cardLaw.pending
    have outgoing := cardLaw.outgoing
    have topUps := cardLaw.topUps
    by_cases own : j = slot
    · subst own
      have mem : e.handle k ∈ (e.card j).holdList := (listed _).2 ⟨names ▸ opened, by rw [names, at_k]; exact here⟩
      have changed (f : Hold → Nat) := shares_change (e' := e') f once (fun h m => ((listed h).1 m).1) inside mem others
      have cashChanged := changed Hold.cashShare
      have allowanceChanged := changed Hold.allowanceShare
      rw [← cardLaw.cashHeld, cash] at cashChanged
      rw [← cardLaw.allowanceHeld, allowance] at allowanceChanged
      rw [reservedIn_cons, if_pos bodySlot, body] at outgoing topUps
      rw [namingCard_cons, if_pos bodySlot] at pending
      have cashBound := cardLaw.cash
      have allowanceBound := cardLaw.allowance
      have outgoing' : (e.card j).cashOutgoing = reservedIn fl RecordBody.withdrawn j := outgoing.trans (Nat.zero_add _)
      have topUps' : (e.card j).topUpPending = reservedIn fl RecordBody.toppedUp j := topUps.trans (Nat.zero_add _)
      rw [card]
      refine ⟨by dsimp only; omega, by dsimp only; omega, outgoing', topUps', by dsimp only; omega, by dsimp only; omega,
        cardLaw.current, by dsimp only; omega, fun outside => ?_, fun _ => ranges ▸ cardLaw.mapped (.inl found.1),
        fun queued => absurd queued (by simp [found.2])⟩
      have region := law.inRegion (slot := j) (.inl found.1)
      rw [Engine.isCardSlot, ← count] at region
      rw [Engine.isCardSlot, region] at outside
      nomatch outside
    · rw [cards j own]
      have elsewhere : x.1.body.cardSlot ≠ some j := by
        rw [bodySlot]
        exact fun same => own (Option.some.inj same).symm
      have cardLaw' := cardLaw.of_shares (e' := e') ranges count fun f _ => shares_congr fun h mem => congrArg f
        (others _ fun same => own (by rw [← here, ← same]; exact ((listed h).1 mem).2.symm))
      rw [reservedIn_cons, if_neg elsewhere, Nat.zero_add] at outgoing topUps
      rw [namingCard_cons, if_neg elsewhere, Nat.zero_add] at pending
      refine { cardLaw' with outgoing := outgoing, topUps := topUps, pending := pending, closing := fun queued => ?_ }
      obtain ⟨alone, y, mem, after, closes⟩ := cardLaw.closing queued
      refine ⟨alone, y, ?_, after, closes⟩
      obtain rfl | mem := List.mem_cons.1 mem
      · exact absurd (by rw [closes]; rfl) elsewhere
      · exact mem
  · have sponsorLaw := law.sponsor n
    have change := sponsorShares_change inside others n
    have pending := sponsorLaw.pending
    by_cases own : sp.map SponsorAfter.sponsor = some n
    · have before : sponsorShare n (e.hold k) = (e.hold k).allowanceShare := if_pos ⟨kept, backs.trans own⟩
      have after : sponsorShare n (e'.hold k) = (e'.hold k).allowanceShare :=
        if_pos ⟨state.symm ▸ kept, sponsor.trans (backs.trans own)⟩
      rw [before, after, allowance] at change
      have held := sponsorLaw.held
      have balance := sponsorLaw.balance
      rw [namingSponsor_cons, if_pos (bodySponsor.trans own)] at pending
      rw [named n own]
      exact ⟨by dsimp only; omega, by dsimp only; omega, by dsimp only; omega⟩
    · have before : sponsorShare n (e.hold k) = 0 := if_neg fun now => own (backs.symm.trans now.2)
      have after : sponsorShare n (e'.hold k) = 0 := if_neg fun now => own (backs.symm.trans (sponsor.symm.trans now.2))
      rw [namingSponsor_cons, if_neg (bodySponsor.symm ▸ own), Nat.zero_add] at pending
      rw [sponsors n own]
      exact ⟨by have held := sponsorLaw.held; omega, sponsorLaw.balance, pending⟩
  · rw [count]
    by_cases same : j = k
    · rw [same, state, sponsor]
      exact law.holdSponsors k
    · rw [others j same]
      exact law.holdSponsors j
  · rw [count]
    exact law.flightSponsors y (List.mem_cons_of_mem x mem)
  · have foundY := law.finds y (List.mem_cons_of_mem x mem) j at_j
    by_cases own : j = slot
    · subst own
      exact foundY.ordinary found.1 found.2 (by rw [card]; exact found.1) (by rw [card]; exact found.2)
    · rw [cards j own]
      exact foundY

/-! ## What a record taken makes of its purse -/

section
variable {slot : Nat} {p : CardPurse} (law : e.CardLaw number (x :: fl) slot p) (named : x.1.body.cardSlot = some slot)
  (found : x.1.body.Finds p)
include law named

/-- Records in flight that name the slot reserve what they reserve on it. -/
theorem CardLaw.reserves : x.1.body.withdrawn ≤ p.cashOutgoing ∧ x.1.body.toppedUp ≤ p.topUpPending ∧ p.pendingRecords ≠ 0 := by
  have outgoing := law.outgoing
  have topUps := law.topUps
  have pending := law.pending
  rw [reservedIn_cons, if_pos named] at outgoing topUps
  rw [namingCard_cons, if_pos named] at pending
  omega

/-- The only record of a slot reserves all that is reserved there. -/
theorem CardLaw.reserves_alone (alone : p.pendingRecords = 1) : p.cashOutgoing = x.1.body.withdrawn := by
  have outgoing := law.outgoing
  have pending := law.pending
  rw [namingCard_cons, if_pos named] at pending
  rwa [reservedIn_cons, if_pos named, reservedIn_of_unnamed (by omega)] at outgoing

omit named in
/-- A purse without holds has nothing held. -/
theorem CardLaw.held_of_empty (empty : p.holdList = []) : p.cashHeld = 0 ∧ p.allowanceHeld = 0 := by
  have cash := law.cashHeld
  have allowance := law.allowanceHeld
  rw [empty] at cash allowance
  exact ⟨cash, allowance⟩

omit named in
/-- A FREE purse has no holds. -/
theorem CardLaw.empty_of_free (free : p.state = .free) : p.holdList = [] := by
  by_contra held
  exact (law.current held).1 free

include found

/-- A durable record that is no capture takes effect on its purse, and its reservation falls away. -/
theorem CardLaw.takes_durable (other : ∀ slot c sp ap cp, x.1.body ≠ .capture slot c sp ap cp) :
    p.Takes x.1.body ((p.taking x.1.body).unreserve x.1.body) := by
  have reserves := law.reserves named
  have alone := law.reserves_alone named
  have empties := law.held_of_empty
  have free := law.empty_of_free
  have cash := law.cash
  have allowance := law.allowance
  generalize x.1.body = b at *
  cases b with
  | capture slot c sp ap cp => exact absurd rfl (other slot c sp ap cp)
  | reversal _ c sp ap cp receipt back =>
    obtain ⟨kept, unqueued⟩ := found
    cases back with
    | true =>
      exact ⟨rfl, rfl, rfl, rfl, rfl, rfl, rfl, Nat.le_add_right_of_le cash, Nat.le_add_right_of_le allowance,
        fun _ => ⟨kept, rfl⟩, unqueued, fun _ => ⟨kept, unqueued, kept⟩⟩
    | false =>
      exact ⟨rfl, rfl, rfl, rfl, rfl, rfl, rfl, Nat.le_add_right_of_le cash, allowance, fun _ => ⟨kept, rfl⟩, unqueued,
        fun _ => ⟨kept, unqueued, kept⟩⟩
  | topUp _ c amount =>
    obtain ⟨kept, unqueued⟩ := found
    exact ⟨rfl, rfl, rfl, rfl, rfl, rfl, rfl, Nat.le_add_right_of_le cash, allowance, fun _ => ⟨kept, rfl⟩, unqueued,
      fun _ => ⟨kept, unqueued, kept⟩⟩
  | withdraw _ c amount =>
    obtain ⟨kept, unqueued⟩ := found
    have reserved : amount ≤ p.cashOutgoing := reserves.1
    refine ⟨rfl, rfl, rfl, rfl, rfl, rfl, rfl, ?_, allowance, fun _ => ⟨kept, rfl⟩, unqueued, fun _ => ⟨kept, unqueued, kept⟩⟩
    change p.cashHeld + (p.cashOutgoing - amount) ≤ p.cashBalance - amount
    omega
  | change kind _ c =>
    cases kind with
    | openPurse =>
      obtain ⟨wasFree, once, unqueued, card, opened⟩ := found
      have noHold := free wasFree
      have nothing := empties noHold
      have outgoing : p.cashOutgoing = 0 := alone once
      refine ⟨rfl, rfl, rfl, card, rfl, rfl, rfl, ?_, ?_, fun held => absurd noHold held, unqueued, fun more => absurd once more⟩
      · change p.cashHeld + p.cashOutgoing ≤ c.cashBalance
        omega
      · change p.allowanceHeld ≤ c.allowanceRemaining
        omega
    | closePurse =>
      obtain ⟨kept, queued, noHold⟩ := found
      have nothing := empties noHold
      have once := (law.closing queued).1
      have outgoing : p.cashOutgoing = 0 := alone once
      refine ⟨rfl, rfl, rfl, rfl, rfl, rfl, rfl, ?_, ?_, fun held => absurd noHold held, rfl, fun more => absurd once more⟩
      · change p.cashHeld + p.cashOutgoing ≤ 0
        omega
      · change p.allowanceHeld ≤ 0
        omega
    | block | unblock =>
      obtain ⟨kept, unqueued⟩ := found
      exact ⟨rfl, rfl, rfl, rfl, rfl, rfl, rfl, cash, allowance, fun _ => ⟨nofun, rfl⟩, unqueued,
        fun _ => ⟨kept, unqueued, nofun⟩⟩
  | fund | periodClose => nomatch named

/-- An abandoned record falls away, and its reservation with it. -/
theorem CardLaw.takes_abandoned : p.Takes x.1.body ((p.dropPending).unreserve x.1.body) := by
  have reserves := law.reserves named
  have free := law.empty_of_free
  have cash := law.cash
  have allowance := law.allowance
  generalize x.1.body = b at *
  cases b with
  | capture | reversal | topUp =>
    obtain ⟨kept, unqueued⟩ := found
    exact ⟨rfl, rfl, rfl, rfl, rfl, rfl, rfl, cash, allowance, fun _ => ⟨kept, rfl⟩, unqueued,
      fun _ => ⟨kept, unqueued, kept⟩⟩
  | withdraw _ c amount =>
    obtain ⟨kept, unqueued⟩ := found
    refine ⟨rfl, rfl, rfl, rfl, rfl, rfl, rfl, ?_, allowance, fun _ => ⟨kept, rfl⟩, unqueued, fun _ => ⟨kept, unqueued, kept⟩⟩
    change p.cashHeld + (p.cashOutgoing - amount) ≤ p.cashBalance
    omega
  | change kind _ c =>
    cases kind with
    | openPurse =>
      obtain ⟨wasFree, once, unqueued, card, opened⟩ := found
      exact ⟨rfl, rfl, rfl, rfl, rfl, rfl, rfl, cash, allowance, fun held => absurd (free wasFree) held, unqueued,
        fun more => absurd once more⟩
    | closePurse =>
      obtain ⟨kept, queued, noHold⟩ := found
      exact ⟨rfl, rfl, rfl, rfl, rfl, rfl, rfl, cash, allowance, fun held => absurd noHold held, rfl,
        fun more => absurd (law.closing queued).1 more⟩
    | block | unblock =>
      obtain ⟨kept, unqueued⟩ := found
      exact ⟨rfl, rfl, rfl, rfl, rfl, rfl, rfl, cash, allowance, fun _ => ⟨kept, rfl⟩, unqueued,
        fun _ => ⟨kept, unqueued, kept⟩⟩
  | fund | periodClose => nomatch named

end

/-! ## Purses brought into the period, and the period itself -/

/-- The law of a purse brought into the period: it has no holds where that changes anything. -/
theorem CardLaw.inPeriod {slot : Nat} {p : CardPurse} (law : e.CardLaw number fl slot p) (m : Vector RangeEntry 8) :
    e.CardLaw number fl slot (p.inPeriod number m) := by
  unfold CardPurse.inPeriod
  split
  next due =>
    have empty : p.holdList = [] := by
      by_contra held
      exact due.2 (law.current held).2
    have held := law.allowanceHeld
    rw [empty] at held
    exact {
      cashHeld := law.cashHeld
      allowanceHeld := by
        change 0 = e.shares Hold.allowanceShare p.holdList
        rw [empty]
        rfl
      outgoing := law.outgoing
      topUps := law.topUps
      cash := law.cash
      allowance := Nat.zero_le _
      current := fun held => absurd empty held
      pending := law.pending
      region := fun outside => absurd (congrArg CardPurse.state (law.region outside)) due.1
      mapped := law.mapped
      closing := law.closing }
  next => exact law

/-- Purses brought into the period. -/
theorem PurseLaw.inPeriod (law : e.PurseLaw number fl ex) (holds : ∀ j, e'.hold j = e.hold j)
    (cards : ∀ j, e'.card j = e.card j ∨ e'.card j = (e.card j).inPeriod number e.ranges)
    (sponsors : ∀ n, e'.sponsor n = e.sponsor n) (ranges : e'.ranges = e.ranges) (count : e'.sponsorCount = e.sponsorCount) :
    e'.PurseLaw number fl ex := by
  have kept (j : Nat) : (e'.card j).state = (e.card j).state ∧ (e'.card j).pendingRecords = (e.card j).pendingRecords ∧
      (e'.card j).closeQueued = (e.card j).closeQueued ∧ (e'.card j).cardNumber = (e.card j).cardNumber ∧
      (e'.card j).holdList = (e.card j).holdList := by
    obtain same | brought := cards j
    · rw [same]
      exact ⟨rfl, rfl, rfl, rfl, rfl⟩
    · rw [brought, CardPurse.inPeriod]
      split <;> exact ⟨rfl, rfl, rfl, rfl, rfl⟩
  refine ⟨law.settledOnce, fun h => ?_, fun x mem h handle => ?_, mapOk_congr ranges count law.map, fun j => ?_, fun n => ?_,
    fun j => ?_, count ▸ law.flightSponsors, fun x mem j named => ?_⟩
  · rw [resolve_congr (holds _)]
    exact law.settling h
  · rw [holds]
    exact law.covers x mem h handle
  · refine CardLaw.of_shares (e := e) ?_ ranges count fun f _ => shares_congr fun h _ => by rw [holds]
    obtain same | brought := cards j
    · rw [same]
      exact law.card j
    · rw [brought]
      exact (law.card j).inPeriod _
  · rw [sponsors]
    exact (law.sponsor n).of_shares (sponsorShares_congr holds n)
  · rw [holds, count]
    exact law.holdSponsors j
  · obtain ⟨state, pending, queued, card, list⟩ := kept j
    exact (law.finds x mem j named).of_same state pending queued card (list.trans ·)

/-- Where no hold is open the period number may change. -/
theorem PurseLaw.withNumber (law : e.PurseLaw number fl ex) (empty : ∀ slot, (e.card slot).holdList = []) (number' : Nat) :
    e.PurseLaw number' fl ex :=
  { law with card := fun slot => { law.card slot with current := fun held => absurd (empty slot) held } }

/-- Where no slot is out of the free list no purse has a hold. -/
theorem HoldLaw.noHolds {list : List DeadlineEntry} (law : e.HoldLaw list) (none : e.openHolds = 0) (k : Nat) :
    (e.hold k).state = .free := by
  by_cases inside : k < 512
  · have all : List.range 512 ⊆ e.freeList := by
      have sub : e.freeList ⊆ List.range 512 := fun j mem => List.mem_range.2 ((law.free j).1 mem).1
      have perm : e.freeList.Subperm (List.range 512) := List.subperm_of_subset law.freeOnce sub
      refine fun j mem => (perm.perm_of_length_le ?_).mem_iff.2 mem
      rw [List.length_range]
      unfold openHolds at none
      omega
    exact ((law.free k).1 (all (List.mem_range.2 inside))).2
  · exact law.beyond k (by omega)

theorem HoldLaw.noneOpen {list : List DeadlineEntry} (law : e.HoldLaw list) (none : e.openHolds = 0) (h : Nat) :
    ¬ e.isOpen h := fun opened => ((e.isOpen_iff h).1 opened).2 (law.noHolds none _)

theorem HoldLaw.emptyLists {list : List DeadlineEntry} (law : e.HoldLaw list) (none : e.openHolds = 0) (slot : Nat) :
    (e.card slot).holdList = [] :=
  List.eq_nil_iff_forall_not_mem.2 fun h mem => law.noneOpen none h ((((law.purse slot).2.2 h).1 mem).1)

end
end Engine

end Sys2Proof.Machine
end

section
/-! PROOF. The laws of the state gathered for a proof by steps: what holds after a command and
between its steps (`State.Laws`), and the laws of `State.lawful` read off. -/

namespace Sys2Proof.Machine

/-! ## The top of each balance (R7) -/

/-- A record's effect on the cash balance of its card purse. -/
def RecordBody.cashEffect (b : RecordBody) (cash : Nat) : Nat :=
  match b with
  | .capture _ _ _ _ cp => cash - cp
  | .reversal _ _ _ _ cp _ _ => cash + cp
  | .topUp _ _ amount => cash + amount
  | .withdraw _ _ amount => cash - amount
  | .change .openPurse _ after => after.cashBalance
  | .change .closePurse _ _ => 0
  | .change .block .. | .change .unblock .. | .fund .. | .periodClose .. => cash

theorem RecordBody.cardEffect_cash (b : RecordBody) (c : CardAfter) :
    (b.cardEffect c).cashBalance = b.cashEffect c.cashBalance := by
  cases b with
  | reversal _ _ _ _ _ _ back => cases back <;> rfl
  | change kind => cases kind <;> rfl
  | capture | topUp | withdraw | fund | periodClose => rfl

/-- A cash balance after the effects of those of `records` that name its slot. -/
def cashThrough (records : List Record) (slot cash : Nat) : Nat :=
  records.foldl (fun c r => if r.body.cardSlot = some slot then r.body.cashEffect c else c) cash

theorem cardThrough_cash (records : List Record) (slot : Nat) (c : CardAfter) :
    (cardThrough records slot c).cashBalance = cashThrough records slot c.cashBalance := by
  induction records generalizing c with
  | nil => rfl
  | cons r records ih =>
    refine (ih _).trans (congrArg (cashThrough records slot) ?_)
    rw [apply_ite CardAfter.cashBalance, RecordBody.cardEffect_cash]

/-- No balance passes its top as records take effect one by one. -/
def Engine.Caps (e : Engine) (records : List Record) : Prop :=
  ∀ n, (∀ slot, cashThrough (records.take n) slot (e.card slot).cashBalance ≤ 2000000) ∧
    ∀ sponsor, sponsorThrough (records.take n) sponsor (e.sponsor sponsor).balance ≤ 100000000

theorem State.capLaw_iff (s : State) : s.capLaw ↔ s.engine.Caps s.earlierRecords := by
  unfold State.capLaw Engine.Caps
  simp only [cardThrough_cash]
  rfl

/-! ## Requests that wait -/

/-- How often lane `l` waits. -/
def State.waits (s : State) (l : Lane) : Nat := s.waitingLanes.count l

/-- The lanes that wait, and those of `hand` whose request its owner has taken and not yet answered, wait once each and stand
WITH_OWNER. -/
def State.Owners (s : State) (hand : List Lane) : Prop :=
  ∀ l, s.waits l + hand.count l ≤ 1 ∧ (s.waits l + hand.count l ≠ 0 → ∃ f, s.lanes[l].request = .withOwner f)

theorem State.ownerLaw_iff (s : State) : s.ownerLaw ↔ s.Owners [] := by
  unfold State.ownerLaw State.Owners State.waits
  rw [List.nodup_iff_count_le_one, ← forall_and]
  simp only [List.count_nil, Nat.add_zero, Ne, List.count_eq_zero, not_not]

theorem State.waits_eq (s : State) (l : Lane) : s.waits l = s.arbiter.intake.toList.count l + (lanesOf s.inFlight).count l +
    (s.journal.reads.map ReadWait.lane).count l + (s.journal.syncs.map SyncWait.lane).count l +
    (s.journal.retry.getD []).count l + (s.journal.save.getD []).count l +
    ((s.journal.port.map fun p => p.op.lanes).getD []).count l + s.restore.format.toList.count l := by
  unfold State.waits State.waitingLanes lanesOf
  simp only [List.count_append]

/-! ## The journal and the port -/

/-- What stands at the head of the queue while the port works on it (R130, R132). -/
def JournalUnit.AtPort (j : JournalUnit) : Prop :=
  match j.port.map PortUse.op with
  | some (.recordWrite r) => j.queue = j.waiting ∧ ∃ q rest, j.queue = q :: rest ∧ q.record = r ∧ q.writing = true ∧
      ∀ x ∈ rest, x.writing = false
  | some (.imageWrites r k rest) => r.sequence = j.lastDurable ∧ (k :: rest) <:+ imageSlots r.body ∧
      ∃ q, j.queue = q :: j.waiting ∧ q.record = r ∧ q.writing = true ∧ ∀ x ∈ j.waiting, x.writing = false
  | _ => j.queue = j.waiting ∧ ∀ x ∈ j.queue, x.writing = false

/-- When an operation may hold the port. -/
def PortOp.MayRun (j : JournalUnit) (r : RestoreUnit) (op : PortOp) : Prop :=
  match op with
  | .recordWrite _ | .imageWrites .. | .staleImage _ | .saveBlock .. | .saveCheck _ =>
    r.part = .ready ∧ j.store = .ok ∧ j.exhaustionDue = false
  | .retryHeader | .retryCheck | .retryVoid => j.retry ≠ none
  | .formatClear | .formatVoid _ | .formatImage _ | .formatHeader => r.part = .formatting
  | .restoreImage => r.part = .restoring ∧ ∃ n records rest, r.stage = .rewriting n records rest
  | .journalRead .. => r.part = .ready ∨ r.part = .formatting

/-! ## The laws together -/

/-- What holds after a command and between its steps: `reported` where the hold count has been reported, `cap` where the balances keep
below their tops; `ex` are the handles of SETTLING holds whose record the engine has taken, `hand` the lanes whose request its owner
has taken and not yet answered. -/
structure State.Laws (reported cap : Prop) (ex : List Nat) (hand : List Lane) (s : State) : Prop where
  tables : s.tablesCanonical
  next : s.journal.nextSeq = s.journal.lastDurable + 1 + s.journal.waiting.length
  numbers : s.journal.waiting.map (fun q => q.record.sequence) =
    List.range' (s.journal.lastDurable + 1) s.journal.waiting.length
  atPort : s.journal.AtPort
  suits : ∀ q ∈ s.journal.queue, q.owner.suits q.record.body
  eventSuits : ∀ x ∈ s.engine.journalEvents, x.owner.suits x.record.body
  mayRun : ∀ p ∈ s.journal.port, p.op.MayRun s.journal s.restore
  faultEmpty : s.journal.store = .fault → s.journal.queue = []
  retrying : s.journal.retry ≠ none →
    s.restore.part = .ready ∧ s.journal.store = .fault ∧ s.journal.lastDurable < 4294967231
  saving : s.journal.save ≠ none → s.restore.part = .ready ∧ s.journal.store = .ok
  exhausting : s.journal.exhaustionDue = true →
    s.restore.part = .ready ∧ s.journal.store = .ok ∧ 4294967231 ≤ s.journal.lastDurable
  syncing : ∀ w ∈ s.journal.syncs, s.journal.lastDurable < w.mark ∧ w.mark < s.journal.nextSeq
  idle : s.restore.part ≠ .ready →
    s.engine.openHolds = 0 ∧ s.period.state = .opened ∧ s.journal.queue = [] ∧ s.engine.journalEvents = [] ∧
      (s.journal.store = .fault ∨ s.period.clock = none)
  restoring : s.restore.part = .restoring → s.journal.store = .ok ∧
    ((∃ n records rest, s.restore.stage = .rewriting n records rest) ∨ s.engine.cards = [] ∧ s.engine.sponsors = [])
  still : s.period.state = .closeWrite → s.engine.openHolds = 0
  closing : closesIn s.inFlight + (if s.period.closeEnd = none then 0 else 1) = if s.period.state = .closeWrite then 1 else 0
  limits : ∀ l : Lane, s.lanes[l].settings.holdLimit ≤ 64
  holds : s.engine.HoldLaw s.deadlines.list
  purse : s.engine.PurseLaw s.period.number s.inFlight ex
  owners : s.Owners hand
  caps : cap → s.engine.Caps s.earlierRecords
  counted : reported → s.period.holdCount = s.engine.openHolds
  freezing : reported → s.period.state = .freezing → s.engine.openHolds ≠ 0

/-- What holds after a command, but for the lanes of `hand`. -/
abbrev State.Good (cap : Prop) (hand : List Lane) (s : State) : Prop := s.Laws True cap [] hand

theorem State.good_of_lawful {cap : Prop} {s : State} (lawful : s.lawful) (released : s.restore.inReset = false)
    (caps : cap → s.capLaw) : s.Good cap [] := by
  obtain ⟨tables, ⟨counted, still⟩, -, rest⟩ := lawful
  obtain ⟨⟨⟨next, numbers, atPort, suits, -, -⟩, ⟨mayRun, faultEmpty, retrying, saving, exhausting, syncing⟩, ⟨idle, restoring⟩,
    ⟨freezing, closing⟩, owners, eventSuits⟩, holdLaw, settling, balance, place⟩ := rest released
  obtain ⟨holds, limits⟩ := (s.holdLaw_iff).1 holdLaw
  have mayRun' : ∀ p ∈ s.journal.port, p.op.MayRun s.journal s.restore := by
    intro p port
    rw [Option.mem_def.1 port] at mayRun
    obtain ⟨op, write⟩ := p
    cases op <;> exact mayRun
  exact {
    tables := tables, next := next, numbers := numbers, atPort := atPort, suits := suits, eventSuits := eventSuits,
    mayRun := mayRun', faultEmpty := faultEmpty, retrying := retrying, saving := saving, exhausting := exhausting,
    syncing := syncing, idle := idle, restoring := restoring, still := still, closing := closing, limits := limits,
    holds := holds, purse := s.purseLaw_iff.1 ⟨settling, balance, place⟩, owners := s.ownerLaw_iff.1 owners,
    caps := fun capped => s.capLaw_iff.1 (caps capped), counted := fun _ => counted, freezing := fun _ => freezing }

/-! ## The bounds of the queue (R126) -/

/-- Each owner but Period Control waits for a lane. -/
theorem Owner.lane_isSome {o : Owner} (other : o ≠ .periodControl) : ∃ l, o.lane = some l := by
  cases o with
  | periodControl => exact absurd rfl other
  | request l | capture l | reversal l => exact ⟨l, rfl⟩

/-- The owners of records in flight but Period Control are as many as the lanes that wait on records. -/
theorem length_filter_requests (fl : List Flight) :
    (fl.filter fun x => x.2 ≠ .periodControl).length = (lanesOf fl).length := by
  induction fl with
  | nil => rfl
  | cons x fl ih =>
    rw [lanesOf_cons, List.filter_cons, List.length_append, ← ih]
    by_cases own : x.2 = .periodControl
    · simp [own, Owner.lane]
    · obtain ⟨l, lane⟩ := Owner.lane_isSome own
      simp [own, lane, Nat.add_comm]

section
variable {reported cap : Prop} {ex : List Nat} {hand : List Lane} {s : State}

theorem State.Owners.lanes_le (owners : s.Owners hand) : (lanesOf s.inFlight).length ≤ 8 := by
  have once : (lanesOf s.inFlight).Nodup := List.nodup_iff_count_le_one.2 fun l => by
    have bound := (owners l).1
    rw [s.waits_eq] at bound
    omega
  exact once.length_le_card

/-- The queue is what waits, or the record before it while its images are written. -/
theorem State.Laws.queue_cases (law : s.Laws reported cap ex hand) : s.journal.queue = s.journal.waiting ∨
    ∃ q, s.journal.queue = q :: s.journal.waiting ∧ q.owner ≠ .periodControl := by
  have atPort := law.atPort
  unfold JournalUnit.AtPort at atPort
  split at atPort
  next => exact .inl atPort.1
  next r k rest _ =>
    obtain ⟨-, suffix, q, queue, record, -⟩ := atPort
    refine .inr ⟨q, queue, fun control => ?_⟩
    have suits := law.suits q (queue ▸ List.mem_cons_self)
    rw [control] at suits
    obtain ⟨origin, clock, figures, body⟩ := suits
    rw [← record, body] at suffix
    exact absurd (List.suffix_nil.1 suffix) (List.cons_ne_nil k rest)
  next => exact .inl atPort.1

theorem State.Laws.queue_bounds (law : s.Laws reported cap ex hand) :
    (s.journal.queue.filter fun q => q.owner ≠ .periodControl).length ≤ 63 ∧
      (s.journal.queue.filter fun q => q.owner = .periodControl).length ≤ 1 := by
  have requests : (s.journal.waiting.filter fun q => q.owner ≠ .periodControl).length ≤ 8 := by
    have bound := law.owners.lanes_le
    rw [← length_filter_requests] at bound
    unfold State.inFlight at bound
    rw [List.filter_append, List.length_append, List.filter_map, List.length_map] at bound
    have tail : (List.filter (fun x : Flight => x.2 ≠ .periodControl)
        (s.journal.waiting.map fun q => (q.record, q.owner))).length =
        (s.journal.waiting.filter fun q => q.owner ≠ .periodControl).length := by
      rw [List.filter_map, List.length_map]
      rfl
    omega
  have closes : (s.journal.waiting.filter fun q => q.owner = .periodControl).length ≤ 1 := by
    have bound := law.closing
    have tail : (s.journal.waiting.filter fun q => q.owner = .periodControl).length ≤ closesIn s.inFlight := by
      unfold closesIn State.inFlight
      rw [List.filter_append, List.length_append, List.filter_map, List.filter_map, List.length_map, List.length_map]
      exact Nat.le_add_left _ _
    split at bound <;> split at bound <;> omega
  obtain same | ⟨q, queue, request⟩ := law.queue_cases
  · rw [same]
    exact ⟨requests.trans (by decide), closes⟩
  · rw [queue, List.filter_cons_of_pos (by simpa using request), List.filter_cons_of_neg (by simpa using request),
      List.length_cons]
    exact ⟨by omega, closes⟩

/-- The laws read off. -/
theorem State.Laws.lawful (law : s.Good cap []) (slots : s.slotLaw) : s.lawful ∧ (cap → s.capLaw) := by
  have portLaw : s.portLaw := by
    refine ⟨?_, law.faultEmpty, law.retrying, law.saving, law.exhausting, law.syncing⟩
    cases port : s.journal.port with
    | none => trivial
    | some p =>
      have mayRun := law.mayRun p port
      obtain ⟨op, write⟩ := p
      cases op <;> exact mayRun
  refine ⟨⟨law.tables, ⟨law.counted trivial, law.still⟩, slots, fun _ => ⟨⟨?_, portLaw, ⟨law.idle, law.restoring⟩,
    ⟨law.freezing trivial, law.closing⟩, s.ownerLaw_iff.2 law.owners, law.eventSuits⟩, s.holdLaw_iff.2 ⟨law.holds, law.limits⟩,
    s.purseLaw_iff.2 law.purse⟩⟩, fun capped => s.capLaw_iff.2 (law.caps capped)⟩
  exact ⟨law.next, law.numbers, law.atPort, law.suits, law.queue_bounds.1, law.queue_bounds.2⟩

end

end Sys2Proof.Machine
end

section
/-! PROOF. The laws under the updates that touch little: notices, flags, lanes, replies, the refresh, and the report of the holds. -/

namespace Sys2Proof.Machine

/-! ## Who waits -/

section
variable {s t : State} {hand hand' : List Lane}

/-- Nobody waits anew, and who stands WITH_OWNER stays so. -/
theorem State.Owners.of_waits (owners : s.Owners hand)
    (waits : ∀ l, t.waits l + hand'.count l ≤ s.waits l + hand.count l)
    (requests : ∀ (l : Lane) f, s.lanes[l].request = .withOwner f → ∃ g, t.lanes[l].request = .withOwner g) : t.Owners hand' := by
  intro l
  obtain ⟨once, stands⟩ := owners l
  refine ⟨(waits l).trans once, fun waiting => ?_⟩
  obtain ⟨f, request⟩ := stands (by have := waits l; omega)
  exact requests l f request

/-- A lane of the hand is answered. -/
theorem State.Owners.fillReply {l : Lane} (owners : s.Owners (l :: hand)) (r : Result) (body : List Byte) :
    (fillReply l r body s).Owners hand := by
  intro k
  have waits : (Machine.fillReply l r body s).waits k = s.waits k := rfl
  obtain ⟨once, stands⟩ := owners k
  rw [List.count_cons] at once stands
  rw [waits]
  refine ⟨by omega, fun waiting => ?_⟩
  have other : k ≠ l := by
    rintro rfl
    simp only [beq_self_eq_true, if_true] at once
    omega
  rw [fillReply_other l k r body s other]
  exact stands (by omega)

end

/-! ## Quiet updates -/

namespace State.Laws
section
variable {reported cap : Prop} {ex : List Nat} {hand : List Lane} {s : State}

theorem mapNotices (law : s.Laws reported cap ex hand) (f : NoticeUnit → NoticeUnit) :
    (s.mapNotices f).Laws reported cap ex hand := { law with }

theorem mapNoticeLane (law : s.Laws reported cap ex hand) (l : Lane) (f : NoticeLane → NoticeLane) :
    (s.mapNoticeLane l f).Laws reported cap ex hand := { law with }

theorem mapConfig (law : s.Laws reported cap ex hand) (f : ConfigUnit → ConfigUnit) :
    (s.mapConfig f).Laws reported cap ex hand := { law with }

theorem withMemory (law : s.Laws reported cap ex hand) (m : Memory) : (s.withMemory m).Laws reported cap ex hand := { law with }

/-- A lane is changed, but not the request its owner has. -/
theorem mapLane (law : s.Laws reported cap ex hand) (l : Lane) {f : LaneUnit → LaneUnit}
    (request : ∀ g, s.lanes[l].request = .withOwner g → ∃ g', (f s.lanes[l]).request = .withOwner g')
    (limit : s.lanes[l].settings.holdLimit ≤ 64 → (f s.lanes[l]).settings.holdLimit ≤ 64) :
    (s.mapLane l f).Laws reported cap ex hand := by
  refine { law with limits := fun k => ?_, owners := law.owners.of_waits (fun _ => Nat.le_refl _) fun k g owned => ?_ }
  · by_cases same : k = l
    · subst same
      rw [State.mapLane_same]
      exact limit (law.limits k)
    · rw [State.mapLane_other l k f s same]
      exact law.limits k
  · by_cases same : k = l
    · subst same
      rw [State.mapLane_same]
      exact request g owned
    · rw [State.mapLane_other l k f s same]
      exact ⟨g, owned⟩

/-- A lane of the hand is answered. -/
theorem fillReply {l : Lane} (law : s.Laws reported cap ex (l :: hand)) (r : Result) (body : List Byte) :
    (fillReply l r body s).Laws reported cap ex hand := by
  refine { law with limits := fun k => ?_, owners := law.owners.fillReply r body }
  by_cases same : k = l
  · subst same
    unfold Machine.fillReply
    rw [State.mapLane_same]
    split <;> exact law.limits k
  · rw [fillReply_other l k r body s same]
    exact law.limits k

theorem refuse {l : Lane} (law : s.Laws reported cap ex (l :: hand)) (r : Result) :
    (refuse l r s).Laws reported cap ex hand := law.fillReply r []

theorem fillAll {ls : List Lane} (law : s.Laws reported cap ex (ls ++ hand)) (r : Result) :
    (fillAll ls r s).Laws reported cap ex hand := by
  induction ls generalizing s with
  | nil => exact law
  | cons l ls ih => exact ih (refuse law r)

/-- The order of the lanes in hand is nothing. -/
theorem hand_perm {hand' : List Lane} (law : s.Laws reported cap ex hand) (perm : hand'.Perm hand) :
    s.Laws reported cap ex hand' :=
  { law with owners := law.owners.of_waits (fun l => by rw [perm.count_eq]) fun _ f owned => ⟨f, owned⟩ }

theorem reportPlacement (law : s.Laws reported cap ex hand) (l : Lane) (n : Notice) :
    (reportPlacement l n s).Laws reported cap ex hand := by
  unfold Machine.reportPlacement
  split
  · exact law.mapLane l (fun g owned => ⟨g, owned⟩) id
  · exact law

theorem placeNotice (law : s.Laws reported cap ex hand) (l : Lane) (n : Notice) :
    (placeNotice l n s).Laws reported cap ex hand := by
  unfold Machine.placeNotice
  split
  · exact law.reportPlacement l n
  · exact (law.mapNoticeLane l _).reportPlacement l n

theorem raiseFlag (law : s.Laws reported cap ex hand) (c : EventClass) : (raiseFlag c s).Laws reported cap ex hand := by
  unfold Machine.raiseFlag
  split
  · exact law
  · dsimp only
    split
    · exact (law.mapNotices _).placeNotice _ _
    · exact law.mapNotices _

theorem noticeEnding (law : s.Laws reported cap ex hand) (k : Nat) (reason : EndReason) :
    (noticeEnding k reason s).Laws reported cap ex hand := by
  unfold Machine.noticeEnding
  dsimp only
  split
  · exact law.placeNotice _ _
  · exact law

theorem holdGone {l : Lane} (law : s.Laws reported cap ex (l :: hand)) (handle : Nat) :
    (holdGone l handle s).Laws reported cap ex hand := law.fillReply _ _

/-- The hold count counts nothing less for having been reported. -/
theorem unreported (law : s.Laws reported cap ex hand) : s.Laws False cap ex hand := { law with counted := nofun, freezing := nofun }

theorem uncapped (law : s.Laws reported cap ex hand) : s.Laws reported False ex hand := { law with caps := nofun }

/-- Where a hold is open, a record waits, or a close runs, the part is READY. -/
theorem ready (law : s.Laws reported cap ex hand) (busy : s.engine.openHolds ≠ 0 ∨ s.period.state ≠ .opened ∨
    s.journal.queue ≠ [] ∨ s.engine.journalEvents ≠ []) : s.restore.part = .ready := by
  by_contra unready
  obtain ⟨noHold, opened, noQueue, noEvent, -⟩ := law.idle unready
  exact busy.elim (· noHold) fun busy => busy.elim (· opened) fun busy => busy.elim (· noQueue) (· noEvent)

theorem ready_of_open (law : s.Laws reported cap ex hand) {k : Nat} (opened : (s.engine.hold k).state ≠ .free) :
    s.restore.part = .ready := law.ready (.inl fun none => opened (law.holds.noHolds none k))

end
end State.Laws

/-! ## The refresh -/

section
variable {reported cap : Prop} {ex : List Nat} {hand : List Lane} {s : State}

theorem refresh_card_cases (canonical : s.tablesCanonical) (slot j : Nat) : (refresh slot s).engine.card j = s.engine.card j ∨
    (refresh slot s).engine.card j = (s.engine.card j).inPeriod s.period.number s.engine.ranges := by
  by_cases same : j = slot
  · exact .inr (same ▸ refresh_card_same canonical)
  · exact .inl (refresh_card_other same s)

theorem CardPurse.inPeriod_kept (period : Nat) (m : Vector RangeEntry 8) (p : CardPurse) :
    (p.inPeriod period m).cashBalance = p.cashBalance ∧ (p.inPeriod period m).holdList = p.holdList ∧
      (p.inPeriod period m).state = p.state ∧ (p.inPeriod period m).pendingRecords = p.pendingRecords ∧
      (p.inPeriod period m).closeQueued = p.closeQueued ∧ (p.inPeriod period m).cardNumber = p.cardNumber := by
  unfold CardPurse.inPeriod
  split <;> exact ⟨rfl, rfl, rfl, rfl, rfl, rfl⟩

/-- The caps are of the balances alone. -/
theorem Engine.Caps.of_balances {e e' : Engine} {records : List Record} (caps : e.Caps records)
    (cards : ∀ slot, (e'.card slot).cashBalance = (e.card slot).cashBalance)
    (sponsors : ∀ n, (e'.sponsor n).balance = (e.sponsor n).balance) : e'.Caps records := by
  unfold Engine.Caps at caps ⊢
  simpa only [cards, sponsors] using caps

theorem State.Laws.refresh (law : s.Laws reported cap ex hand) (slot : Nat) :
    (refresh slot s).Laws reported cap ex hand := by
  have cards := refresh_card_cases law.tables slot
  have kept (j : Nat) : ((Machine.refresh slot s).engine.card j).cashBalance = (s.engine.card j).cashBalance ∧
      ((Machine.refresh slot s).engine.card j).holdList = (s.engine.card j).holdList := by
    obtain same | brought := cards j
    · rw [same]
      exact ⟨rfl, rfl⟩
    · rw [brought]
      exact ⟨(CardPurse.inPeriod_kept _ _ _).1, (CardPurse.inPeriod_kept _ _ _).2.1⟩
  have holds : (Machine.refresh slot s).engine.HoldLaw s.deadlines.list := law.holds.of_same (fun j => refresh_hold slot j s)
    (refresh_freeList slot s) (refresh_laneHolds slot s) fun j => (kept j).2
  have purse : (Machine.refresh slot s).engine.PurseLaw s.period.number s.inFlight ex :=
    law.purse.inPeriod (fun j => refresh_hold slot j s) cards (fun n => refresh_sponsor slot n s) (refresh_ranges slot s)
      (by rw [refresh_engine])
  have caps (capped : cap) : (Machine.refresh slot s).engine.Caps s.earlierRecords :=
    (law.caps capped).of_balances (fun j => (kept j).1) fun n => congrArg _ (refresh_sponsor slot n s)
  have tables := refresh_tablesCanonical slot law.tables
  have restoring (part : s.restore.part = .restoring) : s.journal.store = .ok ∧
      ((∃ n records rest, s.restore.stage = .rewriting n records rest) ∨
        (Machine.refresh slot s).engine.cards = [] ∧ s.engine.sponsors = []) := by
    obtain ⟨ok, stage | ⟨cards, sponsors⟩⟩ := law.restoring part
    · exact ⟨ok, .inl stage⟩
    · refine ⟨ok, .inr ⟨?_, sponsors⟩⟩
      have free : s.engine.card slot = CardPurse.free := by rw [Engine.card, cards]; rfl
      rw [refresh_of_current (by rw [free]; exact fun due => due.1 rfl), cards]
  rw [refresh_eq] at holds purse caps tables restoring ⊢
  exact { law with tables := tables, holds := holds, purse := purse, caps := caps, restoring := restoring }

/-- A purse with a hold is in the period: its refresh changes nothing. -/
theorem State.Laws.refresh_of_held (law : s.Laws reported cap ex hand) {k : Nat} (opened : (s.engine.hold k).state ≠ .free) :
    Machine.refresh (s.engine.hold k).cardSlot s = s := by
  have inside := law.holds.slot_lt opened
  have mem : s.engine.handle k ∈ (s.engine.card (s.engine.hold k).cardSlot).holdList := by
    refine ((law.holds.purse _).2.2 _).2 ⟨Engine.isOpen_handle inside opened, ?_⟩
    rw [Engine.handle, handleSlot, handleOf_mod _ inside]
  exact refresh_of_current fun due => due.2 ((law.purse.card _).current (List.ne_nil_of_mem mem)).2

end

end Sys2Proof.Machine
end

section
/-! PROOF. The laws as a record joins the journal queue, and as a close completes its drain. -/

namespace Sys2Proof.Machine

/-! ## Balances through one record more -/

section
variable {e : Engine} {records : List Record} {r : Record}

theorem cashThrough_append (records : List Record) (r : Record) (slot cash : Nat) :
    cashThrough (records ++ [r]) slot cash = if r.body.cardSlot = some slot then r.body.cashEffect (cashThrough records slot cash)
      else cashThrough records slot cash := by
  unfold cashThrough
  rw [List.foldl_append]
  rfl

/-- One record more keeps the balances below their tops when it leaves those it names there. -/
theorem Engine.Caps.append (caps : e.Caps records)
    (card : ∀ slot, r.body.cardSlot = some slot → r.body.cashEffect (cashThrough records slot (e.card slot).cashBalance) ≤ 2000000)
    (sponsor : ∀ n, r.body.sponsor = some n →
      r.body.sponsorEffect (sponsorThrough records n (e.sponsor n).balance) ≤ 100000000) : e.Caps (records ++ [r]) := by
  intro n
  by_cases short : n ≤ records.length
  · rw [List.take_append_of_le_length short]
    exact caps n
  · obtain ⟨cash, balance⟩ := caps records.length
    rw [List.take_length] at cash balance
    rw [List.take_of_length_le (by rw [List.length_append, List.length_singleton]; omega)]
    refine ⟨fun slot => ?_, fun n => ?_⟩
    · rw [cashThrough_append]
      split
      next named => exact card slot named
      next => exact cash slot
    · rw [sponsorThrough_append]
      split
      next named => exact sponsor n named
      next => exact balance n

/-- Fewer records, from the front of the list, keep the balances below their tops. -/
theorem Engine.Caps.shorter {records' : List Record} (caps : e.Caps records) (front : records' <+: records) : e.Caps records' := by
  obtain ⟨rest, rfl⟩ := front
  intro n
  have taken : (records' ++ rest).take (min n records'.length) = records'.take n := by
    rw [List.take_append_of_le_length (Nat.min_le_right _ _)]
    by_cases short : n ≤ records'.length
    · rw [Nat.min_eq_left short]
    · rw [Nat.min_eq_right (by omega), List.take_length, List.take_of_length_le (by omega)]
  exact taken ▸ caps (min n records'.length)

end

/-! ## What stands at the port -/

section
variable {j : JournalUnit} {r : Record}

theorem JournalUnit.atPort_of_record (port : j.port.map PortUse.op = some (.recordWrite r)) : j.AtPort ↔
    j.queue = j.waiting ∧ ∃ q rest, j.queue = q :: rest ∧ q.record = r ∧ q.writing = true ∧ ∀ x ∈ rest, x.writing = false := by
  unfold JournalUnit.AtPort
  rw [port]

theorem JournalUnit.atPort_of_images {k : Nat} {rest : List Nat} (port : j.port.map PortUse.op = some (.imageWrites r k rest)) :
    j.AtPort ↔ r.sequence = j.lastDurable ∧ (k :: rest) <:+ imageSlots r.body ∧
      ∃ q, j.queue = q :: j.waiting ∧ q.record = r ∧ q.writing = true ∧ ∀ x ∈ j.waiting, x.writing = false := by
  unfold JournalUnit.AtPort
  rw [port]

theorem JournalUnit.atPort_of_neither (noRecord : ∀ r, j.port.map PortUse.op ≠ some (.recordWrite r))
    (noImage : ∀ r k rest, j.port.map PortUse.op ≠ some (.imageWrites r k rest)) :
    j.AtPort ↔ j.queue = j.waiting ∧ ∀ x ∈ j.queue, x.writing = false := by
  unfold JournalUnit.AtPort
  split
  next r port => exact absurd port (noRecord r)
  next r k rest port => exact absurd port (noImage r k rest)
  next => exact Iff.rfl

end

/-! ## The queue with one record more -/

/-- The entry a queued record gets. -/
def JournalUnit.entry (j : JournalUnit) (lane : Lane) (period : Nat) (body : RecordBody) (owner : Owner) : QueueEntry :=
  { record := { sequence := j.nextSeq, lane := lane, period := period, body := body }, owner := owner, writing := false }

/-- The journal with one record more in its queue (R125, R128). -/
def JournalUnit.push (j : JournalUnit) (lane : Lane) (period : Nat) (body : RecordBody) (owner : Owner) : JournalUnit :=
  { j with queue := j.queue ++ [j.entry lane period body owner], nextSeq := j.nextSeq + 1 }

theorem queueRecord_eq (lane : Lane) (period : Nat) (body : RecordBody) (owner : Owner) (s : State) :
    queueRecord lane period body owner s = { s with journal := s.journal.push lane period body owner } := rfl

section
variable {j : JournalUnit} {lane : Lane} {period : Nat} {body : RecordBody} {owner : Owner}
  (next : j.nextSeq = j.lastDurable + 1 + j.waiting.length)
include next

theorem JournalUnit.push_waiting : (j.push lane period body owner).waiting = j.waiting ++ [j.entry lane period body owner] := by
  have late : j.lastDurable < j.nextSeq := by omega
  change (j.queue ++ [j.entry lane period body owner]).filter (fun q => decide (j.lastDurable < q.record.sequence)) = _
  rw [List.filter_append]
  exact congrArg _ (List.filter_cons_of_pos (decide_eq_true late))

theorem JournalUnit.push_next : (j.push lane period body owner).nextSeq =
    (j.push lane period body owner).lastDurable + 1 + (j.push lane period body owner).waiting.length := by
  rw [JournalUnit.push_waiting next, List.length_append, List.length_singleton]
  exact congrArg Nat.succ next

theorem JournalUnit.push_numbers (numbers : j.waiting.map (fun q => q.record.sequence) =
    List.range' (j.lastDurable + 1) j.waiting.length) :
    (j.push lane period body owner).waiting.map (fun q => q.record.sequence) =
      List.range' ((j.push lane period body owner).lastDurable + 1) (j.push lane period body owner).waiting.length := by
  rw [JournalUnit.push_waiting next, List.map_append, numbers, List.length_append, List.length_singleton,
    List.range'_concat, List.map_singleton]
  have last : (j.entry lane period body owner).record.sequence = j.lastDurable + 1 + 1 * j.waiting.length := by
    rw [Nat.one_mul]
    exact next
  rw [last]
  rfl

theorem JournalUnit.push_atPort (atPort : j.AtPort) : (j.push lane period body owner).AtPort := by
  have unwritten : (j.entry lane period body owner).writing = false := rfl
  have waiting := JournalUnit.push_waiting (lane := lane) (period := period) (body := body) (owner := owner) next
  have joined : ∀ {xs : List QueueEntry}, (∀ x ∈ xs, x.writing = false) →
      ∀ x ∈ xs ++ [j.entry lane period body owner], x.writing = false := by
    intro xs others x mem
    obtain mem | mem := List.mem_append.1 mem
    · exact others x mem
    · exact List.mem_singleton.1 mem ▸ unwritten
  have same : (j.push lane period body owner).port.map PortUse.op = j.port.map PortUse.op := rfl
  by_cases records : ∃ r, j.port.map PortUse.op = some (.recordWrite r)
  · obtain ⟨r, port⟩ := records
    obtain ⟨queue, q, rest, front, record, writing, others⟩ := (JournalUnit.atPort_of_record port).1 atPort
    refine (JournalUnit.atPort_of_record (same.trans port)).2 ⟨?_, q, rest ++ [j.entry lane period body owner],
      congrArg (· ++ _) front, record, writing, joined others⟩
    rw [waiting]
    exact congrArg (· ++ _) queue
  · by_cases images : ∃ r k rest, j.port.map PortUse.op = some (.imageWrites r k rest)
    · obtain ⟨r, k, rest, port⟩ := images
      obtain ⟨durable, suffix, q, front, record, writing, others⟩ := (JournalUnit.atPort_of_images port).1 atPort
      refine (JournalUnit.atPort_of_images (same.trans port)).2 ⟨durable, suffix, q, ?_, record, writing, ?_⟩
      · rw [waiting]
        exact congrArg (· ++ _) front
      · rw [waiting]
        exact joined others
    · have noRecord := not_exists.1 records
      have noImage := fun r k rest port => images ⟨r, k, rest, port⟩
      obtain ⟨queue, others⟩ := (JournalUnit.atPort_of_neither noRecord noImage).1 atPort
      refine (JournalUnit.atPort_of_neither (j := j.push lane period body owner) noRecord noImage).2 ⟨?_, joined others⟩
      rw [waiting]
      exact congrArg (· ++ _) queue

end

/-! ## A record queued -/

section
variable {reported cap : Prop} {ex : List Nat} {hand : List Lane} {s : State} {lane : Lane} {period : Nat} {body : RecordBody}
  {owner : Owner}

theorem State.Laws.inFlight_push (law : s.Laws reported cap ex hand) {t : State}
    (events : t.engine.journalEvents = s.engine.journalEvents)
    (journal : t.journal = s.journal.push lane period body owner) :
    t.inFlight = s.inFlight ++ [((s.journal.entry lane period body owner).record, owner)] := by
  unfold State.inFlight
  rw [events, journal, JournalUnit.push_waiting law.next, List.map_append, List.append_assoc]
  rfl

theorem State.Laws.earlier_push (law : s.Laws reported cap ex hand) {t : State}
    (events : t.engine.journalEvents = s.engine.journalEvents)
    (journal : t.journal = s.journal.push lane period body owner) :
    t.earlierRecords = s.earlierRecords ++ [(s.journal.entry lane period body owner).record] := by
  change t.untakenRecords ++ t.journal.waiting.map QueueEntry.record = _
  unfold State.untakenRecords
  rw [events, journal, JournalUnit.push_waiting law.next, List.map_append, ← List.append_assoc]
  rfl

/-- The owner of a record queued waits on it. -/
theorem State.Laws.owners_push (law : s.Laws reported cap ex (owner.lane.toList ++ hand)) {t : State}
    (lanes : t.lanes = s.lanes) (arbiter : t.arbiter = s.arbiter) (restore : t.restore = s.restore)
    (events : t.engine.journalEvents = s.engine.journalEvents)
    (journal : t.journal = s.journal.push lane period body owner) : t.Owners hand := by
  refine law.owners.of_waits (fun l => ?_) fun l f owned => ⟨f, by rwa [lanes]⟩
  rw [t.waits_eq, s.waits_eq, law.inFlight_push events journal, arbiter, restore, journal, List.count_append]
  have joined : lanesOf (s.inFlight ++ [((s.journal.entry lane period body owner).record, owner)]) =
      lanesOf s.inFlight ++ owner.lane.toList := by
    unfold lanesOf
    rw [List.filterMap_append]
    cases owner <;> rfl
  rw [joined, List.count_append]
  unfold JournalUnit.push
  dsimp only
  omega

/-- A record of an owner other than Period Control is queued, and counted on the purses it names. -/
theorem State.Laws.queued {e : Engine} (law : s.Laws reported cap (owner.handle.toList ++ ex) (owner.lane.toList ++ hand))
    (ready : s.restore.part = .ready) (ok : s.journal.store = .ok) (other : owner ≠ .periodControl) (suits : owner.suits body)
    (tables : e.Canonical) (holds : e.holds = s.engine.holds) (free : e.freeList = s.engine.freeList)
    (lanes : e.laneHolds = s.engine.laneHolds) (lists : ∀ slot, (e.card slot).holdList = (s.engine.card slot).holdList)
    (events : e.journalEvents = s.engine.journalEvents) (ranges : e.ranges = s.engine.ranges)
    (count : e.sponsorCount = s.engine.sponsorCount)
    (covered : s.engine.Covers ((s.journal.entry lane period body owner).record, owner))
    (card : ∀ slot, body.cardSlot = some slot → (s.engine.card slot).Queues s.engine.ranges slot body (e.card slot))
    (cards : ∀ slot, body.cardSlot ≠ some slot → e.card slot = s.engine.card slot)
    (named : ∀ n, body.sponsor = some n → n < s.engine.sponsorCount ∧ e.sponsor n = (s.engine.sponsor n).addPending)
    (sponsors : ∀ n, body.sponsor ≠ some n → e.sponsor n = s.engine.sponsor n)
    (cash : cap → ∀ slot, body.cardSlot = some slot → body.cashEffect (s.cardAhead slot).cashBalance ≤ 2000000)
    (balance : cap → ∀ n, body.sponsor = some n → body.sponsorEffect (s.sponsorAhead n) ≤ 100000000) :
    ({ s with engine := e, journal := s.journal.push lane period body owner } : State).Laws reported cap ex hand := by
  have holdsSame (j : Nat) : e.hold j = s.engine.hold j := by rw [Engine.hold, holds]; rfl
  have flight := law.inFlight_push (t := { s with engine := e, journal := s.journal.push lane period body owner }) events rfl
  have earlier := law.earlier_push (t := { s with engine := e, journal := s.journal.push lane period body owner }) events rfl
  have purse := law.purse.queue (x := ((s.journal.entry lane period body owner).record, owner)) holdsSame covered card cards named
    sponsors ranges count
  have openHolds : e.openHolds = s.engine.openHolds := by rw [Engine.openHolds, free]; rfl
  exact {
    tables := tables
    next := JournalUnit.push_next law.next
    numbers := JournalUnit.push_numbers law.next law.numbers
    atPort := JournalUnit.push_atPort law.next law.atPort
    suits := fun q mem => by
      obtain mem | mem := List.mem_append.1 mem
      · exact law.suits q mem
      · rw [List.mem_singleton.1 mem]
        exact suits
    eventSuits := fun x mem => law.eventSuits x (events ▸ mem)
    mayRun := law.mayRun
    faultEmpty := fun fault => absurd (ok.symm.trans fault) nofun
    retrying := law.retrying
    saving := law.saving
    exhausting := law.exhausting
    syncing := fun w mem => ⟨(law.syncing w mem).1, Nat.lt_succ_of_lt (law.syncing w mem).2⟩
    idle := fun unready => absurd ready unready
    restoring := fun restoring => absurd (ready.symm.trans restoring) nofun
    still := fun closing => openHolds.trans (law.still closing)
    closing := by
      rw [flight, closesIn_perm List.perm_append_comm, List.singleton_append, closesIn_cons, if_neg other, Nat.zero_add]
      exact law.closing
    limits := law.limits
    holds := law.holds.of_same holdsSame free lanes lists
    purse := by
      rw [flight]
      exact purse.perm List.perm_append_comm
    owners := law.owners_push rfl rfl rfl events rfl
    caps := fun capped => by
      rw [earlier]
      refine Engine.Caps.append ((law.caps capped).of_balances (fun slot => ?_) fun n => ?_) (fun slot own => ?_) fun n own => ?_
      · by_cases own : body.cardSlot = some slot
        · have purse := (card slot own).purse
          generalize e.card slot = p' at purse ⊢
          rw [purse]
        · rw [cards slot own]
      · by_cases own : body.sponsor = some n
        · rw [(named n own).2]
          rfl
        · rw [sponsors n own]
      · have bound := cash capped slot own
        rw [State.cardAhead, cardThrough_cash] at bound
        have purse := (card slot own).purse
        generalize e.card slot = p' at purse ⊢
        rw [purse]
        exact bound
      · rw [(named n own).2]
        exact balance capped n own
    counted := fun told => (law.counted told).trans openHolds.symm
    freezing := fun told state => openHolds ▸ law.freezing told state }

/-! ## The report of the holds, and the close that it completes -/

theorem State.Laws.closeFails (law : s.Laws reported cap ex hand) (running : s.period.state ≠ .closeWrite) :
    (closeFails s).Laws reported cap ex hand := by
  refine State.Laws.raiseFlag (s := s.mapPeriod fun p => { p with state := .opened, origin := none })
    { law with idle := fun unready => ?_, still := nofun, closing := ?_, freezing := fun _ => nofun } .closeFailed
  · obtain ⟨noHold, -, rest⟩ := law.idle unready
    exact ⟨noHold, rfl, rest⟩
  · exact law.closing.trans (if_neg running)

/-- A PERIOD_CLOSE record is queued, no hold being open. -/
theorem State.Laws.closeQueued {origin : Origin} {clock : Option Nat} {figures : CloseFigures} (law : s.Laws False cap [] hand)
    (ready : s.restore.part = .ready) (ok : s.journal.store = .ok) (running : s.period.state ≠ .closeWrite)
    (none : s.engine.openHolds = 0) (counted : s.period.holdCount = 0) :
    ({ s with
        period := { s.period with state := .closeWrite, drainTimer := .stopped },
        journal := s.journal.push lane period (.periodClose origin clock figures) .periodControl } : State).Good cap hand := by
  have flight := law.inFlight_push (lane := lane) (period := period) (body := .periodClose origin clock figures)
    (owner := .periodControl) (t := { s with
      period := { s.period with state := .closeWrite, drainTimer := .stopped },
      journal := s.journal.push lane period (.periodClose origin clock figures) .periodControl }) rfl rfl
  have earlier := law.earlier_push (lane := lane) (period := period) (body := .periodClose origin clock figures)
    (owner := .periodControl) (t := { s with
      period := { s.period with state := .closeWrite, drainTimer := .stopped },
      journal := s.journal.push lane period (.periodClose origin clock figures) .periodControl }) rfl rfl
  exact {
    tables := law.tables
    next := JournalUnit.push_next law.next
    numbers := JournalUnit.push_numbers law.next law.numbers
    atPort := JournalUnit.push_atPort law.next law.atPort
    suits := fun q mem => by
      obtain mem | mem := List.mem_append.1 mem
      · exact law.suits q mem
      · rw [List.mem_singleton.1 mem]
        exact ⟨origin, clock, figures, rfl⟩
    eventSuits := law.eventSuits
    mayRun := law.mayRun
    faultEmpty := fun fault => absurd (ok.symm.trans fault) nofun
    retrying := law.retrying
    saving := law.saving
    exhausting := law.exhausting
    syncing := fun w mem => ⟨(law.syncing w mem).1, Nat.lt_succ_of_lt (law.syncing w mem).2⟩
    idle := fun unready => absurd ready unready
    restoring := fun restoring => absurd (ready.symm.trans restoring) nofun
    still := fun _ => none
    closing := by
      rw [flight, closesIn_perm List.perm_append_comm, List.singleton_append, closesIn_cons, if_pos rfl, Nat.add_assoc]
      exact (congrArg (1 + ·) (law.closing.trans (if_neg running))).trans (if_pos rfl).symm
    limits := law.limits
    holds := law.holds
    purse := by
      rw [flight]
      exact (law.purse.queue (e' := s.engine)
        (x := ((s.journal.entry lane period (.periodClose origin clock figures) .periodControl).record, .periodControl))
        (fun _ => rfl) nofun nofun (fun _ _ => rfl) nofun (fun _ _ => rfl) rfl rfl).perm List.perm_append_comm
    owners := law.owners_push (owner := .periodControl) rfl rfl rfl rfl rfl
    caps := fun capped => earlier ▸ (law.caps capped).append nofun nofun
    counted := fun _ => counted.trans none.symm
    freezing := fun _ => nofun }

/-- The drain completes with no hold open: the close's record is queued, or the close fails. -/
theorem State.Laws.completeDrain (law : s.Laws False cap [] hand) (freezing : s.period.state = .freezing)
    (none : s.engine.openHolds = 0) (counted : s.period.holdCount = 0) : (completeDrain s).Good cap hand := by
  have running : s.period.state ≠ .closeWrite := by rw [freezing]; nofun
  cases store : s.journal.store with
  | ok =>
    rw [completeDrain_ok store, queueRecord_eq]
    exact law.closeQueued (law.ready (.inr (.inl (by rw [freezing]; nofun)))) store running none counted
  | fault =>
    rw [completeDrain_fault store]
    refine State.Laws.raiseFlag
      (s := { s with period := { s.period with state := .opened, origin := Option.none, drainTimer := .stopped } })
      { law with
        idle := fun unready => ?_, still := nofun, closing := ?_, freezing := fun _ => nofun,
        counted := fun _ => counted.trans none.symm } .closeFailed
    · obtain ⟨noHold, -, rest⟩ := law.idle unready
      exact ⟨noHold, rfl, rest⟩
    · exact law.closing.trans (if_neg running)

/-- The report of the holds brings the hold count up to date. -/
theorem State.Laws.reportHolds (law : s.Laws False cap [] hand) : (reportHolds s).Good cap hand := by
  by_cases drained : s.period.state = .freezing ∧ s.engine.openHolds = 0
  · obtain ⟨freezing, none⟩ := drained
    rw [reportHolds_drained freezing none]
    exact State.Laws.completeDrain { law with counted := nofun, freezing := nofun } freezing none rfl
  · rw [reportHolds_open (by rwa [← not_and_or])]
    exact { law with counted := fun _ => rfl, freezing := fun _ freezing none => drained ⟨freezing, none⟩ }

end

end Sys2Proof.Machine
end

section
/-! PROOF. The laws as holds end, are marked, and settle: expiry, a lost lane, the drain walk, and the end of a settlement. -/

namespace Sys2Proof.Machine

section
variable {reported reported' cap : Prop} {ex ex' : List Nat} {hand : List Lane} {s : State} {k : Nat}

/-- A change at the engine, and in the deadline list, of a READY part. -/
theorem State.Laws.withEngine {e : Engine} {d : DeadlineUnit} (law : s.Laws reported cap ex hand)
    (ready : s.restore.part = .ready) (tables : e.Canonical) (holds : e.HoldLaw d.list)
    (purse : e.PurseLaw s.period.number s.inFlight ex') (events : e.journalEvents = s.engine.journalEvents)
    (cards : ∀ slot, (e.card slot).cashBalance = (s.engine.card slot).cashBalance)
    (sponsors : ∀ n, (e.sponsor n).balance = (s.engine.sponsor n).balance)
    (still : s.period.state = .closeWrite → e.openHolds = 0)
    (counted : reported' → s.period.holdCount = e.openHolds ∧ (s.period.state = .freezing → e.openHolds ≠ 0)) :
    ({ s with engine := e, deadlines := d } : State).Laws reported' cap ex' hand := by
  have flight : ({ s with engine := e, deadlines := d } : State).inFlight = s.inFlight := by
    unfold State.inFlight
    rw [events]
  have earlier : ({ s with engine := e, deadlines := d } : State).earlierRecords = s.earlierRecords := by
    unfold State.earlierRecords State.untakenRecords
    rw [events]
  exact { law with
    tables := tables
    eventSuits := fun x mem => law.eventSuits x (events ▸ mem)
    idle := fun unready => absurd ready unready
    restoring := fun restoring => absurd (ready.symm.trans restoring) nofun
    still := still
    closing := by
      rw [flight]
      exact law.closing
    holds := holds
    purse := by
      rw [flight]
      exact purse
    owners := law.owners.of_waits (fun l => by rw [State.waits_eq, State.waits_eq, flight]) fun _ f owned => ⟨f, owned⟩
    caps := fun capped => by
      rw [earlier]
      exact (law.caps capped).of_balances cards sponsors
    counted := fun told => (counted told).1
    freezing := fun told => (counted told).2 }

/-! ## A hold detached -/

/-- An open hold that no record in flight settles is detached (R33, steps 1 to 6). -/
theorem State.Laws.detach (law : s.Laws reported cap ex hand) (opened : (s.engine.hold k).state ≠ .free)
    (unsettled : s.engine.handle k ∉ handlesOf s.inFlight) (reason : EndReason) :
    (s.detach k reason).Laws False cap (ex.erase (s.engine.handle k)) hand := by
  have canonical := law.tables
  have held : (s.engine.card (s.engine.hold k).cardSlot).inPeriod s.period.number s.engine.ranges =
      s.engine.card (s.engine.hold k).cardSlot := by
    rw [← refresh_card_same canonical, law.refresh_of_held opened]
  have same := State.detach_hold_same (k := k) (reason := reason) canonical
  have card : (s.detach k reason).engine.card (s.engine.hold k).cardSlot = { s.engine.card (s.engine.hold k).cardSlot with
      cashHeld := (s.engine.card (s.engine.hold k).cardSlot).cashHeld - (s.engine.hold k).cashShare,
      allowanceHeld := (s.engine.card (s.engine.hold k).cardSlot).allowanceHeld - (s.engine.hold k).allowanceShare,
      holdList := (s.engine.card (s.engine.hold k).cardSlot).holdList.erase (s.engine.handle k) } := by
    rw [State.detach_card_same canonical, held]
    simp [CardPurse.released, Engine.handle]
  have cards (j : Nat) (other : j ≠ (s.engine.hold k).cardSlot) := State.detach_card_other (reason := reason) other
  have named (n : Nat) (sponsor : (s.engine.hold k).sponsor = some n) : (s.detach k reason).engine.sponsor n =
      { s.engine.sponsor n with held := (s.engine.sponsor n).held - (s.engine.hold k).allowanceShare } := by
    rw [State.detach_sponsor_named canonical sponsor]
    simp [SponsorPurse.released]
  have sponsors (n : Nat) (other : (s.engine.hold k).sponsor ≠ some n) := State.detach_sponsor_other (reason := reason) other
  have ranges : (s.detach k reason).engine.ranges = s.engine.ranges := by rw [State.detach_eq]
  have count : (s.detach k reason).engine.sponsorCount = s.engine.sponsorCount := by rw [State.detach_eq]
  have others (j : Nat) (other : j ≠ k) := State.detach_hold_other (s := s) (reason := reason) other
  have freed : ((s.detach k reason).engine.hold k).state = .free := by rw [same]; rfl
  have events : (s.detach k reason).engine.journalEvents = s.engine.journalEvents := by rw [State.detach_eq]
  have holds : (s.detach k reason).engine.HoldLaw (s.detach k reason).deadlines.list := by
    rw [State.detach_deadlines]
    refine law.holds.detach opened freed (by rw [same]; exact ⟨rfl, rfl⟩) (by rw [same]; exact ⟨rfl, rfl⟩) others
      State.detach_freeList (fun l => ?_) fun slot => ?_
    · rw [State.detach_laneHolds]
      split
      next own =>
        subst own
        exact Vector.getElem_set_self ..
      next other => exact Vector.getElem_set_ne _ _ fun same => other (Fin.ext same)
    · split
      next own => rw [← own, card]
      next other => rw [cards slot (Ne.symm other)]
  have purse := law.purse.detach law.holds opened freed others unsettled card cards named sponsors ranges count
  have balances (j : Nat) : ((s.detach k reason).engine.card j).cashBalance = (s.engine.card j).cashBalance := by
    by_cases own : j = (s.engine.hold k).cardSlot
    · rw [own, card]
    · rw [cards j own]
  have sponsorBalances (n : Nat) : ((s.detach k reason).engine.sponsor n).balance = (s.engine.sponsor n).balance := by
    by_cases own : (s.engine.hold k).sponsor = some n
    · rw [named n own]
    · rw [sponsors n own]
  have tables := State.detach_tablesCanonical (k := k) (reason := reason) canonical
  have running : s.period.state ≠ .closeWrite := fun closing => opened (law.holds.noHolds (law.still closing) k)
  have all := law.withEngine (reported' := False) (law.ready_of_open opened) tables holds purse events balances sponsorBalances
    (fun closing => absurd closing running) False.elim
  rw [State.detach_eq] at all ⊢
  exact all

/-- The handle of a LIVE hold is of no CAPTURE record in flight. -/
theorem State.Laws.live_unsettled (law : s.Laws reported cap ex hand) (live : (s.engine.hold k).state = .live) :
    s.engine.handle k ∉ handlesOf s.inFlight := by
  intro listed
  have inside := law.holds.slot_lt (k := k) (by rw [live]; nofun)
  have settling := (law.purse.settling _).1 (List.mem_append.2 (.inl listed))
  rw [Engine.resolve_eq_settling, Engine.handle, handleOf_mod _ inside, live] at settling
  exact nomatch settling.2

/-- A LIVE hold's handle is not among those whose record has just been taken. -/
theorem State.Laws.live_unlisted (law : s.Laws reported cap ex hand) (live : (s.engine.hold k).state = .live) :
    s.engine.handle k ∉ ex := by
  intro listed
  have inside := law.holds.slot_lt (k := k) (by rw [live]; nofun)
  have settling := (law.purse.settling _).1 (List.mem_append.2 (.inr listed))
  rw [Engine.resolve_eq_settling, Engine.handle, handleOf_mod _ inside, live] at settling
  exact nomatch settling.2

/-- An open hold ends, the settlement it was in being over. -/
theorem State.Laws.endHold (law : s.Laws reported cap ex hand) (opened : (s.engine.hold k).state ≠ .free)
    (unsettled : s.engine.handle k ∉ handlesOf s.inFlight) (last : ex.erase (s.engine.handle k) = []) (reason : EndReason) :
    (endHold k reason s).Good cap hand := by
  have detached := law.detach opened unsettled reason
  rw [last] at detached
  exact detached.reportHolds.noticeEnding k reason

theorem State.Laws.endHold_live (law : s.Laws reported cap [] hand) (live : (s.engine.hold k).state = .live)
    (reason : EndReason) : (Machine.endHold k reason s).Good cap hand :=
  law.endHold (by rw [live]; nofun) (law.live_unsettled live) rfl reason

theorem State.Laws.endHoldQuietly_live (law : s.Laws reported cap [] hand) (live : (s.engine.hold k).state = .live)
    (reason : EndReason) : (endHoldQuietly k reason s).Laws False cap [] hand :=
  (law.detach (by rw [live]; nofun) (law.live_unsettled live) reason).noticeEnding k reason

/-! ## A hold changed in its place -/

/-- One open hold is changed in what the laws of purses do not tell but for its state, which `ex'` follows; its deadline entry stands
as `d` has it. -/
theorem State.Laws.retouch {f : Hold → Hold} {d : DeadlineUnit} (law : s.Laws reported cap ex hand)
    (opened : (s.engine.hold k).state ≠ .free) (opened' : (f (s.engine.hold k)).state ≠ .free)
    (same : f (s.engine.hold k) = { s.engine.hold k with
      state := (f (s.engine.hold k)).state, deadline := (f (s.engine.hold k)).deadline,
      extensionsUsed := (f (s.engine.hold k)).extensionsUsed, endMark := (f (s.engine.hold k)).endMark,
      deadlinePassed := (f (s.engine.hold k)).deadlinePassed })
    (marks : (f (s.engine.hold k)).state ≠ .settling →
      (f (s.engine.hold k)).endMark = .unmarked ∧ (f (s.engine.hold k)).deadlinePassed = false)
    (dueOnce : (d.list.map DeadlineEntry.handle).Nodup)
    (due : ∀ y, y ∈ d.list ↔ (y ∈ s.deadlines.list ∧ y.handle ≠ s.engine.handle k) ∨ y.handle = s.engine.handle k ∧
      (f (s.engine.hold k)).deadline = y.deadline ∧ (f (s.engine.hold k)).deadlinePassed = false)
    (settledOnce : (handlesOf s.inFlight ++ ex').Nodup)
    (settling : ∀ h, h ∈ handlesOf s.inFlight ++ ex' ↔ (s.engine.mapHold k f).resolve h = .settling) :
    ({ s with engine := s.engine.mapHold k f, deadlines := d } : State).Laws reported cap ex' hand := by
  have here := Engine.hold_mapHold_same s.engine law.tables.2.2 k f
  have others (j : Nat) (other : j ≠ k) : (s.engine.mapHold k f).hold j = s.engine.hold j :=
    Engine.hold_mapHold_other s.engine other f
  have fields : ((s.engine.mapHold k f).hold k).generation = (s.engine.hold k).generation ∧
      ((s.engine.mapHold k f).hold k).lane = (s.engine.hold k).lane ∧
      ((s.engine.mapHold k f).hold k).cardSlot = (s.engine.hold k).cardSlot ∧
      ((s.engine.mapHold k f).hold k).sponsor = (s.engine.hold k).sponsor ∧
      ((s.engine.mapHold k f).hold k).allowanceShare = (s.engine.hold k).allowanceShare ∧
      ((s.engine.mapHold k f).hold k).cashShare = (s.engine.hold k).cashShare := by
    rw [here, same]
    exact ⟨rfl, rfl, rfl, rfl, rfl, rfl⟩
  obtain ⟨generation, lane, slot, sponsor, allowance, cash⟩ := fields
  refine law.withEngine (law.ready_of_open opened) ⟨law.tables.1, law.tables.2.1, Table.wf_put _ _ law.tables.2.2⟩
    (law.holds.retouch opened (by rwa [here]) generation lane slot others rfl rfl (fun _ => rfl) (by rwa [here]) dueOnce
      (by rwa [here]))
    (law.purse.retouch law.holds opened (by rwa [here]) slot sponsor allowance cash others (fun _ => rfl) (fun _ => rfl) rfl rfl
      settledOnce settling)
    rfl (fun _ => rfl) (fun _ => rfl) law.still fun told => ⟨law.counted told, law.freezing told⟩

/-- What settles after a change of one hold that leaves its generation and its state. -/
theorem Engine.resolve_mapHold_kept {e : Engine} {f : Hold → Hold} (canonical : Table.wf .free e.holds = true)
    (generation : (f (e.hold k)).generation = (e.hold k).generation) (state : (f (e.hold k)).state = (e.hold k).state) (h : Nat) :
    (e.mapHold k f).resolve h = e.resolve h := by
  by_cases same : h % 512 = k
  · unfold Engine.resolve handleSlot
    simp only [same, e.hold_mapHold_same canonical, generation, state]
  · exact Engine.resolve_congr (e.hold_mapHold_other same f)

/-- A SETTLING hold gets an end mark (R51, R115). -/
theorem State.Laws.markHold (law : s.Laws reported cap ex hand) (settling : (s.engine.hold k).state = .settling) (m : EndMark) :
    (markHold k m s).Laws reported cap ex hand := by
  have opened : (s.engine.hold k).state ≠ .free := by rw [settling]; nofun
  have deadline : ((s.engine.hold k).marked m).deadline = (s.engine.hold k).deadline := rfl
  have marked : Machine.markHold k m s =
      { s with engine := s.engine.mapHold k (Hold.marked m), deadlines := s.deadlines } := by
    rw [← markHold_engine]
    rfl
  rw [marked]
  have here := Engine.hold_mapHold_same s.engine law.tables.2.2 k (Hold.marked m)
  refine law.retouch opened opened rfl (absurd settling) law.holds.dueOnce
    (here ▸ law.holds.due_kept (e' := s.engine.mapHold k (Hold.marked m)) opened (by rw [here]; rfl) (by rw [here]; rfl))
    law.purse.settledOnce fun h => ?_
  rw [Engine.resolve_mapHold_kept law.tables.2.2 rfl rfl]
  exact law.purse.settling h

/-- The deadline of a SETTLING hold passes: its entry leaves the deadline list (R49). -/
theorem State.Laws.markDeadlinePassed {handle : Nat} (law : s.Laws reported cap ex hand)
    (settling : s.engine.resolve handle = .settling) : (markDeadlinePassed handle s).Laws reported cap ex hand := by
  obtain ⟨generation, state⟩ := (s.engine.resolve_eq_settling handle).1 settling
  have opened : (s.engine.hold (handle % 512)).state ≠ .free := by rw [state]; nofun
  have names : s.engine.handle (handle % 512) = handle := s.engine.handle_of_isOpen (.inr settling)
  unfold Machine.markDeadlinePassed
  dsimp only [handleSlot]
  rw [law.refresh_of_held opened]
  refine law.retouch (f := fun h => { h with deadlinePassed := true })
    (d := { s.deadlines with list := removeDeadline handle s.deadlines.list }) opened opened rfl (absurd state)
    (law.holds.dueOnce.sublist (List.filter_sublist.map _)) (fun y => ?_) law.purse.settledOnce fun h => ?_
  · rw [names]
    unfold removeDeadline
    simp
  · rw [Engine.resolve_mapHold_kept law.tables.2.2 rfl rfl]
    exact law.purse.settling h

/-- A hold whose record has been taken is LIVE again (R59). -/
theorem State.Laws.relive {handle : Nat} (law : s.Laws reported cap [handle] hand)
    (unmarked : (s.engine.hold (handle % 512)).endMark = .unmarked)
    (early : (s.engine.hold (handle % 512)).deadlinePassed = false) :
    (s.mapEngine fun e => e.mapHold (handle % 512) fun h => { h with state := .live }).Laws reported cap [] hand := by
  have settling : s.engine.resolve handle = .settling :=
    (law.purse.settling handle).1 (List.mem_append.2 (.inr (List.mem_singleton_self handle)))
  obtain ⟨generation, state⟩ := (s.engine.resolve_eq_settling handle).1 settling
  have opened : (s.engine.hold (handle % 512)).state ≠ .free := by rw [state]; nofun
  have names : s.engine.handle (handle % 512) = handle := s.engine.handle_of_isOpen (.inr settling)
  have here := Engine.hold_mapHold_same s.engine law.tables.2.2 (handle % 512) fun h => { h with state := .live }
  refine law.retouch (f := fun h => { h with state := .live }) (d := s.deadlines) opened nofun rfl (fun _ => ⟨unmarked, early⟩)
    law.holds.dueOnce
    (law.holds.due_kept (e' := s.engine.mapHold (handle % 512) fun h => { h with state := .live }) opened
      (by rw [here]) (by rw [here]) · |>.trans (by rw [here]))
    (law.purse.settledOnce.sublist (List.Sublist.append_left (List.nil_sublist _) _)) fun h => ?_
  rw [List.append_nil]
  have once := law.purse.settledOnce
  have settles := law.purse.settling h
  rw [List.mem_append, List.mem_singleton] at settles
  by_cases same : h % 512 = handle % 512
  · rw [Engine.resolve_eq_settling, same, here]
    refine iff_of_false (fun listed => ?_) fun now => nomatch now.2
    have own : h = handle := by
      rw [← s.engine.handle_of_isOpen (.inr (settles.1 (.inl listed))), same, names]
    exact List.disjoint_of_nodup_append once (own ▸ listed) (List.mem_singleton_self handle)
  · rw [Engine.resolve_congr (s.engine.hold_mapHold_other same _), ← settles]
    refine (or_iff_left ?_).symm
    rintro rfl
    exact same rfl

/-- The handle whose record has been taken is of a SETTLING hold and of no record in flight. -/
theorem State.Laws.taken_settling {handle : Nat} (law : s.Laws reported cap [handle] hand) :
    s.engine.resolve handle = .settling ∧ handle ∉ handlesOf s.inFlight ∧ s.engine.handle (handle % 512) = handle ∧
      (s.engine.hold (handle % 512)).state ≠ .free := by
  have settling : s.engine.resolve handle = .settling :=
    (law.purse.settling handle).1 (List.mem_append.2 (.inr (List.mem_singleton_self handle)))
  refine ⟨settling, fun listed => ?_, s.engine.handle_of_isOpen (.inr settling), ?_⟩
  · exact List.disjoint_of_nodup_append law.purse.settledOnce listed (List.mem_singleton_self handle)
  · rw [((s.engine.resolve_eq_settling handle).1 settling).2]
    nofun

theorem State.Laws.endSettled {handle : Nat} (law : s.Laws reported cap [handle] hand) (reason : EndReason) :
    (Machine.endHold (handle % 512) reason s).Good cap hand := by
  obtain ⟨-, unsettled, names, opened⟩ := law.taken_settling
  exact law.endHold opened (by rwa [names]) (by rw [names, List.erase_cons_head]) reason

/-- A settlement ends without an ending of its own (R59). -/
theorem State.Laws.settlementEnds {handle : Nat} (law : s.Laws reported cap [handle] hand) (told : reported) :
    (settlementEnds (handle % 512) s).Good cap hand := by
  unfold Machine.settlementEnds
  dsimp only
  split
  next => exact law.endSettled .expired
  next early =>
    split
    next => exact law.endSettled _
    next noReason =>
      have unmarked : (s.engine.hold (handle % 512)).endMark = .unmarked := by
        revert noReason
        cases (s.engine.hold (handle % 512)).endMark <;> simp [EndMark.reason]
      have live := law.relive unmarked (by simpa using early)
      exact { live with counted := fun _ => live.counted told, freezing := fun _ => live.freezing told }

/-! ## Expiry, and the walks over lists of holds -/

theorem State.Laws.expireHold {handle : Nat} {deadline : Tick} (law : s.Good cap hand) :
    (expireHold handle deadline s).Good cap hand := by
  unfold Machine.expireHold
  dsimp only
  split
  next live =>
    split
    · exact law.endHold_live ((s.engine.resolve_eq_live handle).1 live).2 _
    · exact law
  next settling =>
    split
    · exact law.markDeadlinePassed settling
    · exact law
  next => exact law
  next => exact law

theorem State.Laws.loseHold {handle : Nat} (law : s.Good cap hand) : (loseHold handle s).Good cap hand := by
  unfold Machine.loseHold
  dsimp only
  split
  next live => exact law.endHold_live ((s.engine.resolve_eq_live handle).1 live).2 _
  next settling =>
    refine (law.refresh _).markHold ?_ _
    rw [refresh_hold]
    exact ((s.engine.resolve_eq_settling handle).1 settling).2
  next => exact law
  next => exact law

theorem State.Laws.drainHold {handle : Nat} (law : s.Laws False cap [] hand) : (drainHold handle s).Laws False cap [] hand := by
  unfold Machine.drainHold
  dsimp only
  split
  next live => exact law.endHoldQuietly_live ((s.engine.resolve_eq_live handle).1 live).2 _
  next settling =>
    refine (law.refresh _).markHold ?_ _
    rw [refresh_hold]
    exact ((s.engine.resolve_eq_settling handle).1 settling).2
  next => exact law
  next => exact law

theorem State.Laws.loseLane (law : s.Good cap hand) (l : Lane) : (loseLane l s).Good cap hand := by
  have walked : ∀ handles : List Nat, ∀ t : State, t.Good cap hand →
      (handles.foldl (fun s h => Machine.loseHold h s) t).Good cap hand := by
    intro handles
    induction handles with
    | nil => exact fun _ => id
    | cons h handles ih => exact fun t law => ih _ law.loseHold
  exact (walked _ s law).placeNotice l _

theorem State.Laws.drainWalk (law : s.Laws reported cap [] hand) : (drainWalk s).Good cap hand := by
  have walked : ∀ handles : List Nat, ∀ t : State, t.Laws False cap [] hand →
      (handles.foldl (fun s h => Machine.drainHold h s) t).Laws False cap [] hand := by
    intro handles
    induction handles with
    | nil => exact fun _ => id
    | cons h handles ih => exact fun t law => ih _ law.drainHold
  unfold Machine.drainWalk
  dsimp only
  split
  · exact ((walked _ s law.unreported).raiseFlag _).reportHolds
  · exact (walked _ s law.unreported).reportHolds

end

end Sys2Proof.Machine
end

section
/-! PROOF. The laws as the requests about holds are answered: HOLD, RELEASE, EXTEND, BALANCE and READ_PURSE. -/

namespace Sys2Proof.Machine

/-- An answer leads to a state of which `P` holds. -/
def Leads (P : State → Prop) (a : Answer) : Prop := ∃ t, a = .next t ∧ P t

theorem Leads.next {P : State → Prop} {t : State} (holds : P t) : Leads P (.next t) := ⟨t, rfl, holds⟩

theorem Leads.ite {P : State → Prop} {c : Prop} [Decidable c] {a b : Answer} (first : c → Leads P a) (second : ¬ c → Leads P b) :
    Leads P (if c then a else b) := by
  split
  next holds => exact first holds
  next fails => exact second fails

/-! ## Room for a hold (R26, R38) -/

theorem insertDeadline_perm (now : Tick) (x : DeadlineEntry) (list : List DeadlineEntry) :
    (insertDeadline now x list).Perm (x :: list) := by
  induction list with
  | nil => exact .refl _
  | cons y list ih =>
    unfold insertDeadline
    split
    · exact (ih.cons y).trans (.swap x y list)
    · exact .refl _

/-- A lane with room for a hold leaves a slot free: 512 open holds are 64 on each of 8 lanes. -/
theorem Engine.HoldLaw.freeList_ne_nil {e : Engine} {list : List DeadlineEntry} (law : e.HoldLaw list) {l : Lane}
    (room : e.laneHolds[l].length < 64) : e.freeList ≠ [] := by
  intro none
  have slots : Finset.range 512 ⊆ Finset.univ.biUnion fun m : Lane => e.laneHolds[m].toFinset.image (· % 512) := by
    intro k mem
    have inside : k < 512 := Finset.mem_range.1 mem
    have opened : (e.hold k).state ≠ .free := fun free => by
      have listed := (law.free k).2 ⟨inside, free⟩
      rw [none] at listed
      exact List.not_mem_nil listed
    have at_k : handleSlot (e.handle k) = k := handleOf_mod _ inside
    refine Finset.mem_biUnion.2 ⟨(e.hold k).lane, Finset.mem_univ _, Finset.mem_image.2 ⟨e.handle k, ?_, at_k⟩⟩
    rw [List.mem_toFinset, (law.lane _).2.2, at_k]
    exact ⟨Engine.isOpen_handle inside opened, rfl⟩
  have least := Finset.card_le_card slots
  rw [Finset.card_range] at least
  have most : (Finset.univ.biUnion fun m : Lane => e.laneHolds[m].toFinset.image (· % 512)).card ≤
      ∑ m : Lane, e.laneHolds[m].length :=
    Finset.card_biUnion_le.trans (Finset.sum_le_sum fun m _ => Finset.card_image_le.trans (List.toFinset_card_le _))
  have fewer : ∑ m : Lane, e.laneHolds[m].length < ∑ _m : Lane, 64 :=
    Finset.sum_lt_sum (fun m _ => (law.lane m).1) ⟨l, Finset.mem_univ l, room⟩
  rw [Finset.sum_const, Finset.card_univ, Fintype.card_fin] at fewer
  exact absurd (least.trans most) (Nat.not_le_of_lt fewer)

/-- The sponsor of the entry that maps a card is a sponsor of the region. -/
theorem Engine.mapOk.entryFor_sponsor {e : Engine} (ok : e.mapOk) {card n : Nat} (named : (e.entryFor card).sponsor = some n) :
    n < e.sponsorCount := by
  unfold Engine.entryFor at named
  split at named
  next k found => exact ok.2.2.2 k ((mapsTo_iff _ _ _).1 (entryOf_eq_some found)).1 n named
  next => exact nomatch named

/-- The allowance share of a hold is within what is available (R39). -/
theorem allowanceShareOf_le (e : Engine) (p : CardPurse) (sponsor : Option Nat) (amount : Nat) :
    allowanceShareOf e p sponsor amount ≤ p.allowanceRemaining - p.allowanceHeld ∧
      ∀ n, sponsor = some n → allowanceShareOf e p sponsor amount ≤ (e.sponsor n).balance - (e.sponsor n).held := by
  rw [allowanceShareOf_eq]
  refine ⟨(min_le_left _ _).trans (min_le_right _ _), ?_⟩
  rintro n rfl
  exact min_le_right _ _

/-! ## HOLD -/

theorem Engine.Canonical.placed {e : Engine} {k handle : Nat} {rest : List Nat} {h : Hold} (canonical : e.Canonical) :
    (e.placed k rest handle h).Canonical := by
  have all : e.Keeps (fun _ => True) (e.placed k rest handle h) := by
    refine .trans (.trans ?_ (Engine.mapSponsor?_keeps _ _)) (Engine.mapLaneHolds_keeps _ _)
    refine .trans (.trans (Engine.withFreeList_keeps rest) (Engine.mapHold_keeps _ _)) (Engine.mapCard_keeps _ ?_)
    exact fun _ _ => rfl
  exact all.tables canonical

section
variable {cap : Prop} {hand : List Lane} {s : State} {l : Lane}

/-- A hold is placed and its lane answered (R41). -/
theorem State.Laws.placeHold {slot a c parts k : Nat} {sponsor : Option Nat} {rest : List Nat}
    (law : s.Good cap (l :: hand)) (ready : s.restore.part = .ready) (opened : s.period.state = .opened)
    (head : s.engine.freeList = k :: rest) (used : (s.engine.card slot).state ≠ .free)
    (current : (s.engine.card slot).allowancePeriod = s.period.number) (unqueued : (s.engine.card slot).closeQueued = false)
    (purseRoom : (s.engine.card slot).holdList.length < 4) (laneRoom : s.engine.laneHolds[l].length < 64)
    (cashRoom : (s.engine.card slot).cashHeld + (s.engine.card slot).cashOutgoing + c ≤ (s.engine.card slot).cashBalance)
    (allowanceRoom : (s.engine.card slot).allowanceHeld + a ≤ (s.engine.card slot).allowanceRemaining)
    (named : ∀ n, sponsor = some n → n < s.engine.sponsorCount ∧ (s.engine.sponsor n).held + a ≤ (s.engine.sponsor n).balance) :
    (placeHold l slot sponsor a c parts k rest s).Good cap hand := by
  generalize deadline : s.now + BitVec.ofNat 32 (10 * s.lanes[l].settings.holdLifetime) = d
  generalize handle_eq : ((s.engine.hold k).generation + 1) % 128 * 512 + k = handle
  generalize hold_eq : (s.engine.hold k).place l slot sponsor a c parts d s.period.number = h
  rw [placeHold_of_opened opened deadline.symm handle_eq.symm hold_eq.symm]
  have fields : h.state = .live ∧ h.endMark = .unmarked ∧ h.deadlinePassed = false ∧ h.lane = l ∧ h.cardSlot = slot ∧
      h.sponsor = sponsor ∧ h.allowanceShare = a ∧ h.cashShare = c ∧ h.deadline = d ∧ handleOf h.generation k = handle := by
    rw [← hold_eq]
    exact ⟨rfl, rfl, rfl, rfl, rfl, rfl, rfl, rfl, rfl, handle_eq⟩
  obtain ⟨live, unmarked, early, lane, cardSlot, ofSponsor, allowance, cash, due, handled⟩ := fields
  obtain ⟨inside, wasFree⟩ := (law.holds.free k).1 (head ▸ List.mem_cons_self)
  have here : (s.engine.placed k rest handle h).hold k = h := Engine.placed_hold_same law.tables.2.2
  have others (j : Nat) (other : j ≠ k) : (s.engine.placed k rest handle h).hold j = s.engine.hold j :=
    Engine.placed_hold_other other
  have names : (s.engine.placed k rest handle h).handle k = handle := by rw [Engine.handle, here, handled]
  have card : (s.engine.placed k rest handle h).card slot = { s.engine.card slot with
      cashHeld := (s.engine.card slot).cashHeld + c, allowanceHeld := (s.engine.card slot).allowanceHeld + a,
      holdList := (s.engine.card slot).holdList ++ [handle] } := by
    have placed := Engine.placed_card_same (k := k) (rest := rest) (handle := handle) (h := h) law.tables.1
    rwa [cardSlot, allowance, cash] at placed
  have cards (j : Nat) (other : j ≠ slot) : (s.engine.placed k rest handle h).card j = s.engine.card j :=
    Engine.placed_card_other (cardSlot.symm ▸ other)
  have ofNamed (n : Nat) (own : sponsor = some n) : (s.engine.placed k rest handle h).sponsor n =
      { s.engine.sponsor n with held := (s.engine.sponsor n).held + a } := by
    have placed := Engine.placed_sponsor_named (k := k) (rest := rest) (handle := handle) law.tables.2.1 (ofSponsor.trans own)
    rwa [allowance] at placed
  have sponsors (n : Nat) (other : sponsor ≠ some n) : (s.engine.placed k rest handle h).sponsor n = s.engine.sponsor n :=
    Engine.placed_sponsor_other (ofSponsor.symm ▸ other)
  have placed := Engine.placed_eq (k := k) (rest := rest) (handle := handle) (h := h) (e := s.engine) (e₀ := s.engine) rfl
  have free : (s.engine.placed k rest handle h).freeList = rest := Engine.placed_freeList
  have laneHolds : (s.engine.placed k rest handle h).laneHolds =
      s.engine.laneHolds.set h.lane (s.engine.laneHolds[h.lane] ++ [handle]) := by rw [placed]
  have events : (s.engine.placed k rest handle h).journalEvents = s.engine.journalEvents := by rw [placed]
  have ranges : (s.engine.placed k rest handle h).ranges = s.engine.ranges := by rw [placed]
  have count : (s.engine.placed k rest handle h).sponsorCount = s.engine.sponsorCount := by rw [placed]
  have tables : (s.engine.placed k rest handle h).Canonical := Engine.Canonical.placed law.tables
  have holds : (s.engine.placed k rest handle h).HoldLaw (insertDeadline s.now ⟨d, handle⟩ s.deadlines.list) := by
    refine law.holds.place head (by rw [here, live]) (by rw [here]; exact ⟨unmarked, early⟩) others free
      (by simpa only [here, lane] using laneRoom) (by rwa [here, cardSlot]) (fun m => ?_) (fun j => ?_)
      (insertDeadline_perm _ _ _) names.symm
      (by rw [here, due])
    · rw [laneHolds, here, names]
      split
      next own =>
        subst own
        exact Vector.getElem_set_self ..
      next other => exact Vector.getElem_set_ne _ _ fun same => other (Fin.ext same)
    · rw [here, names, cardSlot]
      split
      next own => rw [← own, card]
      next other => rw [cards j (Ne.symm other)]
  have purse : (s.engine.placed k rest handle h).PurseLaw s.period.number s.inFlight [] := by
    refine law.purse.place law.holds inside wasFree (by rw [here, live]) others ?_ ?_ ?_ ?_ ?_ ?_ ?_ ?_ ?_ ranges count
    all_goals rw [here]
    · rw [names, cardSlot, cash, allowance]
      exact card
    · rw [cardSlot]
      exact cards
    · rwa [cardSlot]
    · rwa [cardSlot]
    · rwa [cardSlot]
    · rwa [cardSlot, cash]
    · rwa [cardSlot, allowance]
    · rw [ofSponsor, allowance]
      exact fun n own => ⟨(named n own).1, (named n own).2, ofNamed n own⟩
    · rw [ofSponsor]
      exact sponsors
  have all := law.withEngine (reported' := False) (d := { s.deadlines with list := insertDeadline s.now ⟨d, handle⟩ s.deadlines.list })
    ready tables holds purse events
    (fun j => by
      by_cases own : j = slot
      · rw [own, card]
      · rw [cards j own])
    (fun n => by
      by_cases own : sponsor = some n
      · rw [ofNamed n own]
      · rw [sponsors n own])
    (fun closing => absurd (opened.symm.trans closing) nofun) False.elim
  refine State.Laws.fillReply ?_ _ _
  exact { all with
    counted := fun _ => congrArg (512 - ·.length) free.symm
    freezing := fun _ freezing => absurd (opened.symm.trans freezing) nofun }

/-- A purse that is OPEN or BLOCKED is of the current period once it is refreshed (R8). -/
theorem CardPurse.inPeriod_current {p : CardPurse} (used : p.state ≠ .free) (period : Nat) (m : Vector RangeEntry 8) :
    (p.inPeriod period m).allowancePeriod = period := by
  unfold CardPurse.inPeriod
  split
  next => rfl
  next current => exact not_not.1 fun other => current ⟨used, other⟩

/-- The last checks of HOLD, on a purse of the current period (R38 to R41). -/
theorem State.Laws.holdOnPurse {slot amount parts : Nat} (law : s.Good cap (l :: hand)) (ready : s.restore.part = .ready)
    (opened : s.period.state = .opened) (used : (s.engine.card slot).state ≠ .free)
    (current : (s.engine.card slot).allowancePeriod = s.period.number)
    (unqueued : (s.engine.card slot).closeQueued = false) :
    Leads (·.Good cap hand) (holdOnPurse l slot amount parts s) := by
  unfold Machine.holdOnPurse
  dsimp only
  generalize entry : s.engine.entryFor (s.engine.card slot).cardNumber = x
  have share := allowanceShareOf_le s.engine (s.engine.card slot) x.sponsor amount
  generalize allowanceShareOf s.engine (s.engine.card slot) x.sponsor amount = a at share ⊢
  have purse := law.purse.card slot
  have limit := law.limits l
  refine .ite (fun _ => .next (law.refuse _)) fun purseRoom => .ite (fun _ => .next (law.refuse _)) fun laneRoom =>
    .ite (fun _ => .next (law.fillReply _ _)) fun covered => .ite (fun _ => .next (law.fillReply _ _)) fun _ => ?_
  have room : s.engine.laneHolds[l].length < 64 := by omega
  cases head : s.engine.freeList with
  | nil => exact absurd head (law.holds.freeList_ne_nil room)
  | cons k rest =>
    have cash := purse.cash
    have allowance := purse.allowance
    unfold CardPurse.cashAvailable at covered
    refine .next (law.placeHold ready opened head used current unqueued (by omega) room (by omega) (by omega) fun n own => ?_)
    have sponsor := (law.purse.sponsor n).balance
    have available := share.2 n own
    exact ⟨law.purse.map.entryFor_sponsor (entry.symm ▸ own), by omega⟩

theorem State.Laws.engineHold {card amount parts : Nat} (law : s.Good cap (l :: hand)) :
    Leads (·.Good cap hand) (engineHold l card amount parts s) := by
  unfold Machine.engineHold
  refine .ite (fun _ => .next (law.refuse _)) fun ready => .ite (fun _ => .next (law.refuse _)) fun _ =>
    .ite (fun _ => .next (law.refuse _)) fun _ => .ite (fun _ => .next (law.refuse _)) fun opened =>
    .ite (fun _ => .next (law.refuse _)) fun _ => .ite (fun _ => .next (law.refuse _)) fun _ => ?_
  split
  next => exact .next (law.refuse _)
  next slot found =>
    refine .ite (fun _ => .next (law.refuse _)) fun usable => ?_
    obtain ⟨-, -, used, -⟩ := lookup_eq_some.1 found
    have fresh := refresh_card_same (slot := slot) law.tables
    obtain ⟨-, -, state, -, queued, -⟩ := CardPurse.inPeriod_kept s.period.number s.engine.ranges (s.engine.card slot)
    refine (law.refresh slot).holdOnPurse ?_ ?_ ?_ ?_ ?_
    · rw [refresh_eq]
      simpa [State.ready] using ready
    · rw [refresh_eq]
      exact not_not.1 opened
    · rwa [fresh, state]
    · rw [fresh, CardPurse.inPeriod_current used, refresh_eq]
    · rw [fresh, queued]
      simpa using fun closing => usable (.inr closing)

/-! ## RELEASE and EXTEND -/

theorem State.Laws.engineRelease {handle : Nat} (law : s.Good cap (l :: hand)) : (engineRelease l handle s).Good cap hand := by
  unfold Machine.engineRelease
  split
  next => exact law.refuse _
  next =>
    split
    next => exact law.holdGone _
    next => exact law.holdGone _
    next => exact law.refuse _
    next live =>
      split
      next => exact law.refuse _
      next => exact (law.endHold_live ((s.engine.resolve_eq_live handle).1 live).2 _).fillReply _ _

/-- A LIVE hold gets a fresh deadline (R47). -/
theorem State.Laws.extendHold {handle : Nat} (law : s.Good cap (l :: hand)) (live : s.engine.resolve handle = .live) :
    (extendHold l handle s).Good cap hand := by
  obtain ⟨generation, state⟩ := (s.engine.resolve_eq_live handle).1 live
  have opened : (s.engine.hold (handle % 512)).state ≠ .free := by rw [state]; nofun
  have names : s.engine.handle (handle % 512) = handle := s.engine.handle_of_isOpen (.inl live)
  unfold Machine.extendHold
  dsimp only [handleSlot]
  rw [law.refresh_of_held opened]
  generalize ticksFrom s.now s.lanes[l].settings.holdLifetime = due
  generalize (s.engine.hold (handle % 512)).extensionsUsed + 1 = used
  have list := insertDeadline_perm s.deadlines.tick ⟨due, handle⟩ (removeDeadline handle s.deadlines.list)
  have early : (s.engine.hold (handle % 512)).deadlinePassed = false :=
    (law.holds.marks _ (by rw [state]; nofun)).2
  refine State.Laws.fillReply (law.retouch (f := fun h => { h with deadline := due, extensionsUsed := used })
    (d := { s.deadlines with
      list := insertDeadline s.deadlines.tick ⟨due, handle⟩ (removeDeadline handle s.deadlines.list) })
    opened opened rfl (law.holds.marks _) ?_ (fun y => ?_) law.purse.settledOnce fun h => ?_) _ _
  · rw [(list.map DeadlineEntry.handle).nodup_iff, List.map_cons, List.nodup_cons]
    refine ⟨fun listed => ?_, law.holds.dueOnce.sublist (List.filter_sublist.map _)⟩
    obtain ⟨y, mem, same⟩ := List.mem_map.1 listed
    unfold removeDeadline at mem
    simp [same] at mem
  · rw [list.mem_iff, names]
    unfold removeDeadline
    obtain ⟨deadline, handle'⟩ := y
    simp only [List.mem_cons, DeadlineEntry.mk.injEq, List.mem_filter, decide_eq_true_eq, early, and_true]
    constructor
    · rintro (⟨rfl, rfl⟩ | kept)
      · exact .inr ⟨rfl, rfl⟩
      · exact .inl kept
    · rintro (kept | ⟨rfl, rfl⟩)
      · exact .inr kept
      · exact .inl ⟨rfl, rfl⟩
  · rw [Engine.resolve_mapHold_kept law.tables.2.2 rfl rfl]
    exact law.purse.settling h

theorem State.Laws.engineExtend {handle : Nat} (law : s.Good cap (l :: hand)) : (engineExtend l handle s).Good cap hand := by
  unfold Machine.engineExtend
  dsimp only
  split
  next => exact law.refuse _
  next =>
    split
    next => exact law.holdGone _
    next => exact law.holdGone _
    next =>
      split
      · exact law.refuse _
      · split
        · exact law.refuse _
        next live =>
          split
          · exact law.refuse _
          · split
            · exact law.refuse _
            · exact law.extendHold (not_not.1 live)

/-! ## BALANCE and READ_PURSE -/

theorem State.Laws.engineBalance {card : Nat} (law : s.Good cap (l :: hand)) : (engineBalance l card s).Good cap hand := by
  unfold Machine.engineBalance
  split
  · exact law.refuse _
  · exact (law.refresh _).fillReply _ _

theorem State.Laws.engineReadPurse {slot : Nat} (law : s.Good cap (l :: hand)) : (engineReadPurse l slot s).Good cap hand := by
  unfold Machine.engineReadPurse
  split
  · exact law.refuse _
  · split
    · exact (law.refresh _).fillReply _ _
    · exact law.fillReply _ _

end

end Sys2Proof.Machine
end

section
/-! PROOF. The laws as records are queued: CAPTURE, REVERSE, and the office purse operations. -/

namespace Sys2Proof.Machine

section
variable {reported cap : Prop} {ex : List Nat} {hand : List Lane} {s u : State} {lane l : Lane} {body : RecordBody}
  {owner : Owner}

/-- The balances as every earlier queued record will leave them keep below their tops. -/
theorem State.Laws.ahead_le (law : s.Laws reported cap ex hand) (capped : cap) :
    (∀ slot, (s.cardAhead slot).cashBalance ≤ 2000000) ∧ ∀ n, s.sponsorAhead n ≤ 100000000 := by
  have caps := law.caps capped s.earlierRecords.length
  rw [List.take_length] at caps
  refine ⟨fun slot => ?_, caps.2⟩
  rw [State.cardAhead, cardThrough_cash]
  exact caps.1 slot

/-- A record is queued by the engine (R5, R81), `u` being the state with its reservation made. -/
theorem State.Laws.engineQueues (law : s.Laws reported cap (owner.handle.toList ++ ex) (owner.lane.toList ++ hand))
    (ready : s.restore.part = .ready) (ok : s.journal.store = .ok) (other : owner ≠ .periodControl) (suits : owner.suits body)
    (frame : u = { s with engine := { s.engine with cards := u.engine.cards, ring := u.engine.ring } })
    (canonical : u.tablesCanonical)
    (covered : s.engine.Covers ((s.journal.entry lane s.period.number body owner).record, owner))
    (card : ∀ slot, body.cardSlot = some slot →
      (s.engine.card slot).Queues s.engine.ranges slot body (u.engine.card slot).addPending)
    (cards : ∀ slot, body.cardSlot ≠ some slot → u.engine.card slot = s.engine.card slot)
    (named : ∀ n, body.sponsor = some n → n < s.engine.sponsorCount)
    (cash : cap → ∀ slot, body.cardSlot = some slot → body.cashEffect (s.cardAhead slot).cashBalance ≤ 2000000)
    (balance : cap → ∀ n, body.sponsor = some n → body.sponsorEffect (s.sponsorAhead n) ≤ 100000000) :
    (engineQueues lane body owner u).Laws reported cap ex hand := by
  have queues : Machine.engineQueues lane body owner u = { s with
      engine := (onNamed body CardPurse.addPending SponsorPurse.addPending u).engine,
      journal := s.journal.push lane s.period.number body owner } := by
    change onNamed body _ _ (queueRecord lane u.period.number body owner u) = _
    rw [queueRecord_eq, frame]
    rfl
  rw [queues]
  have engine := congrArg State.engine (onNamed_eq body CardPurse.addPending SponsorPurse.addPending u)
  have same : u.engine = { s.engine with cards := u.engine.cards, ring := u.engine.ring } := congrArg State.engine frame
  have sponsor (n : Nat) : u.engine.sponsor n = s.engine.sponsor n := by rw [same]; rfl
  have ofCard (slot : Nat) (own : body.cardSlot = some slot) :=
    onNamed_card_named (fc := CardPurse.addPending) (fs := SponsorPurse.addPending) canonical own
  have ofOther (slot : Nat) (apart : body.cardSlot ≠ some slot) :=
    (onNamed_card_other (s := u) (fc := CardPurse.addPending) (fs := SponsorPurse.addPending) apart).trans (cards slot apart)
  refine law.queued ready ok other suits (onNamed_tablesCanonical canonical) ?_ ?_ ?_ (fun slot => ?_) ?_ ?_ ?_ covered
    (fun slot own => ?_) ofOther (fun n own => ⟨named n own, ?_⟩) (fun n apart => ?_) cash balance
  · rw [engine, same]
  · rw [engine, same]
  · rw [engine, same]
  · by_cases own : body.cardSlot = some slot
    · rw [ofCard slot own]
      have lists := congrArg CardPurse.holdList (card slot own).purse
      exact lists
    · rw [ofOther slot own]
  · rw [engine, same]
  · rw [engine, same]
  · rw [engine, same]
  · rw [ofCard slot own]
    exact card slot own
  · rw [onNamed_sponsor_named canonical own, sponsor]
  · rw [onNamed_sponsor_other apart, sponsor]

end

/-! ## Office purse operations (R80 to R93) -/

section
variable {cap : Prop} {hand : List Lane} {s : State} {l : Lane} {slot : Nat}

/-- An office operation's record on a card is queued, or refused for the store. -/
theorem State.Laws.acceptOnCard {body : State → RecordBody} {reserve : State → State} (law : s.Good cap (l :: hand))
    (ready : s.restore.part = .ready) (office : (body s).isOffice = true) (ofSlot : (body s).cardSlot = some slot)
    (unsponsored : (body s).sponsor = none) (on : State.OnCard slot s (reserve s))
    (card : (s.engine.card slot).Queues s.engine.ranges slot (body s) ((reserve s).engine.card slot).addPending)
    (cash : cap → (body s).cashEffect (s.cardAhead slot).cashBalance ≤ 2000000) :
    (acceptOffice l body reserve s).Good cap hand := by
  cases store : s.journal.store with
  | ok =>
    rw [acceptOffice_ok store]
    refine State.Laws.engineQueues (owner := .request l) law ready store nofun office ?_ on.canonical nofun (fun j own => ?_)
      (fun j apart => on.other j ?_) (fun n own => ?_) (fun capped j own => ?_) fun _ n own => ?_
    · have frame := on.frame
      generalize (reserve s).engine.cards = cards at frame
      rw [frame]
    · rw [ofSlot, Option.some.injEq] at own
      exact own ▸ card
    · rintro rfl
      exact apart ofSlot
    · rw [unsponsored] at own
      exact nomatch own
    · rw [ofSlot, Option.some.injEq] at own
      exact own ▸ cash capped
    · rw [unsponsored] at own
      exact nomatch own
  | fault =>
    rw [acceptOffice_fault store]
    exact law.refuse _

/-- A request on a card acts on an OPEN or BLOCKED purse, of the current period, with no close queued. -/
theorem State.Laws.onOpenCard {card : Nat} {own : Nat → State → State} (law : s.Good cap (l :: hand))
    (acts : ∀ slot (u : State), u.Good cap (l :: hand) → u.restore = s.restore → u.config = s.config →
      (u.engine.card slot).state ≠ .free → (u.engine.card slot).closeQueued = false → (own slot u).Good cap hand) :
    (onOpenCard l card own s).Good cap hand := by
  unfold Machine.onOpenCard
  split
  next => exact law.refuse _
  next slot found =>
    obtain ⟨-, -, used, -⟩ := lookup_eq_some.1 found
    obtain ⟨-, -, state, -, -, -⟩ := CardPurse.inPeriod_kept s.period.number s.engine.ranges (s.engine.card slot)
    dsimp only
    split
    next => exact (law.refresh slot).refuse _
    next unqueued =>
      refine acts slot _ (law.refresh slot) ?_ ?_ ?_ (by simpa using unqueued)
      · rw [refresh_eq]
      · rw [refresh_eq]
      · rwa [refresh_card_same law.tables, state]

theorem State.Laws.engineOpenPurse {card : Nat} (law : s.Good cap (l :: hand)) (ready : s.restore.part = .ready) :
    (engineOpenPurse l card s).Good cap hand := by
  unfold Machine.engineOpenPurse
  split
  next => exact law.refuse _
  next slot mapped =>
    split
    next => exact law.refuse _
    next unopened =>
      split
      next => exact law.refuse _
      next settled =>
        have free : (s.engine.card slot).state = .free := not_not.1 unopened
        have alone : (s.engine.card slot).pendingRecords = 0 := not_not.1 settled
        have purse := law.purse.card slot
        have unqueued : (s.engine.card slot).closeQueued ≠ true := fun queued => by
          have one := (purse.closing queued).1
          omega
        refine law.acceptOnCard (slot := slot) ready rfl rfl rfl ((State.OnCard.refl law.tables).reserve _) ?_ fun _ => ?_
        · rw [reserveOn_card law.tables]
          exact ⟨rfl, purse.cash, mapped, ⟨free, congrArg (· + 1) alone, eq_false_of_ne_true unqueued, rfl, rfl⟩, .inl alone,
            fun queued => absurd queued unqueued⟩
        · exact Nat.zero_le _

/-- What a record makes of an OPEN or BLOCKED purse with no close queued, when it reserves cash alone. -/
theorem State.Laws.queuesOn {reported : Prop} {ex : List Nat} (law : s.Laws reported cap ex hand) {b : RecordBody} {q : CardPurse}
    (used : (s.engine.card slot).state ≠ .free) (unqueued : (s.engine.card slot).closeQueued = false)
    (finds : ∀ p : CardPurse, p.state ≠ .free → p.closeQueued = false → b.Finds p)
    (purse : q = { s.engine.card slot with
      cashOutgoing := (s.engine.card slot).cashOutgoing + b.withdrawn,
      topUpPending := (s.engine.card slot).topUpPending + b.toppedUp })
    (cash : b.withdrawn ≤ (s.engine.card slot).cashAvailable) :
    (s.engine.card slot).Queues s.engine.ranges slot b q.addPending := by
  subst purse
  have covered := (law.purse.card slot).cash
  unfold CardPurse.cashAvailable at cash
  exact ⟨rfl, by omega, (law.purse.card slot).mapped (.inl used), finds _ used unqueued, .inr ⟨used, unqueued, unqueued⟩,
    fun queued => by simp [CardPurse.addPending, unqueued] at queued⟩

theorem State.Laws.engineClosePurse {card : Nat} (law : s.Good cap (l :: hand)) (ready : s.restore.part = .ready) :
    (engineClosePurse l card s).Good cap hand := by
  refine law.onOpenCard fun slot u law part _ used unqueued => ?_
  dsimp only
  split
  next => exact law.fillReply _ _
  next noHold =>
    split
    next => exact law.refuse _
    next =>
      split
      next => exact law.refuse _
      next settled =>
        have alone : (u.engine.card slot).pendingRecords = 0 := not_not.1 settled
        have purse := law.purse.card slot
        refine law.acceptOnCard (slot := slot) (part ▸ ready) rfl rfl rfl ((State.OnCard.refl law.tables).reserve _) ?_ fun _ => ?_
        · rw [reserveOn_card law.tables]
          exact ⟨rfl, purse.cash, purse.mapped (.inl used), ⟨used, rfl, not_not.1 noHold⟩, .inl alone,
            fun _ => ⟨alone, _, rfl⟩⟩
        · exact Nat.zero_le _

theorem State.Laws.engineChangeState {card : Nat} {needed : PurseState} {kind : StateKind} (law : s.Good cap (l :: hand))
    (ready : s.restore.part = .ready) (blocks : kind = .block ∨ kind = .unblock) :
    (engineChangeState l card needed kind s).Good cap hand := by
  refine law.onOpenCard fun slot u law part _ used unqueued => ?_
  split
  next => exact law.refuse _
  next =>
    refine law.acceptOnCard (slot := slot) (part ▸ ready) rfl rfl rfl (State.OnCard.refl law.tables)
      (law.queuesOn used unqueued ?_ rfl (Nat.zero_le _)) fun capped => ?_
    · obtain rfl | rfl := blocks <;> exact fun p used unqueued => ⟨used, unqueued⟩
    · obtain rfl | rfl := blocks <;> exact (law.ahead_le capped).1 slot

theorem State.Laws.engineTopUp {card amount : Nat} (law : s.Good cap (l :: hand)) (ready : s.restore.part = .ready) :
    (engineTopUp l card amount s).Good cap hand := by
  unfold Machine.engineTopUp
  split
  next => exact law.refuse _
  next =>
    refine law.onOpenCard fun slot u law part _ used unqueued => ?_
    dsimp only
    split
    next => exact law.fillReply _ _
    next room =>
      refine law.acceptOnCard (slot := slot) (part ▸ ready) rfl rfl rfl ((State.OnCard.refl law.tables).reserve _) ?_
        fun _ => ?_
      · rw [reserveOn_card law.tables]
        exact law.queuesOn used unqueued (fun p used unqueued => ⟨used, unqueued⟩) rfl (Nat.zero_le _)
      · exact Nat.not_lt.1 (not_or.1 room).2

theorem State.Laws.engineWithdraw {card amount : Nat} (law : s.Good cap (l :: hand)) (ready : s.restore.part = .ready) :
    (engineWithdraw l card amount s).Good cap hand := by
  unfold Machine.engineWithdraw
  split
  next => exact law.refuse _
  next =>
    refine law.onOpenCard fun slot u law part _ used unqueued => ?_
    dsimp only
    split
    next => exact law.fillReply _ _
    next covered =>
      refine law.acceptOnCard (slot := slot) (part ▸ ready) rfl rfl rfl ((State.OnCard.refl law.tables).reserve _) ?_
        fun capped => (Nat.sub_le _ _).trans ((law.ahead_le capped).1 slot)
      rw [reserveOn_card law.tables]
      exact law.queuesOn used unqueued (fun p used unqueued => ⟨used, unqueued⟩) rfl (Nat.not_lt.1 covered)

theorem State.Laws.engineFundSponsor {sponsor amount : Nat} (law : s.Good cap (l :: hand)) (ready : s.restore.part = .ready) :
    (engineFundSponsor l sponsor amount s).Good cap hand := by
  unfold Machine.engineFundSponsor
  split
  next => exact law.refuse _
  next inRegion =>
    split
    next => exact law.refuse _
    next =>
      split
      next => exact law.fillReply _ _
      next room =>
        cases store : s.journal.store with
        | ok =>
          rw [acceptOffice_ok store]
          refine State.Laws.engineQueues (owner := .request l) law ready store nofun rfl rfl law.tables nofun nofun
            (fun _ _ => rfl) ?_ (fun _ => nofun) fun _ => ?_
          · rintro n ⟨⟩
            exact Nat.not_le.1 inRegion
          · rintro n ⟨⟩
            exact Nat.not_lt.1 room
        | fault =>
          rw [acceptOffice_fault store]
          exact law.refuse _

end

/-! ## CAPTURE (R54 to R57) -/

section
variable {cap : Prop} {hand : List Lane} {s : State} {l : Lane}

theorem engineQueues_mapHold (lane : Lane) (body : RecordBody) (owner : Owner) (k : Nat) (f : Hold → Hold) (s : State) :
    (engineQueues lane body owner s).mapEngine (fun e => e.mapHold k f) =
      engineQueues lane body owner (s.mapEngine fun e => e.mapHold k f) := by
  unfold engineQueues onNamed
  cases body.cardSlot <;> cases body.sponsor <;> rfl

/-- A LIVE hold becomes SETTLING, its record about to be queued. -/
theorem State.Laws.settle {handle : Nat} (law : s.Good cap hand) (live : s.engine.resolve handle = .live) :
    (s.mapEngine fun e => e.mapHold (handle % 512) fun h => { h with state := .settling }).Laws True cap [handle] hand := by
  obtain ⟨generation, state⟩ := (s.engine.resolve_eq_live handle).1 live
  have opened : (s.engine.hold (handle % 512)).state ≠ .free := by rw [state]; nofun
  have names : s.engine.handle (handle % 512) = handle := s.engine.handle_of_isOpen (.inl live)
  have unlisted : handle ∉ handlesOf s.inFlight := names ▸ law.live_unsettled state
  have here := Engine.hold_mapHold_same s.engine law.tables.2.2 (handle % 512) fun h => { h with state := .settling }
  have once := law.purse.settledOnce
  rw [List.append_nil] at once
  refine law.retouch (f := fun h => { h with state := .settling }) (d := s.deadlines) opened nofun rfl
    (fun apart => absurd rfl apart) law.holds.dueOnce
    (fun y => (law.holds.due_kept (e' := s.engine.mapHold (handle % 512) fun h => { h with state := .settling }) opened
      (by rw [here]) (by rw [here]) y).trans (by rw [here])) ?_ fun h => ?_
  · exact once.append (List.nodup_singleton handle) fun h mem own => unlisted (List.mem_singleton.1 own ▸ mem)
  · have settles := law.purse.settling h
    rw [List.append_nil] at settles
    rw [List.mem_append, List.mem_singleton, settles]
    by_cases same : h % 512 = handle % 512
    · rw [Engine.resolve_eq_settling, Engine.resolve_eq_settling, same, here, state]
      constructor
      · rintro (⟨-, ⟨⟩⟩ | rfl)
        exact ⟨generation, rfl⟩
      · rintro ⟨own, -⟩
        refine .inr ?_
        rw [← handleOf_div_mod h, ← handleOf_div_mod handle, same, ← own, generation]
    · rw [Engine.resolve_congr (s.engine.hold_mapHold_other same _)]
      refine or_iff_left ?_
      rintro rfl
      exact same rfl

theorem State.Laws.acceptCapture {handle amount : Nat} {final : Bool} (law : s.Good cap (l :: hand))
    (live : s.engine.resolve handle = .live) (ok : s.journal.store = .ok)
    (covered : amount ≤ (s.engine.hold (handle % 512)).allowanceShare + (s.engine.hold (handle % 512)).cashShare) :
    (acceptCapture l handle amount final s).Good cap hand := by
  obtain ⟨generation, state⟩ := (s.engine.resolve_eq_live handle).1 live
  have opened : (s.engine.hold (handle % 512)).state ≠ .free := by rw [state]; nofun
  have names : s.engine.handle (handle % 512) = handle := s.engine.handle_of_isOpen (.inl live)
  have inside := law.holds.slot_lt opened
  unfold Machine.acceptCapture
  dsimp only [handleSlot]
  rw [law.refresh_of_held opened, engineQueues_mapHold]
  have settled := law.settle live
  have here := Engine.hold_mapHold_same s.engine law.tables.2.2 (handle % 512) fun h => { h with state := .settling }
  have purse := law.purse.card (s.engine.hold (handle % 512)).cardSlot
  have listed : handle ∈ (s.engine.card (s.engine.hold (handle % 512)).cardSlot).holdList :=
    ((law.holds.purse _).2.2 handle).2 ⟨.inl live, rfl⟩
  have used := (purse.current (List.ne_nil_of_mem listed)).1
  have unqueued : (s.engine.card (s.engine.hold (handle % 512)).cardSlot).closeQueued = false := by
    by_contra queued
    obtain ⟨-, x, mem, c, closes⟩ := purse.closing (by simpa using queued)
    have found := law.purse.finds x mem _ (by rw [closes]; rfl)
    rw [closes] at found
    exact List.ne_nil_of_mem listed found.2.2
  generalize parts : (captureBody (s.engine.hold (handle % 512)) (min amount (s.engine.hold (handle % 512)).allowanceShare)
    (amount - min amount (s.engine.hold (handle % 512)).allowanceShare) s) = body
  have sponsorOf : body.sponsor = (s.engine.hold (handle % 512)).sponsor := by
    rw [← parts]
    change Option.map _ (Option.map _ _) = _
    rw [Option.map_map]
    exact Option.map_id'
  refine State.Laws.engineQueues (owner := .capture l handle final) settled
    (law.ready_of_open opened) ok nofun ?_ rfl settled.tables ?_ (fun slot own => ?_) (fun _ _ => rfl) (fun n own => ?_)
    (fun capped slot own => ?_) fun capped n own => ?_
  · rw [← parts]
    exact ⟨_, _, _, _, _, rfl⟩
  · rintro h ⟨⟩ slot c sp ap cp same
    change body = _ at same
    have inSlot : ((s.mapEngine fun e => e.mapHold (handle % 512) fun h => { h with state := .settling }).engine.hold
      (handleSlot handle)) = { s.engine.hold (handle % 512) with state := .settling } := here
    rw [inSlot]
    have ofSponsor : body.sponsor = sp.map SponsorAfter.sponsor := by rw [same]; rfl
    rw [← parts] at same
    injection same with slotEq _ _ apEq cpEq
    refine ⟨slotEq, sponsorOf.symm.trans ofSponsor, apEq ▸ min_le_right _ _, ?_⟩
    rw [← cpEq]
    dsimp only
    omega
  · rw [← parts] at own ⊢
    obtain rfl := Option.some.inj own
    exact settled.queuesOn (s := s.mapEngine fun e => e.mapHold (handle % 512) fun h => { h with state := .settling })
      used unqueued (fun p used unqueued => ⟨used, unqueued⟩) rfl (Nat.zero_le _)
  · exact law.purse.holdSponsors _ opened n (sponsorOf ▸ own)
  · rw [← parts]
    exact (Nat.sub_le _ _).trans ((law.ahead_le capped).1 slot)
  · rw [← parts]
    exact (Nat.sub_le _ _).trans ((law.ahead_le capped).2 n)

theorem State.Laws.engineCapture {handle amount final : Nat} (law : s.Good cap (l :: hand)) :
    (engineCapture l handle amount final s).Good cap hand := by
  unfold Machine.engineCapture
  split
  · exact law.refuse _
  · split
    · exact law.refuse _
    · split
      · exact law.refuse _
      next f _ =>
        unfold captureOnHold
        dsimp only
        split
        next => exact law.holdGone _
        next => exact law.holdGone _
        next => exact law.refuse _
        next live =>
          split
          · exact law.refuse _
          · split
            · exact law.fillReply _ _
            next covered =>
              split
              · exact law.refuse _
              next ok => exact law.acceptCapture live (by simpa [State.storeOk] using ok) (Nat.not_lt.1 covered)

end

/-! ## REVERSE (R70 to R76) -/

section
variable {cap : Prop} {hand : List Lane} {s : State} {l : Lane}

theorem reversalSponsor_lt {count n : Nat} {x : RingEntry} (found : reversalSponsor count x = some (some n)) : n < count := by
  unfold reversalSponsor at found
  split at found
  next => exact nomatch found
  next m _ =>
    split at found
    next inRegion =>
      obtain rfl := Option.some.inj (Option.some.inj found)
      exact inRegion
    next => split at found <;> exact nomatch found

theorem RecordBody.bounds_of_within {b : RecordBody} (within : b.withinBounds = true) :
    (∀ c, b.cardAfter = some c → c.cashBalance ≤ 2000000) ∧ ∀ a, b.sponsorAfter = some a → a.balance ≤ 100000000 := by
  unfold RecordBody.withinBounds at within
  rw [Bool.and_eq_true, Option.all_eq_true, Option.all_eq_true] at within
  exact ⟨fun c after => of_decide_eq_true (within.1 c after), fun a after => of_decide_eq_true (within.2 a after)⟩

theorem State.Laws.acceptReverse {x : RingEntry} {sponsor : Option Nat} (law : s.Good cap (l :: hand))
    (ready : s.restore.part = .ready) (used : (s.engine.card x.cardSlot).state ≠ .free)
    (unqueued : (s.engine.card x.cardSlot).closeQueued = false) (named : ∀ n, sponsor = some n → n < s.engine.sponsorCount) :
    (acceptReverse l x sponsor s).Good cap hand := by
  unfold Machine.acceptReverse
  dsimp only
  split
  next => exact law.refuse _
  next within =>
    split
    next => exact law.refuse _
    next ok =>
      have fresh := law.refresh x.cardSlot
      obtain ⟨-, -, state, -, queued, -⟩ := CardPurse.inPeriod_kept s.period.number s.engine.ranges (s.engine.card x.cardSlot)
      have card := refresh_card_same (slot := x.cardSlot) law.tables
      have count : (Machine.refresh x.cardSlot s).engine.sponsorCount = s.engine.sponsorCount := by rw [refresh_eq]
      generalize reversalBody_eq : reversalBody x sponsor (Machine.refresh x.cardSlot s) = body at within ⊢
      have sponsorOf : body.sponsor = sponsor := by
        rw [← reversalBody_eq]
        change Option.map _ (Option.map _ _) = _
        rw [Option.map_map]
        exact Option.map_id'
      refine State.Laws.engineQueues (owner := .reversal l x.receipt) fresh (by rw [refresh_eq]; exact ready)
        (by rw [refresh_eq]; simpa [State.storeOk] using ok) nofun ?_ rfl fresh.tables nofun (fun slot own => ?_)
        (fun _ _ => rfl) (fun n own => ?_) (fun _ slot own => ?_) fun _ n own => ?_
      · rw [← reversalBody_eq]
        exact ⟨_, _, _, _, _, _, rfl⟩
      · rw [← reversalBody_eq] at own ⊢
        obtain rfl := Option.some.inj own
        exact fresh.queuesOn (by rwa [card, state]) (by rwa [card, queued]) (fun p used unqueued => ⟨used, unqueued⟩) rfl
          (Nat.zero_le _)
      · rw [count]
        exact named n (sponsorOf ▸ own)
      · rw [← reversalBody_eq] at own within ⊢
        obtain rfl := Option.some.inj own
        have bound := (RecordBody.bounds_of_within (by simpa using within)).1 _ rfl
        rw [RecordBody.cardEffect_cash] at bound
        exact bound
      · obtain rfl := sponsorOf.symm.trans own
        rw [← reversalBody_eq] at within ⊢
        exact (RecordBody.bounds_of_within (by simpa using within)).2 _ rfl

theorem State.Laws.engineReverse {receipt : Nat} (law : s.Good cap (l :: hand)) (ready : s.restore.part = .ready) :
    (engineReverse l receipt s).Good cap hand := by
  unfold Machine.engineReverse
  split
  · exact law.refuse _
  · split
    · exact law.refuse _
    · split
      · exact law.refuse _
      next x _ =>
        unfold reverseEntry
        split
        · exact law.refuse _
        · split
          · exact law.refuse _
          · split
            · exact law.refuse _
            · split
              · exact law.refuse _
              · split
                · exact law.refuse _
                next usable =>
                  split
                  · exact law.refuse _
                  next sponsor found =>
                    have purse : s.engine.entryPurseOpen x = true := by simpa using usable
                    unfold Engine.entryPurseOpen at purse
                    simp only [Bool.and_eq_true, decide_eq_true_eq, Bool.not_eq_true'] at purse
                    obtain ⟨⟨⟨⟨-, -⟩, used⟩, -⟩, unqueued⟩ := purse
                    refine law.acceptReverse ready used unqueued ?_
                    rintro n rfl
                    exact reversalSponsor_lt found

end

end Sys2Proof.Machine
end

section
/-! PROOF. The laws as the engine takes the durable and the abandoned events of records. -/

namespace Sys2Proof.Machine

/-! ## What an event taken leaves in flight -/

section
variable {s : State} {x : JournalEvent} {rest : List JournalEvent}

theorem State.inFlight_of_events (events : s.engine.journalEvents = x :: rest) :
    s.inFlight = (x.record, x.owner) :: s.eventTaken.inFlight := by
  unfold State.inFlight State.eventTaken
  rw [events]
  rfl

theorem State.earlierRecords_eventTaken_of_durable {r : Record} {owner : Owner}
    (events : s.engine.journalEvents = .durable r owner :: rest) :
    s.earlierRecords = r :: s.eventTaken.earlierRecords := by
  unfold State.earlierRecords State.untakenRecords State.eventTaken
  rw [events]
  rfl

theorem State.earlierRecords_eventTaken_of_abandoned {r : Record} {owner : Owner}
    (events : s.engine.journalEvents = .abandoned r owner :: rest) : s.earlierRecords = s.eventTaken.earlierRecords := by
  unfold State.earlierRecords State.untakenRecords State.eventTaken
  rw [events]
  rfl

theorem State.earlierRecords_congr {t : State} (events : t.engine.journalEvents = s.engine.journalEvents)
    (journal : t.journal = s.journal) : t.earlierRecords = s.earlierRecords := by
  unfold State.earlierRecords State.untakenRecords
  rw [events, journal]

end

/-- The oldest durable record takes effect. -/
theorem Engine.Caps.takes {e e' : Engine} {r : Record} {records : List Record} (caps : e.Caps (r :: records))
    (card : ∀ slot, r.body.cardSlot = some slot →
      (e'.card slot).cashBalance = r.body.cashEffect (e.card slot).cashBalance)
    (cards : ∀ slot, r.body.cardSlot ≠ some slot → (e'.card slot).cashBalance = (e.card slot).cashBalance)
    (named : ∀ n, r.body.sponsor = some n → (e'.sponsor n).balance = r.body.sponsorEffect (e.sponsor n).balance)
    (sponsors : ∀ n, r.body.sponsor ≠ some n → (e'.sponsor n).balance = (e.sponsor n).balance) : e'.Caps records := by
  intro n
  obtain ⟨cash, balance⟩ := caps (n + 1)
  rw [List.take_succ_cons] at cash balance
  refine ⟨fun slot => ?_, fun m => ?_⟩
  · have bound := cash slot
    unfold cashThrough at bound ⊢
    rw [List.foldl_cons] at bound
    by_cases own : r.body.cardSlot = some slot
    · rwa [if_pos own, ← card slot own] at bound
    · rwa [if_neg own, ← cards slot own] at bound
  · have bound := balance m
    unfold sponsorThrough at bound ⊢
    rw [List.foldl_cons] at bound
    by_cases own : r.body.sponsor = some m
    · rwa [if_pos own, ← named m own] at bound
    · rwa [if_neg own, ← sponsors m own] at bound

/-! ## A record taken -/

section
variable {reported cap : Prop} {ex ex' : List Nat} {hand : List Lane} {s : State} {x : JournalEvent} {rest : List JournalEvent}
  {e : Engine}

/-- The engine takes an event whose record is none of Period Control's, and stands at `e`. -/
theorem State.Laws.takeEvent (law : s.Laws reported cap ex hand) (events : s.engine.journalEvents = x :: rest)
    (other : x.owner ≠ .periodControl) (queue : e.journalEvents = rest) (tables : e.Canonical)
    (holds : e.HoldLaw s.deadlines.list) (purse : e.PurseLaw s.period.number s.eventTaken.inFlight ex')
    (free : e.freeList = s.engine.freeList) (caps : cap → e.Caps s.eventTaken.earlierRecords) :
    ({ s with engine := e } : State).Laws reported cap ex' (x.owner.lane.toList ++ hand) := by
  have ready : s.restore.part = .ready := law.ready (.inr (.inr (.inr (by rw [events]; nofun))))
  have openHolds : e.openHolds = s.engine.openHolds := congrArg (512 - ·.length) free
  have left : e.journalEvents = s.eventTaken.engine.journalEvents := by
    rw [queue]
    unfold State.eventTaken
    rw [events]
    rfl
  have flight : ({ s with engine := e } : State).inFlight = s.eventTaken.inFlight := by
    unfold State.inFlight
    rw [left]
    rfl
  have before := State.inFlight_of_events events
  exact { law with
    tables := tables
    eventSuits := fun y mem => law.eventSuits y (by
      change y ∈ e.journalEvents at mem
      rw [events]
      exact List.mem_cons_of_mem x (queue ▸ mem))
    idle := fun unready => absurd ready unready
    restoring := fun restoring => absurd (ready.symm.trans restoring) nofun
    still := fun closing => openHolds.trans (law.still closing)
    closing := by
      have closing := law.closing
      rw [before, closesIn_cons, if_neg other, Nat.zero_add] at closing
      rw [flight]
      exact closing
    holds := holds
    purse := by
      rw [flight]
      exact purse
    owners := law.owners.of_waits (fun l => by
      rw [State.waits_eq, State.waits_eq, flight, before, lanesOf_cons, List.count_append, List.count_append]
      dsimp only
      omega) fun _ f owned => ⟨f, owned⟩
    caps := fun capped => by
      rw [State.earlierRecords_congr (s := s.eventTaken) (t := { s with engine := e }) left rfl]
      exact caps capped
    counted := fun told => (law.counted told).trans openHolds.symm
    freezing := fun told freezing => openHolds ▸ law.freezing told freezing }

/-- What differs between two engines is on the purses, the ring and the totals; an event may have been taken. -/
structure Engine.OnPurses (rest : List JournalEvent) (e e' : Engine) : Prop where
  holds : e'.holds = e.holds
  freeList : e'.freeList = e.freeList
  laneHolds : e'.laneHolds = e.laneHolds
  ranges : e'.ranges = e.ranges
  sponsorCount : e'.sponsorCount = e.sponsorCount
  journalEvents : e'.journalEvents = rest

/-- The engine takes an event of a record that is no durable capture. -/
theorem State.Laws.takeRecord (law : s.Laws reported cap ex hand) (events : s.engine.journalEvents = x :: rest)
    (other : x.owner ≠ .periodControl) (on : s.engine.OnPurses rest e) (tables : e.Canonical)
    (card : ∀ slot, x.record.body.cardSlot = some slot → (s.engine.card slot).Takes x.record.body (e.card slot))
    (cards : ∀ slot, x.record.body.cardSlot ≠ some slot → e.card slot = s.engine.card slot)
    (named : ∀ n, x.record.body.sponsor = some n → (e.sponsor n).held = (s.engine.sponsor n).held ∧
      (s.engine.sponsor n).balance ≤ (e.sponsor n).balance ∧
      (e.sponsor n).pendingRecords = (s.engine.sponsor n).pendingRecords - 1)
    (sponsors : ∀ n, x.record.body.sponsor ≠ some n → e.sponsor n = s.engine.sponsor n)
    (caps : cap → e.Caps s.eventTaken.earlierRecords) :
    ({ s with engine := e } : State).Laws reported cap (x.owner.handle.toList ++ ex) (x.owner.lane.toList ++ hand) := by
  have holds (j : Nat) : e.hold j = s.engine.hold j := by rw [Engine.hold, on.holds]; rfl
  have purse := law.purse
  rw [State.inFlight_of_events events] at purse
  refine law.takeEvent events other on.journalEvents tables (law.holds.of_same holds on.freeList on.laneHolds fun slot => ?_)
    (purse.take holds card cards (fun n own => ?_) sponsors on.ranges on.sponsorCount) on.freeList caps
  · by_cases own : x.record.body.cardSlot = some slot
    · exact (card slot own).holdList
    · rw [cards slot own]
  · obtain ⟨held, balance, pending⟩ := named n own
    exact ⟨held, (purse.sponsor n).balance.trans balance, pending⟩

theorem RecordBody.sponsorEffect_ge {b : RecordBody} (other : ∀ slot c sp ap cp, b ≠ .capture slot c sp ap cp) (balance : Nat) :
    balance ≤ b.sponsorEffect balance := by
  cases b with
  | capture => exact absurd rfl (other _ _ _ _ _)
  | reversal | fund => exact Nat.le_add_right _ _
  | topUp | withdraw | change | periodClose => exact Nat.le_refl _

theorem CardPurse.taking_cash (b : RecordBody) (p : CardPurse) :
    ((p.taking b).unreserve b).cashBalance = b.cashEffect p.cashBalance := by
  have kept : ((p.taking b).unreserve b).cashBalance = (p.taking b).cashBalance := by
    cases b with
    | change kind => cases kind <;> rfl
    | capture | reversal | topUp | withdraw | fund | periodClose => rfl
  exact kept.trans (b.cardEffect_cash p.after)

theorem CardPurse.dropping_cash (b : RecordBody) (p : CardPurse) : (p.dropPending.unreserve b).cashBalance = p.cashBalance := by
  cases b with
  | change kind => cases kind <;> rfl
  | capture | reversal | topUp | withdraw | fund | periodClose => rfl

/-- The engine takes the durable event of a record that is no capture. -/
theorem State.Laws.takeDurable {r : Record} {owner : Owner} (law : s.Laws reported cap ex hand)
    (events : s.engine.journalEvents = .durable r owner :: rest) (other : owner ≠ .periodControl)
    (nocapture : ∀ slot c sp ap cp, r.body ≠ .capture slot c sp ap cp) (on : s.engine.OnPurses rest e) (tables : e.Canonical)
    (card : ∀ slot, r.body.cardSlot = some slot → e.card slot = ((s.engine.card slot).taking r.body).unreserve r.body)
    (cards : ∀ slot, r.body.cardSlot ≠ some slot → e.card slot = s.engine.card slot)
    (named : ∀ n, r.body.sponsor = some n → e.sponsor n = (s.engine.sponsor n).taking r.body)
    (sponsors : ∀ n, r.body.sponsor ≠ some n → e.sponsor n = s.engine.sponsor n) :
    ({ s with engine := e } : State).Laws reported cap (owner.handle.toList ++ ex) (owner.lane.toList ++ hand) := by
  have purse := law.purse
  rw [State.inFlight_of_events events] at purse
  refine law.takeRecord (x := .durable r owner) events other on tables (fun slot own => ?_) cards (fun n own => ?_) sponsors
    fun capped => ?_
  · rw [card slot own]
    exact (purse.card slot).takes_durable own (purse.finds _ List.mem_cons_self slot own) nocapture
  · rw [named n own]
    exact ⟨rfl, RecordBody.sponsorEffect_ge nocapture _, rfl⟩
  · have caps := law.caps capped
    rw [State.earlierRecords_eventTaken_of_durable events] at caps
    refine caps.takes (fun slot own => ?_) (fun slot apart => ?_) (fun n own => ?_) fun n apart => ?_
    · rw [card slot own, CardPurse.taking_cash]
    · rw [cards slot apart]
    · rw [named n own]
      rfl
    · rw [sponsors n apart]

/-- The engine takes the abandoned event of a record. -/
theorem State.Laws.takeAbandoned {r : Record} {owner : Owner} (law : s.Laws reported cap ex hand)
    (events : s.engine.journalEvents = .abandoned r owner :: rest) (other : owner ≠ .periodControl)
    (on : s.engine.OnPurses rest e) (tables : e.Canonical)
    (card : ∀ slot, r.body.cardSlot = some slot → e.card slot = (s.engine.card slot).dropPending.unreserve r.body)
    (cards : ∀ slot, r.body.cardSlot ≠ some slot → e.card slot = s.engine.card slot)
    (named : ∀ n, r.body.sponsor = some n → e.sponsor n = (s.engine.sponsor n).dropPending)
    (sponsors : ∀ n, r.body.sponsor ≠ some n → e.sponsor n = s.engine.sponsor n) :
    ({ s with engine := e } : State).Laws reported cap (owner.handle.toList ++ ex) (owner.lane.toList ++ hand) := by
  have purse := law.purse
  rw [State.inFlight_of_events events] at purse
  refine law.takeRecord (x := .abandoned r owner) events other on tables (fun slot own => ?_) cards (fun n own => ?_) sponsors
    fun capped => ?_
  · rw [card slot own]
    exact (purse.card slot).takes_abandoned own (purse.finds _ List.mem_cons_self slot own)
  · rw [named n own]
    exact ⟨rfl, Nat.le_refl _, rfl⟩
  · have caps := law.caps capped
    rw [State.earlierRecords_eventTaken_of_abandoned events] at caps
    refine caps.of_balances (fun slot => ?_) fun n => ?_
    · by_cases own : r.body.cardSlot = some slot
      · rw [card slot own, CardPurse.dropping_cash]
      · rw [cards slot own]
    · by_cases own : r.body.sponsor = some n
      · rw [named n own]
        rfl
      · rw [sponsors n own]

end

/-! ## The refresh before a record's effect -/

section
variable {reported cap : Prop} {ex : List Nat} {hand : List Lane} {s : State} {b : RecordBody}

theorem refresh_eventTaken (slot : Nat) (s : State) : refresh slot s.eventTaken = (refresh slot s).eventTaken := by
  unfold refresh
  dsimp only
  rw [apply_ite State.eventTaken]
  rfl

theorem refreshNamed_eventTaken (b : RecordBody) (s : State) : refreshNamed b s.eventTaken = (refreshNamed b s).eventTaken := by
  unfold refreshNamed
  split
  · exact refresh_eventTaken _ s
  · rfl

theorem State.Laws.refreshNamed (law : s.Laws reported cap ex hand) (b : RecordBody) :
    (refreshNamed b s).Laws reported cap ex hand := by
  unfold Machine.refreshNamed
  split
  · exact law.refresh _
  · exact law

theorem refreshNamed_events (b : RecordBody) (s : State) :
    (refreshNamed b s).engine.journalEvents = s.engine.journalEvents := by
  unfold refreshNamed
  split
  · rw [refresh_engine]
  · rfl

theorem onNamed_frame (b : RecordBody) (fc : CardPurse → CardPurse) (fs : SponsorPurse → SponsorPurse) (s : State) :
    onNamed b fc fs s = { s with engine := (onNamed b fc fs s).engine } ∧
      s.engine.OnPurses s.engine.journalEvents (onNamed b fc fs s).engine := by
  rw [onNamed_eq]
  exact ⟨rfl, rfl, rfl, rfl, rfl, rfl, rfl⟩

theorem Engine.OnPurses.trans {e e' e'' : Engine} {rest rest' : List JournalEvent} (on : e.OnPurses rest e')
    (on' : e'.OnPurses rest' e'') : e.OnPurses rest' e'' :=
  ⟨on'.holds.trans on.holds, on'.freeList.trans on.freeList, on'.laneHolds.trans on.laneHolds, on'.ranges.trans on.ranges,
    on'.sponsorCount.trans on.sponsorCount, on'.journalEvents⟩

theorem State.eventTaken_onPurses {x : JournalEvent} {rest : List JournalEvent} (events : s.engine.journalEvents = x :: rest) :
    s.engine.OnPurses rest s.eventTaken.engine := by
  refine ⟨rfl, rfl, rfl, rfl, rfl, ?_⟩
  unfold State.eventTaken
  rw [events]
  rfl

end

/-! ## Office purse operations and reversals -/

section
variable {cap : Prop} {hand : List Lane} {s : State} {r : Record} {l : Lane} {rest : List JournalEvent}

/-- The engine after both passes over the purses a record names, an event taken. -/
theorem onNamed_twice {x : JournalEvent} (events : s.engine.journalEvents = x :: rest) (canonical : s.tablesCanonical)
    (b : RecordBody) (fc gc : CardPurse → CardPurse) (fs gs : SponsorPurse → SponsorPurse) :
    let t := onNamed b gc gs (onNamed b fc fs s.eventTaken)
    t = { s with engine := t.engine } ∧ s.engine.OnPurses rest t.engine ∧ t.engine.Canonical ∧
      (∀ slot, b.cardSlot = some slot → t.engine.card slot = gc (fc (s.engine.card slot))) ∧
      (∀ slot, b.cardSlot ≠ some slot → t.engine.card slot = s.engine.card slot) ∧
      (∀ n, b.sponsor = some n → t.engine.sponsor n = gs (fs (s.engine.sponsor n))) ∧
      ∀ n, b.sponsor ≠ some n → t.engine.sponsor n = s.engine.sponsor n := by
  have inner : (onNamed b fc fs s.eventTaken).tablesCanonical := onNamed_tablesCanonical canonical
  obtain ⟨frame, on⟩ := onNamed_frame b fc fs s.eventTaken
  obtain ⟨frame', on'⟩ := onNamed_frame b gc gs (onNamed b fc fs s.eventTaken)
  have events' := on.journalEvents.trans (State.eventTaken_onPurses events).journalEvents
  refine ⟨?_, ?_, onNamed_tablesCanonical inner, fun slot own => ?_, fun slot apart => ?_, fun n own => ?_, fun n apart => ?_⟩
  · generalize (onNamed b gc gs (onNamed b fc fs s.eventTaken)).engine = e at frame' ⊢
    rw [frame', frame]
    rfl
  · exact events' ▸ ((State.eventTaken_onPurses events).trans on).trans on'
  · rw [onNamed_card_named inner own, onNamed_card_named (s := s.eventTaken) canonical own]
    rfl
  · exact (onNamed_card_other apart).trans (onNamed_card_other apart)
  · rw [onNamed_sponsor_named inner own, onNamed_sponsor_named (s := s.eventTaken) canonical own]
    rfl
  · exact (onNamed_sponsor_other apart).trans (onNamed_sponsor_other apart)

theorem State.Laws.markClosed {reported : Prop} {ex : List Nat} (law : s.Laws reported cap ex hand) (b : RecordBody) :
    (markClosed b s).Laws reported cap ex hand := by
  unfold Machine.markClosed
  split
  · exact { law with
      holds := law.holds.of_same (fun _ => rfl) rfl rfl fun _ => rfl
      purse := law.purse.of_same (fun _ => rfl) (fun _ => rfl) (fun _ => rfl) rfl rfl }
  · exact law

theorem State.Laws.markReversal {reported : Prop} {ex : List Nat} (law : s.Laws reported cap ex hand) (receipt : Nat)
    (v : ReversalState) : (markReversal receipt v s).Laws reported cap ex hand :=
  { law with
    holds := law.holds.of_same (fun _ => rfl) rfl rfl fun _ => rfl
    purse := law.purse.of_same (fun _ => rfl) (fun _ => rfl) (fun _ => rfl) rfl rfl }

theorem State.Laws.countRecord {reported : Prop} {ex : List Nat} (law : s.Laws reported cap ex hand) (r : Record) :
    (countRecord r s).Laws reported cap ex hand :=
  { law with
    holds := law.holds.of_same (fun _ => rfl) rfl rfl fun _ => rfl
    purse := law.purse.of_same (fun _ => rfl) (fun _ => rfl) (fun _ => rfl) rfl rfl }

theorem State.Laws.takeOfficeDurable (law : s.Good cap hand) (events : s.engine.journalEvents = .durable r (.request l) :: rest)
    (office : r.body.isOffice = true) : (takeOfficeDurable r l s.eventTaken).Good cap hand := by
  have fresh := (law.refreshNamed r.body).refreshNamed r.body
  have events' := ((refreshNamed_events r.body _).trans (refreshNamed_events r.body s)).trans events
  obtain ⟨frame, on, canonical, card, cards, named, sponsors⟩ := onNamed_twice events' fresh.tables r.body
    (CardPurse.taking r.body) (CardPurse.unreserve r.body) (SponsorPurse.taking r.body) id
  have nocapture (slot : Nat) (c : CardAfter) (sp : Option SponsorAfter) (ap cp : Nat) :
      r.body ≠ .capture slot c sp ap cp := by
    intro body
    rw [body] at office
    exact nomatch office
  unfold Machine.takeOfficeDurable
  dsimp only
  refine State.Laws.fillReply ?_ _ _
  refine State.Laws.markClosed (State.Laws.countRecord ?_ r) r.body
  unfold unreserve applyRecord
  rw [refreshNamed_eventTaken, refreshNamed_eventTaken, frame]
  exact fresh.takeDurable events' nofun nocapture on canonical card cards named sponsors

theorem State.Laws.takeOfficeAbandoned (law : s.Good cap hand)
    (events : s.engine.journalEvents = .abandoned r (.request l) :: rest) : (takeOfficeAbandoned r l s.eventTaken).Good cap hand := by
  obtain ⟨frame, on, canonical, card, cards, named, sponsors⟩ := onNamed_twice events law.tables r.body
    CardPurse.dropPending (CardPurse.unreserve r.body) SponsorPurse.dropPending id
  unfold Machine.takeOfficeAbandoned
  refine State.Laws.refuse ?_ _
  unfold unreserve forgetRecord
  rw [frame]
  exact law.takeAbandoned events nofun on canonical card cards named sponsors

/-- The purses a record names, changed once, an event taken. -/
theorem onNamed_once {x : JournalEvent} (events : s.engine.journalEvents = x :: rest) (canonical : s.tablesCanonical)
    (b : RecordBody) (fc : CardPurse → CardPurse) (fs : SponsorPurse → SponsorPurse) :
    let t := onNamed b fc fs s.eventTaken
    t = { s with engine := t.engine } ∧ s.engine.OnPurses rest t.engine ∧ t.engine.Canonical ∧
      (∀ slot, b.cardSlot = some slot → t.engine.card slot = fc (s.engine.card slot)) ∧
      (∀ slot, b.cardSlot ≠ some slot → t.engine.card slot = s.engine.card slot) ∧
      (∀ n, b.sponsor = some n → t.engine.sponsor n = fs (s.engine.sponsor n)) ∧
      ∀ n, b.sponsor ≠ some n → t.engine.sponsor n = s.engine.sponsor n := by
  obtain ⟨frame, on⟩ := onNamed_frame b fc fs s.eventTaken
  have taken := State.eventTaken_onPurses events
  refine ⟨?_, taken.journalEvents ▸ taken.trans on, onNamed_tablesCanonical canonical, fun slot own => ?_, fun slot apart => ?_,
    fun n own => ?_, fun n apart => ?_⟩
  · generalize (onNamed b fc fs s.eventTaken).engine = e at frame ⊢
    rw [frame]
    rfl
  · exact onNamed_card_named (s := s.eventTaken) canonical own
  · exact onNamed_card_other apart
  · exact onNamed_sponsor_named (s := s.eventTaken) canonical own
  · exact onNamed_sponsor_other apart

theorem State.Laws.takeReversalDurable {ap cp slot ap' cp' receipt receipt' : Nat} {back back' : Bool} {c : CardAfter}
    {sp : Option SponsorAfter} (law : s.Good cap hand)
    (events : s.engine.journalEvents = .durable r (.reversal l receipt) :: rest)
    (body : r.body = .reversal slot c sp ap' cp' receipt' back') :
    (takeReversalDurable r ap cp back l receipt s.eventTaken).Good cap hand := by
  have fresh := law.refreshNamed r.body
  have events' := (refreshNamed_events r.body s).trans events
  obtain ⟨frame, on, canonical, card, cards, named, sponsors⟩ := onNamed_once events' fresh.tables r.body
    (CardPurse.taking r.body) (SponsorPurse.taking r.body)
  unfold Machine.takeReversalDurable
  refine State.Laws.fillReply (State.Laws.markReversal (State.Laws.countRecord ?_ r) _ _) _ _
  unfold applyRecord
  rw [refreshNamed_eventTaken, frame]
  refine fresh.takeDurable events' nofun (fun _ _ _ _ _ same => nomatch body.symm.trans same) on canonical
    (fun slot own => (card slot own).trans ?_) cards named sponsors
  rw [body]
  rfl

theorem State.Laws.takeReversalAbandoned {receipt : Nat} (law : s.Good cap hand)
    (events : s.engine.journalEvents = .abandoned r (.reversal l receipt) :: rest) :
    (takeReversalAbandoned r l receipt s.eventTaken).Good cap hand := by
  obtain ⟨slot, c, sp, ap, cp, back, body⟩ := law.eventSuits _ (events ▸ List.mem_cons_self)
  change r.body = _ at body
  obtain ⟨frame, on, canonical, card, cards, named, sponsors⟩ := onNamed_once events law.tables r.body
    CardPurse.dropPending SponsorPurse.dropPending
  unfold Machine.takeReversalAbandoned
  refine State.Laws.refuse (State.Laws.markReversal ?_ _ _) _
  unfold forgetRecord
  rw [frame]
  refine law.takeAbandoned events nofun on canonical (fun slot own => (card slot own).trans ?_) cards named sponsors
  rw [body]
  rfl

end

end Sys2Proof.Machine
end

section
/-! PROOF. The laws as the engine takes the events of CAPTURE and of PERIOD_CLOSE records, and as Period Control takes a close's end. -/

namespace Sys2Proof.Machine

/-! ## CAPTURE records (R59 to R64) -/

section
variable {cap : Prop} {hand : List Lane} {s : State} {r : Record} {l : Lane} {rest : List JournalEvent} {handle : Nat}
  {final : Bool}

/-- A durable capture is charged to its hold and its purses; the hold's settlement is still to end. -/
theorem State.Laws.charge {slot ap cp period : Nat} {c : CardAfter} {sp : Option SponsorAfter} (law : s.Good cap hand)
    (events : s.engine.journalEvents = .durable r (.capture l handle final) :: rest)
    (body : r.body = .capture slot c sp ap cp) :
    ((s.eventTaken.charged r period ap cp).mapEngine fun e =>
      e.mapHold (handle % 512) (Hold.charged r.sequence ap cp)).Laws True cap [handle] (l :: hand) := by
  generalize view : (s.eventTaken.charged r period ap cp) = u
  have fresh := law.refresh slot
  have events' : (Machine.refresh slot s).engine.journalEvents = .durable r (.capture l handle final) :: rest := by
    rw [refresh_engine]
    exact events
  have frame : u = { Machine.refresh slot s with engine := { (Machine.refresh slot s).engine with
      cards := u.engine.cards, sponsors := u.engine.sponsors, totals := u.engine.totals, ring := u.engine.ring,
      journalEvents := rest } } := by
    have charged := State.charged_eq (s := s.eventTaken) (period := period) body
    rw [view] at charged
    have taken : s.engine.journalEvents.tail = rest := by rw [events]; rfl
    generalize u.engine.cards = cards, u.engine.sponsors = sponsors at charged ⊢
    subst charged taken
    rw [refresh_eq]
    rfl
  have canonical : u.tablesCanonical := view ▸ State.charged_tablesCanonical (s := s.eventTaken) body law.tables
  have card : u.engine.card slot = { (Machine.refresh slot s).engine.card slot with
      allowanceRemaining := ((Machine.refresh slot s).engine.card slot).allowanceRemaining - ap,
      allowanceHeld := ((Machine.refresh slot s).engine.card slot).allowanceHeld - ap,
      cashBalance := ((Machine.refresh slot s).engine.card slot).cashBalance - cp,
      cashHeld := ((Machine.refresh slot s).engine.card slot).cashHeld - cp,
      spent := min 4294967295 (((Machine.refresh slot s).engine.card slot).spent + (ap + cp)),
      pendingRecords := ((Machine.refresh slot s).engine.card slot).pendingRecords - 1 } := by
    rw [← view]
    exact State.charged_card (s := s.eventTaken) body law.tables (by rw [refresh_eventTaken]; rfl)
  have cards (j : Nat) (other : j ≠ slot) : u.engine.card j = (Machine.refresh slot s).engine.card j := by
    rw [← view, refresh_card_other other]
    exact State.charged_card_other (s := s.eventTaken) body other
  have named (n : Nat) (own : sp.map SponsorAfter.sponsor = some n) : u.engine.sponsor n =
      { (Machine.refresh slot s).engine.sponsor n with
        balance := ((Machine.refresh slot s).engine.sponsor n).balance - ap, held := ((Machine.refresh slot s).engine.sponsor n).held - ap,
        pendingRecords := ((Machine.refresh slot s).engine.sponsor n).pendingRecords - 1 } := by
    obtain ⟨a, paying, rfl⟩ := Option.map_eq_some_iff.1 own
    rw [← view, refresh_sponsor]
    exact State.charged_sponsor (s := s.eventTaken) body law.tables paying
  have sponsors (n : Nat) (other : sp.map SponsorAfter.sponsor ≠ some n) :
      u.engine.sponsor n = (Machine.refresh slot s).engine.sponsor n := by
    rw [← view, refresh_sponsor]
    exact State.charged_sponsor_other (s := s.eventTaken) body other
  clear view
  have inFlight := State.inFlight_of_events events'
  have purse := fresh.purse
  rw [inFlight] at purse
  have bodySlot : r.body.cardSlot = some slot := by rw [body]; rfl
  have bodySponsor : r.body.sponsor = sp.map SponsorAfter.sponsor := by rw [body]; rfl
  have settling := purse.flight_settling List.mem_cons_self (h := handle) rfl
  obtain ⟨generation, state⟩ := (Engine.resolve_eq_settling _ _).1 settling
  have opened : ((Machine.refresh slot s).engine.hold (handle % 512)).state ≠ .free := by rw [state]; nofun
  have same (j : Nat) : u.engine.hold j = (Machine.refresh slot s).engine.hold j := by rw [frame]; rfl
  have here := Engine.hold_mapHold_same u.engine canonical.2.2 (handle % 512) (Hold.charged r.sequence ap cp)
  rw [same] at here
  have others (j : Nat) (other : j ≠ handle % 512) :
      (u.engine.mapHold (handle % 512) (Hold.charged r.sequence ap cp)).hold j = (Machine.refresh slot s).engine.hold j :=
    (Engine.hold_mapHold_other u.engine other _).trans (same j)
  have lists (j : Nat) : (u.engine.card j).holdList = ((Machine.refresh slot s).engine.card j).holdList := by
    by_cases own : j = slot
    · rw [own, card]
    · rw [cards j own]
  have holds := fresh.holds.retouch (e' := u.engine.mapHold (handle % 512) (Hold.charged r.sequence ap cp)) opened
    (by rwa [here]) (by rw [here]; rfl) (by rw [here]; rfl) (by rw [here]; rfl) others (by rw [frame]; rfl)
    (by rw [frame]; rfl) lists (by rw [here]; exact fun apart => absurd state apart) fresh.holds.dueOnce
    (fresh.holds.due_kept (e' := u.engine.mapHold (handle % 512) (Hold.charged r.sequence ap cp)) opened (by rw [here]; rfl)
      (by rw [here]; rfl))
  have charged := purse.charge (e' := u.engine.mapHold (handle % 512) (Hold.charged r.sequence ap cp)) (handle := handle)
    (k := handle % 512) fresh.holds body rfl rfl (by rw [here]; rfl)
    (by rw [here]; rfl) (by rw [here]; rfl) (by rw [here]; rfl) (by rw [here]; rfl) others card cards named sponsors
    (by rw [frame]; rfl) (by rw [frame]; rfl)
  have all := fresh.takeEvent (e := u.engine.mapHold (handle % 512) (Hold.charged r.sequence ap cp)) events' nofun
    (by rw [frame]; rfl) ⟨canonical.1, canonical.2.1, Table.wf_put _ _ canonical.2.2⟩ holds charged (by rw [frame]; rfl)
    fun capped => ?_
  · have done : (u.mapEngine fun e => e.mapHold (handle % 512) (Hold.charged r.sequence ap cp)) =
        { Machine.refresh slot s with engine := u.engine.mapHold (handle % 512) (Hold.charged r.sequence ap cp) } := by
      generalize u.engine.cards = cards, u.engine.sponsors = sponsors, u.engine.totals = totals, u.engine.ring = ring at frame
      rw [frame]
      rfl
    rw [done]
    exact all
  · have caps := fresh.caps capped
    rw [State.earlierRecords_eventTaken_of_durable events'] at caps
    refine caps.takes (fun j own => ?_) (fun j apart => ?_) (fun n own => ?_) fun n apart => ?_
    · obtain rfl : slot = j := Option.some.inj (bodySlot.symm.trans own)
      have balance := congrArg CardPurse.cashBalance card
      rw [body]
      exact balance
    · exact congrArg CardPurse.cashBalance (cards j fun own => apart (own ▸ bodySlot))
    · have balance := congrArg SponsorPurse.balance (named n (bodySponsor.symm.trans own))
      rw [body]
      exact balance
    · exact congrArg SponsorPurse.balance (sponsors n (bodySponsor ▸ apart))

theorem State.Laws.checkSponsorLow {reported : Prop} {ex : List Nat} (law : s.Laws reported cap ex hand) (b : RecordBody) (ap : Nat) :
    (checkSponsorLow b ap s).Laws reported cap ex hand := by
  unfold Machine.checkSponsorLow
  split
  · split
    · exact law.raiseFlag _
    · exact law
  · exact law

theorem State.Laws.takeCaptureDurable {slot ap cp : Nat} {c : CardAfter} {sp : Option SponsorAfter} (law : s.Good cap hand)
    (events : s.engine.journalEvents = .durable r (.capture l handle final) :: rest)
    (body : r.body = .capture slot c sp ap cp) :
    (takeCaptureDurable r ap cp l handle final s.eventTaken).Good cap hand := by
  have charged := law.charge (period := (s.eventTaken.engine.hold (handleSlot handle)).period) events body
  have canonical := State.charged_tablesCanonical (s := s.eventTaken)
    (period := (s.eventTaken.engine.hold (handleSlot handle)).period) body law.tables
  have settles := settleHold_eq (handle := handle) (receipt := r.sequence) (ap := ap) (cp := cp) (final := final) canonical rfl
  unfold Machine.takeCaptureDurable
  refine State.Laws.fillReply (State.Laws.checkSponsorLow ?_ _ _) _ _
  refine settles ▸ ?_
  unfold State.settled
  split
  · exact charged.endSettled _
  · exact charged.settlementEnds trivial

theorem State.Laws.takeCaptureAbandoned (law : s.Good cap hand)
    (events : s.engine.journalEvents = .abandoned r (.capture l handle final) :: rest) :
    (takeCaptureAbandoned r l handle s.eventTaken).Good cap hand := by
  obtain ⟨slot, c, sp, ap, cp, body⟩ := law.eventSuits _ (events ▸ List.mem_cons_self)
  change r.body = _ at body
  obtain ⟨frame, on, canonical, card, cards, named, sponsors⟩ := onNamed_once events law.tables r.body
    CardPurse.dropPending SponsorPurse.dropPending
  unfold Machine.takeCaptureAbandoned
  refine State.Laws.fillReply (State.Laws.settlementEnds ?_ trivial) _ _
  unfold forgetRecord
  rw [frame]
  refine law.takeAbandoned events nofun on canonical (fun slot own => (card slot own).trans ?_) cards named sponsors
  rw [body]
  rfl

end

/-! ## The events taken -/

section
variable {cap : Prop} {s : State}

/-- The engine takes its oldest event when the command names it, and nothing happens otherwise. -/
theorem takeJournalEvent_leads {P : State → Prop} {act : JournalEvent → Option (State → State)}
    (released : s.restore.inReset = false) (kept : P s)
    (acts : ∀ x rest f, s.engine.journalEvents = x :: rest → act x = some f → P (f s.eventTaken)) :
    Leads P (takeJournalEvent act s) := by
  unfold takeJournalEvent
  rw [event_of_released released]
  refine .next ?_
  split
  next x rest events =>
    split
    next f found =>
      have taken : s.eventTaken = s.mapEngine fun e => { e with journalEvents := rest } := by
        unfold State.eventTaken
        rw [events]
        rfl
      exact taken ▸ acts x rest f events found
    next => exact kept
  next => exact kept

theorem State.Laws.execCaptureDurable (law : s.Good cap []) (released : s.restore.inReset = false) (sequence : Nat) :
    Leads (·.Good cap []) (execCaptureDurable sequence s) := by
  refine takeJournalEvent_leads released law fun x rest f events found => ?_
  split at found
  next r l handle final =>
    split at found
    next =>
      split at found
      next body =>
        obtain rfl := Option.some.inj found
        exact law.takeCaptureDurable events body
      next => exact nomatch found
    next => exact nomatch found
  next => exact nomatch found

theorem State.Laws.execCaptureAbandoned (law : s.Good cap []) (released : s.restore.inReset = false) (sequence : Nat) :
    Leads (·.Good cap []) (execCaptureAbandoned sequence s) := by
  refine takeJournalEvent_leads released law fun x rest f events found => ?_
  split at found
  next r l handle final =>
    split at found
    next =>
      obtain rfl := Option.some.inj found
      exact law.takeCaptureAbandoned events
    next => exact nomatch found
  next => exact nomatch found

theorem State.Laws.execReversalDurable (law : s.Good cap []) (released : s.restore.inReset = false) (sequence : Nat) :
    Leads (·.Good cap []) (execReversalDurable sequence s) := by
  refine takeJournalEvent_leads released law fun x rest f events found => ?_
  split at found
  next r l receipt =>
    split at found
    next =>
      split at found
      next body =>
        obtain rfl := Option.some.inj found
        exact law.takeReversalDurable events body
      next => exact nomatch found
    next => exact nomatch found
  next => exact nomatch found

theorem State.Laws.execReversalAbandoned (law : s.Good cap []) (released : s.restore.inReset = false) (sequence : Nat) :
    Leads (·.Good cap []) (execReversalAbandoned sequence s) := by
  refine takeJournalEvent_leads released law fun x rest f events found => ?_
  split at found
  next r l receipt =>
    split at found
    next =>
      obtain rfl := Option.some.inj found
      exact law.takeReversalAbandoned events
    next => exact nomatch found
  next => exact nomatch found

theorem State.Laws.execOfficeRecordDurable (law : s.Good cap []) (released : s.restore.inReset = false) (sequence : Nat) :
    Leads (·.Good cap []) (execOfficeRecordDurable sequence s) := by
  refine takeJournalEvent_leads released law fun x rest f events found => ?_
  split at found
  next r l =>
    split at found
    next named =>
      obtain rfl := Option.some.inj found
      exact law.takeOfficeDurable events named.2
    next => exact nomatch found
  next => exact nomatch found

theorem State.Laws.execOfficeRecordAbandoned (law : s.Good cap []) (released : s.restore.inReset = false) (sequence : Nat) :
    Leads (·.Good cap []) (execOfficeRecordAbandoned sequence s) := by
  refine takeJournalEvent_leads released law fun x rest f events found => ?_
  split at found
  next r l =>
    split at found
    next =>
      obtain rfl := Option.some.inj found
      exact law.takeOfficeAbandoned events
    next => exact nomatch found
  next => exact nomatch found

end

/-! ## The end of a close (R117, R118) -/

section
variable {cap : Prop} {s : State} {x : JournalEvent} {rest : List JournalEvent} {p : PeriodControl} {e : Engine}

/-- The engine takes the event of a PERIOD_CLOSE record, and Period Control has its end: no record names a purse for it. -/
theorem State.Laws.takeClose (law : s.Good cap []) (events : s.engine.journalEvents = x :: rest)
    (control : x.owner = .periodControl) (on : s.engine.OnPurses rest e) (cards : e.cards = s.engine.cards)
    (sponsors : e.sponsors = s.engine.sponsors) (ended : p.closeEnd ≠ none) (number : p.number = s.period.number)
    (state : p.state = s.period.state) (count : p.holdCount = s.period.holdCount) :
    ({ s with engine := e, period := p } : State).Good cap [] := by
  have ready : s.restore.part = .ready := law.ready (.inr (.inr (.inr (by rw [events]; nofun))))
  have openHolds : e.openHolds = s.engine.openHolds := congrArg (512 - ·.length) on.freeList
  have left : e.journalEvents = s.eventTaken.engine.journalEvents := by
    rw [on.journalEvents]
    unfold State.eventTaken
    rw [events]
    rfl
  have flight : ({ s with engine := e, period := p } : State).inFlight = s.eventTaken.inFlight := by
    unfold State.inFlight
    rw [left]
    rfl
  have before := State.inFlight_of_events events
  obtain ⟨origin, time, figures, body⟩ : ∃ origin clock figures, x.record.body = .periodClose origin clock figures := by
    have suits := law.eventSuits x (events ▸ List.mem_cons_self)
    rwa [control] at suits
  have closing := law.closing
  rw [before, closesIn_cons, if_pos control] at closing
  have holds (j : Nat) : e.hold j = s.engine.hold j := by rw [Engine.hold, on.holds]; rfl
  have cardSame (j : Nat) : e.card j = s.engine.card j := by rw [Engine.card, cards]; rfl
  have sponsorSame (n : Nat) : e.sponsor n = s.engine.sponsor n := by rw [Engine.sponsor, sponsors]; rfl
  have purse := law.purse
  rw [before] at purse
  have taken := purse.take (e' := e) holds (by rw [body]; nofun) (fun j _ => cardSame j) (by rw [body]; nofun)
    (fun n _ => sponsorSame n) on.ranges on.sponsorCount
  rw [control] at taken
  exact { law with
    tables := ⟨cards ▸ law.tables.1, sponsors ▸ law.tables.2.1, on.holds ▸ law.tables.2.2⟩
    eventSuits := fun y mem => law.eventSuits y (by
      change y ∈ e.journalEvents at mem
      rw [events]
      exact List.mem_cons_of_mem x (on.journalEvents ▸ mem))
    idle := fun unready => absurd ready unready
    restoring := fun restoring => absurd (ready.symm.trans restoring) nofun
    still := fun closing => openHolds.trans (law.still (state ▸ closing))
    closing := by
      rw [flight, if_neg ended]
      have running : s.period.state = .closeWrite := by
        by_contra apart
        rw [if_neg apart] at closing
        omega
      rw [if_pos running] at closing
      rw [if_pos (state.trans running)]
      omega
    holds := law.holds.of_same holds on.freeList on.laneHolds fun j => by rw [cardSame]
    purse := by
      rw [flight]
      dsimp only
      rw [number]
      exact taken
    owners := law.owners.of_waits (fun l => by
      rw [State.waits_eq, State.waits_eq, flight, before, lanesOf_cons, List.count_append]
      dsimp only
      omega) fun _ f owned => ⟨f, owned⟩
    caps := fun capped => by
      have caps := law.caps capped
      have earlier : s.earlierRecords = s.eventTaken.earlierRecords ∨ ∃ r, r.body = .periodClose origin time figures ∧
          s.earlierRecords = r :: s.eventTaken.earlierRecords := by
        cases x with
        | durable r owner => exact .inr ⟨r, body, State.earlierRecords_eventTaken_of_durable events⟩
        | abandoned r owner => exact .inl (State.earlierRecords_eventTaken_of_abandoned events)
      rw [State.earlierRecords_congr (s := s.eventTaken) (t := { s with engine := e, period := p }) left rfl]
      obtain same | ⟨r, close, same⟩ := earlier
      · rw [same] at caps
        exact caps.of_balances (fun j => by rw [cardSame]) fun n => by rw [sponsorSame]
      · rw [same] at caps
        exact caps.takes (by rw [close]; nofun) (fun j _ => by rw [cardSame]) (by rw [close]; nofun)
          fun n _ => by rw [sponsorSame]
    counted := fun told => count.trans ((law.counted told).trans openHolds.symm)
    freezing := fun told freezing => openHolds ▸ law.freezing told (state ▸ freezing) }

theorem takeCloseEvent_leads {P : State → Prop} {wanted : JournalEvent → Option Record} {sequence : Nat} {act : State → State}
    (released : s.restore.inReset = false) (kept : P s)
    (acts : ∀ x rest r, s.engine.journalEvents = x :: rest → wanted x = some r → P (act s.eventTaken)) :
    Leads P (takeCloseEvent wanted sequence act s) := by
  unfold takeCloseEvent
  rw [event_of_released released]
  refine .next ?_
  split
  next x rest events =>
    split
    next r found =>
      split
      · have taken : s.eventTaken = s.mapEngine fun e => { e with journalEvents := rest } := by
          unfold State.eventTaken
          rw [events]
          rfl
        exact taken ▸ acts x rest r events found
      · exact kept
    next => exact kept
  next => exact kept

theorem State.Laws.execPeriodCloseDurable (law : s.Good cap []) (released : s.restore.inReset = false) (sequence : Nat) :
    Leads (·.Good cap []) (execPeriodCloseDurable sequence s) := by
  refine takeCloseEvent_leads released law fun x rest r events found => ?_
  split at found
  next r' =>
    obtain ⟨holds, free, lanes, ranges, count, left⟩ := State.eventTaken_onPurses events
    exact law.takeClose (e := (closeTotals s.eventTaken).engine) (p := (closeTotals s.eventTaken).period) events rfl
      ⟨holds, free, lanes, ranges, count, left⟩ rfl rfl nofun rfl rfl rfl
  next => exact nomatch found

theorem State.Laws.execPeriodCloseAbandoned (law : s.Good cap []) (released : s.restore.inReset = false) (sequence : Nat) :
    Leads (·.Good cap []) (execPeriodCloseAbandoned sequence s) := by
  refine takeCloseEvent_leads released law fun x rest r events found => ?_
  split at found
  next r' =>
    exact law.takeClose (p := { s.period with closeEnd := some .abandoned }) events rfl (State.eventTaken_onPurses events) rfl rfl
      nofun rfl rfl rfl
  next => exact nomatch found

/-- While the end of a close is on its way, Period Control is in CLOSE_WRITE, and no close is in flight. -/
theorem State.Laws.ending (law : s.Good cap []) (ended : s.period.closeEnd ≠ none) :
    s.period.state = .closeWrite ∧ closesIn s.inFlight = 0 ∧ s.engine.openHolds = 0 := by
  have closing := law.closing
  rw [if_neg ended] at closing
  have state : s.period.state = .closeWrite := by
    by_contra running
    rw [if_neg running] at closing
    omega
  rw [if_pos state] at closing
  exact ⟨state, by omega, law.still state⟩

theorem State.Laws.execPeriodAdvance (law : s.Good cap []) (released : s.restore.inReset = false) :
    Leads (·.Good cap []) (execPeriodAdvance s) := by
  unfold Machine.execPeriodAdvance
  rw [event_of_released released]
  refine .next ?_
  split
  next ended =>
    obtain ⟨state, noClose, noHold⟩ := law.ending (by rw [ended]; nofun)
    have ready : s.restore.part = .ready := law.ready (.inr (.inl (by rw [state]; nofun)))
    refine State.Laws.raiseFlag (s := s.mapPeriod fun p =>
      { p with number := nextPeriod p.number, state := .opened, origin := none, closeEnd := none }) { law with
        idle := fun unready => absurd ready unready
        still := nofun
        closing := noClose
        purse := law.purse.withNumber (law.holds.emptyLists noHold) _
        freezing := fun _ => nofun } .periodClosed
  next => exact law

theorem State.Laws.execCloseFailed (law : s.Good cap []) (released : s.restore.inReset = false) :
    Leads (·.Good cap []) (execCloseFailed s) := by
  unfold Machine.execCloseFailed
  rw [event_of_released released]
  refine .next ?_
  split
  next ended =>
    obtain ⟨state, noClose, noHold⟩ := law.ending (by rw [ended]; nofun)
    have ready : s.restore.part = .ready := law.ready (.inr (.inl (by rw [state]; nofun)))
    refine State.Laws.raiseFlag (s := s.mapPeriod fun p => { p with state := .opened, origin := none, closeEnd := none }) { law with
        idle := fun unready => absurd ready unready
        still := nofun
        closing := noClose
        freezing := fun _ => nofun } .closeFailed
  next => exact law

end

end Sys2Proof.Machine
end

section
/-! PROOF. The laws as time passes and periods close: the tick, the clock of day, the start of a close, the drain, and the events of
deadlines and lost lanes. -/

namespace Sys2Proof.Machine

/-! ## What the laws do not tell -/

section
variable {reported cap : Prop} {ex : List Nat} {hand : List Lane} {s : State}

/-- A change at the engine that no law tells of. -/
theorem State.Laws.quietEngine {e : Engine} (law : s.Laws reported cap ex hand)
    (on : s.engine.OnPurses s.engine.journalEvents e) (cards : e.cards = s.engine.cards)
    (sponsors : e.sponsors = s.engine.sponsors) : ({ s with engine := e } : State).Laws reported cap ex hand := by
  have holds (j : Nat) : e.hold j = s.engine.hold j := by rw [Engine.hold, on.holds]; rfl
  have card (j : Nat) : e.card j = s.engine.card j := by rw [Engine.card, cards]; rfl
  have sponsor (n : Nat) : e.sponsor n = s.engine.sponsor n := by rw [Engine.sponsor, sponsors]; rfl
  have openHolds : e.openHolds = s.engine.openHolds := congrArg (512 - ·.length) on.freeList
  have flight : ({ s with engine := e } : State).inFlight = s.inFlight := by
    unfold State.inFlight
    rw [on.journalEvents]
  exact { law with
    tables := ⟨cards ▸ law.tables.1, sponsors ▸ law.tables.2.1, on.holds ▸ law.tables.2.2⟩
    eventSuits := fun x mem => law.eventSuits x (on.journalEvents ▸ mem)
    idle := fun unready => by
      obtain ⟨none, rest⟩ := law.idle unready
      refine ⟨openHolds.trans none, ?_⟩
      dsimp only
      rw [on.journalEvents]
      exact rest
    restoring := fun restoring => by
      dsimp only
      rw [cards, sponsors]
      exact law.restoring restoring
    still := fun closing => openHolds.trans (law.still closing)
    closing := by
      rw [flight]
      exact law.closing
    holds := law.holds.of_same holds on.freeList on.laneHolds fun j => by rw [card]
    purse := by
      rw [flight]
      exact law.purse.of_same holds card sponsor on.ranges on.sponsorCount
    owners := law.owners.of_waits (fun l => by rw [State.waits_eq, State.waits_eq, flight]) fun _ f owned => ⟨f, owned⟩
    caps := fun capped => by
      rw [State.earlierRecords_congr (s := s) (t := { s with engine := e }) on.journalEvents rfl]
      exact (law.caps capped).of_balances (fun j => by rw [card]) fun n => by rw [sponsor]
    counted := fun told => (law.counted told).trans openHolds.symm
    freezing := fun told freezing => openHolds ▸ law.freezing told freezing }

/-- A change at Period Control that the laws do not tell of, but for the clock of a READY part. -/
theorem State.Laws.quietPeriod {p : PeriodControl} (law : s.Laws reported cap ex hand) (number : p.number = s.period.number)
    (state : p.state = s.period.state) (count : p.holdCount = s.period.holdCount) (ended : p.closeEnd = s.period.closeEnd)
    (clock : s.restore.part = .ready ∨ (s.period.clock = none → p.clock = none)) :
    ({ s with period := p } : State).Laws reported cap ex hand :=
  { law with
    idle := fun unready => by
      obtain ⟨none, opened, queue, events, stands⟩ := law.idle unready
      exact ⟨none, state.trans opened, queue, events, stands.imp_right (clock.resolve_left unready)⟩
    still := fun closing => law.still (state ▸ closing)
    closing := by
      dsimp only
      rw [ended, state]
      exact law.closing
    purse := by
      dsimp only
      rw [number]
      exact law.purse
    counted := fun told => count.trans (law.counted told)
    freezing := fun told freezing => law.freezing told (state ▸ freezing) }

theorem JournalUnit.AtPort.congr {j j' : JournalUnit} (atPort : j.AtPort) (op : j'.port.map PortUse.op = j.port.map PortUse.op)
    (queue : j'.queue = j.queue) (durable : j'.lastDurable = j.lastDurable) : j'.AtPort := by
  have waiting : j'.waiting = j.waiting := by
    unfold JournalUnit.waiting
    rw [queue, durable]
  unfold JournalUnit.AtPort at atPort ⊢
  rw [op, queue, durable, waiting]
  exact atPort

theorem portLanes_congr {p p' : Option PortUse} (op : p'.map PortUse.op = p.map PortUse.op) :
    p'.map (fun p => p.op.lanes) = p.map fun p => p.op.lanes := by
  have lanes := congrArg (Option.map PortOp.lanes) op
  rwa [Option.map_map, Option.map_map] at lanes

/-- The write under way goes on, the operation being the one it was. -/
theorem State.Laws.samePort {port : Option PortUse} (law : s.Laws reported cap ex hand)
    (op : port.map PortUse.op = s.journal.port.map PortUse.op) :
    ({ s with journal := { s.journal with port := port } } : State).Laws reported cap ex hand :=
  { law with
    atPort := law.atPort.congr op rfl rfl
    mayRun := fun p mem => by
      have found : p.op ∈ s.journal.port.map PortUse.op := op ▸ Option.mem_map_of_mem PortUse.op mem
      obtain ⟨q, held, same⟩ := Option.mem_map.1 found
      exact same ▸ law.mayRun q held
    owners := law.owners.of_waits (fun l => by
      rw [State.waits_eq, State.waits_eq]
      dsimp only
      rw [portLanes_congr op]
      exact Nat.le_refl _) fun _ f owned => ⟨f, owned⟩ }

/-- Every lane is changed, but no request and no limit of holds. -/
theorem State.Laws.mapLanes {f : LaneUnit → LaneUnit} (law : s.Laws reported cap ex hand)
    (request : ∀ u, (f u).request = u.request) (settings : ∀ u, (f u).settings = u.settings) :
    ({ s with lanes := s.lanes.map f } : State).Laws reported cap ex hand := by
  have lane (l : Lane) : (s.lanes.map f)[l] = f s.lanes[l] := Vector.getElem_map ..
  refine { law with limits := fun l => ?_, owners := law.owners.of_waits (fun _ => Nat.le_refl _) fun l g owned => ⟨g, ?_⟩ }
  · dsimp only
    rw [lane, settings]
    exact law.limits l
  · dsimp only
    rw [lane, request]
    exact owned

end

/-! ## The tick (R29, R32, R101, R105, R123, R162) -/

section
variable {cap : Prop} {hand : List Lane} {s : State} {l : Lane}

theorem PeriodControl.countClock_kept (p : PeriodControl) : p.countClock.number = p.number ∧ p.countClock.state = p.state ∧
    p.countClock.holdCount = p.holdCount ∧ p.countClock.closeEnd = p.closeEnd ∧ p.countClock.clock = p.clock := by
  unfold PeriodControl.countClock
  split
  · exact ⟨rfl, rfl, rfl, rfl, rfl⟩
  · split <;> exact ⟨rfl, rfl, rfl, rfl, rfl⟩

theorem State.Laws.tickCounted (law : s.Good cap hand) :
    ((reachTimers (countTick s)).mapPeriod PeriodControl.countClock).Good cap hand := by
  have ticked : (countTick s).Good cap hand := by
    have engine := law.quietEngine
      (e := { s.engine with expiries := s.engine.expiries ++ expiriesAt (s.now + 1) s.deadlines.list })
      ⟨rfl, rfl, rfl, rfl, rfl, rfl⟩ rfl rfl
    exact { engine with }
  generalize countTick s = t at ticked ⊢
  have lanes := ticked.mapLanes (f := fun u => { u with silence := u.silence.reach t.now }) (fun _ => rfl) fun _ => rfl
  have port := lanes.samePort (port := t.journal.port.map fun p =>
    { p with write := p.write.map fun w => { w with timer := w.timer.reach t.now } }) (Option.map_map ..)
  have period := port.quietPeriod (p := { t.period with drainTimer := t.period.drainTimer.reach t.now }) rfl rfl rfl rfl (.inr id)
  have same : reachTimers t = { t with
      lanes := t.lanes.map fun u => { u with silence := u.silence.reach t.now }
      period := { t.period with drainTimer := t.period.drainTimer.reach t.now }
      journal := { t.journal with
        port := t.journal.port.map fun p =>
          { p with write := p.write.map fun w => { w with timer := w.timer.reach t.now } } } } := rfl
  have reached : (reachTimers t).Good cap hand := same ▸ period
  obtain ⟨number, state, count, ended, clock⟩ := (reachTimers t).period.countClock_kept
  exact reached.quietPeriod number state count ended (.inr fun none => clock.trans none)

/-! ## Closes -/

/-- A close starts in OPEN (R108): Period Control freezes, or the drain completes at once. -/
theorem State.Laws.startClose (law : s.Good cap hand) (opened : s.period.state = .opened)
    (able : s.restore.part = .ready ∨ s.journal.store = .fault) (origin : Origin) : (startClose origin s).Good cap hand := by
  have notYet : s.period.state ≠ .closeWrite := by rw [opened]; nofun
  have closing := law.closing.trans (if_neg notYet)
  unfold Machine.startClose
  dsimp only
  split
  next none =>
    have noHold : s.engine.openHolds = 0 := (law.counted trivial).symm.trans none
    cases store : s.journal.store with
    | ok =>
      have ready : s.restore.part = .ready := able.resolve_right fun fault => nomatch store.symm.trans fault
      exact State.Laws.completeDrain (s := s.mapPeriod _) { law with
        idle := fun unready => absurd ready unready
        still := nofun
        closing := closing
        counted := nofun
        freezing := nofun } rfl noHold none
    | fault =>
      have fails := completeDrain_fault (s := s.mapPeriod fun p => { p with
        origin := some origin, state := .freezing, drainTimer := .running (ticksFrom s.now p.drainLimit) }) store
      rw [fails]
      exact State.Laws.raiseFlag (s := { s with period := { s.period with
        origin := Option.none, state := .opened, drainTimer := .stopped } }) { law with
          idle := fun unready => by
            obtain ⟨none, -, rest⟩ := law.idle unready
            exact ⟨none, rfl, rest⟩
          still := nofun
          closing := closing
          freezing := fun _ => nofun } .closeFailed
  next busy =>
    have held : s.engine.openHolds ≠ 0 := fun none => busy ((law.counted trivial).trans none)
    exact { law with
      idle := fun unready => absurd (law.ready (.inl held)) unready
      still := nofun
      closing := closing
      freezing := fun _ _ => held }

theorem State.Laws.advanceClock {c : Nat} (law : s.Good cap hand) (running : s.period.clock = some c) :
    (advanceClock c s).Good cap hand := by
  have able : s.restore.part = .ready ∨ s.journal.store = .fault := by
    by_cases ready : s.restore.part = .ready
    · exact .inl ready
    · obtain ⟨-, -, -, -, stands⟩ := law.idle ready
      exact .inr (stands.resolve_right (by rw [running]; nofun))
  have advanced : (s.mapPeriod fun p => { p with clock := some (nextSecond c), clockDue := p.clockDue - 1 }).Good cap hand :=
    law.quietPeriod rfl rfl rfl rfl (.inr fun none => nomatch running.symm.trans none)
  unfold Machine.advanceClock
  dsimp only
  split
  next k _ =>
    split
    next opened => exact advanced.startClose opened able _
    next => exact advanced
  next => exact advanced

theorem State.Laws.controlClosePeriod (law : s.Good cap (l :: hand)) (ready : s.restore.part = .ready) :
    (controlClosePeriod l s).Good cap hand := by
  unfold Machine.controlClosePeriod
  split
  next => exact law.fillReply _ _
  next running => exact State.Laws.fillReply (law.startClose (not_not.1 running) (.inl ready) _) _ _

theorem State.Laws.controlSetClock {seconds : Nat} (law : s.Good cap (l :: hand)) (ready : s.restore.part = .ready) :
    (controlSetClock l seconds s).Good cap hand := by
  unfold Machine.controlSetClock
  split
  · exact law.refuse _
  · exact State.Laws.fillReply (s := s.mapPeriod fun p => { p with clock := some seconds, clockTicks := 0, clockDue := 0 })
      (law.quietPeriod rfl rfl rfl rfl (.inl ready)) _ _

theorem State.Laws.controlSetSchedule {entry time enable : Nat} (law : s.Good cap (l :: hand)) :
    (controlSetSchedule l entry time enable s).Good cap hand := by
  unfold Machine.controlSetSchedule
  split
  · split
    next x _ =>
      exact State.Laws.fillReply (s := s.mapPeriod fun p => { p with schedule := p.schedule.set entry x })
        (law.quietPeriod rfl rfl rfl rfl (.inr id)) _ _
    · exact law.refuse _
  · exact law.refuse _

theorem State.Laws.controlSetDrainLimit {seconds : Nat} (law : s.Good cap (l :: hand)) :
    (controlSetDrainLimit l seconds s).Good cap hand := by
  unfold Machine.controlSetDrainLimit
  split
  · exact law.refuse _
  · exact State.Laws.fillReply (s := s.mapPeriod fun p => { p with drainLimit := seconds })
      (law.quietPeriod rfl rfl rfl rfl (.inr id)) _ _

theorem State.Laws.engineReadTotals {part : Nat} (law : s.Good cap (l :: hand)) :
    (engineReadTotals l part s).Good cap hand := by
  unfold Machine.engineReadTotals
  dsimp only
  split
  · exact law.fillReply _ _
  · exact law.fillReply _ _
  · exact law.fillReply _ _
  · exact law.fillReply _ _
  · exact law.refuse _

end

/-! ## The events of time -/

section
variable {cap : Prop} {s : State}

theorem State.Laws.execTick (law : s.Good cap []) (released : s.restore.inReset = false) :
    Leads (·.Good cap []) (execTick s) := by
  unfold Machine.execTick
  rw [event_of_released released]
  exact .next law.tickCounted

theorem State.Laws.execClockAdvance (law : s.Good cap []) (released : s.restore.inReset = false) :
    Leads (·.Good cap []) (execClockAdvance s) := by
  unfold Machine.execClockAdvance
  rw [event_of_released released]
  refine .next ?_
  split
  next c running =>
    split
    · exact law
    · exact law.advanceClock running
  · exact law

theorem State.Laws.execDrainTimerExpiry (law : s.Good cap []) (released : s.restore.inReset = false) :
    Leads (·.Good cap []) (execDrainTimerExpiry s) := by
  unfold Machine.execDrainTimerExpiry
  rw [event_of_released released]
  refine .next ?_
  split
  · exact State.Laws.quietEngine (s := s.mapPeriod fun p => { p with drainTimer := .stopped })
      (law.quietPeriod rfl rfl rfl rfl (.inr id)) ⟨rfl, rfl, rfl, rfl, rfl, rfl⟩ rfl rfl
  · exact law

theorem State.Laws.execDrainEvent (law : s.Good cap []) (released : s.restore.inReset = false) :
    Leads (·.Good cap []) (execDrainEvent s) := by
  have counted : (s.mapEngine fun e => { e with drains := e.drains - 1 }).Good cap [] :=
    law.quietEngine ⟨rfl, rfl, rfl, rfl, rfl, rfl⟩ rfl rfl
  unfold Machine.execDrainEvent
  rw [event_of_released released]
  refine .next ?_
  split
  · exact law
  · dsimp only
    split
    · exact counted.drainWalk
    · exact counted.unreported.reportHolds

theorem State.Laws.execHoldExpiryEvent (law : s.Good cap []) (released : s.restore.inReset = false) (handle : Nat)
    (deadline : Tick) : Leads (·.Good cap []) (execHoldExpiryEvent handle deadline s) := by
  unfold Machine.execHoldExpiryEvent
  rw [event_of_released released]
  refine .next ?_
  split
  next x rest _ =>
    split
    · exact State.Laws.expireHold (s := s.mapEngine fun e => { e with expiries := rest })
        (law.quietEngine ⟨rfl, rfl, rfl, rfl, rfl, rfl⟩ rfl rfl)
    · exact law
  · exact law

theorem State.Laws.execLaneLostEvent (law : s.Good cap []) (released : s.restore.inReset = false) (l : Lane) :
    Leads (·.Good cap []) (execLaneLostEvent l s) := by
  unfold Machine.execLaneLostEvent
  rw [event_of_released released]
  refine .next ?_
  split
  · exact State.Laws.loseLane (s := s.mapEngine fun e => { e with lostLanes := e.lostLanes.erase l })
      (law.quietEngine ⟨rfl, rfl, rfl, rfl, rfl, rfl⟩ rfl rfl) l
  · exact law

end

end Sys2Proof.Machine
end

section
/-! PROOF. The laws as frames come and go, as requests are granted, and as lanes, notices and settings are asked for. -/

namespace Sys2Proof.Machine

/-! ## Lane Units: what leaves the request with its owner as it is -/

section
variable {u : LaneUnit}

theorem LaneUnit.heard_kept (now : Tick) (u : LaneUnit) :
    (u.heard now).request = u.request ∧ (u.heard now).settings = u.settings := by
  unfold LaneUnit.heard
  split
  · exact ⟨rfl, rfl⟩
  · split <;> exact ⟨rfl, rfl⟩
  · exact ⟨rfl, rfl⟩

theorem LaneUnit.accept_withOwner {g : Frame} (f : Frame) (owned : u.request = .withOwner g) :
    (u.accept f).request = .withOwner g := by
  unfold LaneUnit.accept
  rw [owned]
  dsimp only
  split
  · rfl
  · exact owned

theorem LaneUnit.sent_settings (u : LaneUnit) : u.sent.settings = u.settings := by
  unfold LaneUnit.sent
  split <;> rfl

/-- A request that stands with its owner has no reply to send. -/
theorem LaneUnit.sent_withOwner {g : Frame} (agree : u.slotsAgree = true) (owned : u.request = .withOwner g) :
    u.sent.request = .withOwner g := by
  unfold LaneUnit.sent
  split
  next rest tx =>
    obtain ⟨replying, replies, -⟩ := u.slotsAgree_iff.1 agree
    have full : u.reply.isSome = true := by
      by_contra empty
      rw [if_neg empty, tx, List.count_cons] at replies
      simp at replies
    obtain ⟨f, request⟩ := replying.2 full
    exact nomatch owned.symm.trans request
  · exact owned
  · exact owned

end

/-! ## Bytes and frames (R151 to R156) -/

section
variable {cap : Prop} {hand : List Lane} {s : State}

/-- A Lane Unit is changed, its request and its settings left alone. -/
theorem State.Laws.mapQuietLane (law : s.Good cap hand) (l : Lane) {f : LaneUnit → LaneUnit}
    (request : (f s.lanes[l]).request = s.lanes[l].request) (settings : (f s.lanes[l]).settings = s.lanes[l].settings) :
    (s.mapLane l f).Good cap hand :=
  law.mapLane l (fun g owned => ⟨g, request.trans owned⟩) fun limit => by rwa [settings]

theorem State.Laws.setReceiver (law : s.Good cap hand) (l : Lane) (r : Receiver) : (setReceiver l r s).Good cap hand :=
  law.mapQuietLane l rfl rfl

theorem State.Laws.linkErrorAt (law : s.Good cap hand) (l : Lane) (r : Receiver) : (linkErrorAt l r s).Good cap hand :=
  State.Laws.raiseFlag (law.mapQuietLane l (f := fun u => { u with linkError := true, receiver := r }) rfl rfl) _

theorem State.Laws.frameArrives (law : s.Good cap hand) (l : Lane) (f : Frame) : (frameArrives l f s).Good cap hand := by
  obtain ⟨request, settings⟩ := LaneUnit.heard_kept s.now s.lanes[l]
  refine law.mapLane l (fun g owned => ⟨g, LaneUnit.accept_withOwner f (request.trans owned)⟩) fun limit => ?_
  rwa [LaneUnit.accept_settings, settings]

theorem State.Laws.frameComplete (law : s.Good cap hand) (l : Lane) (got : List Byte) : (frameComplete l got s).Good cap hand := by
  unfold Machine.frameComplete
  dsimp only
  split
  · split
    · exact (law.setReceiver l _).frameArrives l _
    · exact law.linkErrorAt l _
  · exact law.linkErrorAt l _

theorem State.Laws.byteInFrame (law : s.Good cap hand) (l : Lane) (got : List Byte) (b : Byte) :
    (byteInFrame l got b s).Good cap hand := by
  unfold Machine.byteInFrame
  split
  · split
    · exact law.linkErrorAt l _
    · exact law.setReceiver l _
  · split
    · exact law.frameComplete l _
    · exact law.setReceiver l _

theorem State.Laws.receiveByte (law : s.Good cap hand) (l : Lane) (b : Byte) (stopBit : Bool) :
    (receiveByte l b stopBit s).Good cap hand := by
  unfold Machine.receiveByte
  split
  · exact law
  · split
    · exact law.linkErrorAt l _
    · split
      · exact law.setReceiver l _
      · exact law
  · split
    · exact law.linkErrorAt l _
    · exact law.byteInFrame l _ _
  · split
    · exact law.linkErrorAt l _
    · exact law

theorem State.Laws.execByteReceived (law : s.Good cap []) (released : s.restore.inReset = false) (l : Lane) (b : Byte)
    (stopBit : Bool) : Leads (·.Good cap []) (execByteReceived l b stopBit s) := by
  unfold Machine.execByteReceived
  rw [event_of_released released]
  exact .next (law.receiveByte l b stopBit)

theorem State.Laws.execFrameReceived (law : s.Good cap []) (released : s.restore.inReset = false) (l : Lane) (b : Byte) :
    Leads (·.Good cap []) (execFrameReceived l b s) := by
  unfold Machine.execFrameReceived
  rw [event_of_released released]
  refine .next ?_
  split
  · exact law.receiveByte l b true
  · exact law

theorem State.Laws.execGapTimerExpiry (law : s.Good cap []) (released : s.restore.inReset = false) (l : Lane) :
    Leads (·.Good cap []) (execGapTimerExpiry l s) := by
  unfold Machine.execGapTimerExpiry
  rw [event_of_released released]
  refine .next ?_
  split
  · exact law.linkErrorAt l _
  · exact law.setReceiver l _
  · exact law
  · exact law

theorem State.Laws.execFrameSent (law : s.Good cap []) (released : s.restore.inReset = false) (slots : s.slotLaw) (l : Lane) :
    Leads (·.Good cap []) (execFrameSent l s) := by
  unfold Machine.execFrameSent
  rw [event_of_released released]
  refine .next (law.mapLane l (fun g owned => ⟨g, LaneUnit.sent_withOwner (slots released l) owned⟩) fun limit => ?_)
  rwa [LaneUnit.sent_settings]

/-! ## The grant (R159, R160, R166), and the silence timer (R162) -/

/-- A lane whose request waits for its grant waits for nothing else. -/
theorem State.Laws.notWaiting {l : Lane} {f : Frame} (law : s.Good cap []) (waiting : s.lanes[l].request = .waiting f) :
    s.waits l = 0 := by
  by_contra waits
  obtain ⟨g, owned⟩ := (law.owners l).2 (by rw [List.count_nil, Nat.add_zero]; exact waits)
  exact nomatch waiting.symm.trans owned

theorem State.Laws.grantRequest {l : Lane} {f : Frame} (law : s.Good cap []) (grant : s.nextGrant = some (l, f)) :
    (grantRequest l f s).Good cap [] := by
  have waiting := State.waiting_of_nextGrant grant
  have free := intake_of_nextGrant grant
  have notWaiting := law.notWaiting waiting
  have pointed : (s.mapArbiter fun a => { a with pointer := l }).Good cap [] := { law with }
  unfold Machine.grantRequest
  dsimp only
  split
  · exact pointed.mapLane l (f := LaneUnit.refuseFrame f .laneRecovering) (fun g owned => nomatch waiting.symm.trans owned) id
  · split
    · unfold answerPing
      dsimp only
      refine pointed.mapLane l (fun g owned => nomatch waiting.symm.trans owned) ?_
      exact id
    · have owned := pointed.mapLane l (f := fun u => { u with request := .withOwner f }) (fun _ _ => ⟨f, rfl⟩) id
      refine { owned with owners := fun k => ?_ }
      obtain ⟨once, stands⟩ := owned.owners k
      rw [List.count_nil, Nat.add_zero] at once stands ⊢
      by_cases same : k = l
      · subst same
        refine ⟨?_, fun _ => ⟨f, ?_⟩⟩
        · rw [s.waits_eq, free] at notWaiting
          rw [State.waits_eq]
          simp only [Option.toList_none, List.count_nil] at notWaiting
          simp only [State.mapArbiter_arbiter, Option.toList_some, List.count_singleton_self]
          change 1 + (lanesOf s.inFlight).count k + (s.journal.reads.map ReadWait.lane).count k +
            (s.journal.syncs.map SyncWait.lane).count k + (s.journal.retry.getD []).count k + (s.journal.save.getD []).count k +
            ((s.journal.port.map fun p => p.op.lanes).getD []).count k + s.restore.format.toList.count k ≤ 1
          omega
        · exact congrArg LaneUnit.request (State.mapLane_same k (fun u => { u with request := .withOwner f }) _)
      · have kept : State.waits ((((s.mapArbiter fun a => { a with pointer := l }).mapLane l fun u =>
              { u with request := .withOwner f })).mapArbiter fun a => { a with intake := some l }) k =
            State.waits ((s.mapArbiter fun a => { a with pointer := l }).mapLane l fun u => { u with request := .withOwner f }) k := by
          rw [State.waits_eq, State.waits_eq]
          have before : ((s.mapArbiter fun a => { a with pointer := l }).mapLane l fun u =>
            { u with request := .withOwner f }).arbiter.intake = none := free
          rw [before]
          simp only [State.mapArbiter_arbiter, Option.toList_some, Option.toList_none, List.count_nil,
            List.count_singleton, beq_iff_eq, if_neg (Ne.symm same)]
          rfl
        rw [kept]
        exact ⟨once, stands⟩

theorem State.Laws.execLaneGrant (law : s.Good cap []) (released : s.restore.inReset = false) :
    Leads (·.Good cap []) (execLaneGrant s) := by
  unfold Machine.execLaneGrant
  rw [event_of_released released]
  refine .next ?_
  split
  next l f grant => exact law.grantRequest grant
  next => exact law

theorem State.Laws.execPing (law : s.Good cap []) (released : s.restore.inReset = false) (l : Lane) :
    Leads (·.Good cap []) (execPing l s) := by
  unfold Machine.execPing
  rw [event_of_released released]
  refine .next ?_
  split
  next l' f grant =>
    split
    next own =>
      obtain rfl := own.1
      exact law.grantRequest grant
    · exact law
  next => exact law

theorem State.Laws.execSilenceTimerExpiry (law : s.Good cap []) (released : s.restore.inReset = false) (l : Lane) :
    Leads (·.Good cap []) (execSilenceTimerExpiry l s) := by
  unfold Machine.execSilenceTimerExpiry
  rw [event_of_released released]
  refine .next ?_
  dsimp only
  split
  · have lost := law.mapQuietLane l (f := fun u => { u with state := .lost, silence := .stopped, noticeAwaited := true }) rfl rfl
    exact State.Laws.raiseFlag (State.Laws.quietEngine
      (e := { s.engine with lostLanes := s.engine.lostLanes ++ [l] }) lost ⟨rfl, rfl, rfl, rfl, rfl, rfl⟩ rfl rfl) _
  · exact law

end

/-! ## Requests about lanes, notices and settings -/

section
variable {cap : Prop} {hand : List Lane} {s : State} {l : Lane}

theorem State.Laws.engineSetLane {named role holdLifetime silenceLimit holdLimit : Nat} (law : s.Good cap (l :: hand)) :
    (engineSetLane l named role holdLifetime silenceLimit holdLimit s).Good cap hand := by
  unfold Machine.engineSetLane
  split
  next n c _ given =>
    split
    · exact law.refuse _
    · split
      · exact law.refuse _
      · obtain ⟨⟨-, -, -, -, most⟩, -⟩ := laneSettingsOf_eq_some.1 given
        obtain ⟨settings, request, -⟩ := LaneUnit.withSettings_kept s.now c s.lanes[n]
        have written : (s.mapLane n (LaneUnit.withSettings s.now c)).Good cap (l :: hand) :=
          law.mapLane n (fun g owned => ⟨g, request.trans owned⟩) fun _ => by rwa [settings]
        unfold writeLane
        dsimp only
        refine State.Laws.fillReply ?_ _ _
        split
        · exact written.mapNoticeLane n _
        · exact written
  next => exact law.refuse _

theorem State.Laws.noticesPoll (law : s.Good cap (l :: hand)) : (noticesPoll l s).Good cap hand := by
  unfold Machine.noticesPoll
  dsimp only
  refine State.Laws.fillReply ?_ _ _
  split
  · refine State.Laws.mapQuietLane (law.mapNoticeLane l _) l ?_ ?_
    · unfold LaneUnit.lossCollected
      split <;> rfl
    · unfold LaneUnit.lossCollected
      split <;> rfl
  · exact law.mapNoticeLane l _

theorem State.Laws.noticesSetRoute {eventClass route : Nat} (law : s.Good cap (l :: hand)) :
    (noticesSetRoute l eventClass route s).Good cap hand := by
  unfold Machine.noticesSetRoute
  split
  · split
    · exact (law.mapNotices _).fillReply _ _
    · exact law.refuse _
  · exact law.refuse _

theorem State.Laws.noticesClearEvents {classes : Nat} (law : s.Good cap (l :: hand)) :
    (noticesClearEvents l classes s).Good cap hand := by
  unfold Machine.noticesClearEvents
  split
  · exact law.refuse _
  · exact (law.mapNotices _).fillReply _ _

theorem State.Laws.configSetCeiling {amount : Nat} (law : s.Good cap (l :: hand)) : (configSetCeiling l amount s).Good cap hand := by
  unfold Machine.configSetCeiling
  split
  · exact law.refuse _
  · exact (law.mapConfig _).fillReply _ _

theorem State.Laws.configSetLowMark {amount : Nat} (law : s.Good cap (l :: hand)) : (configSetLowMark l amount s).Good cap hand := by
  unfold Machine.configSetLowMark
  split
  · exact law.refuse _
  · exact (law.mapConfig _).fillReply _ _

theorem State.Laws.configReadConfig {part : Nat} (law : s.Good cap (l :: hand)) : (configReadConfig l part s).Good cap hand := by
  unfold Machine.configReadConfig
  split
  · exact law.fillReply _ _
  · exact law.refuse _

end

end Sys2Proof.Machine
end

section
/-! PROOF. The laws as the range map and the sponsor count change (R14 to R20). -/

namespace Sys2Proof.Machine

/-! ## Data by key -/

/-- A key whose value is not the default is listed with it. -/
theorem Table.mem_of_get_ne {α : Type} {d : α} {k : Nat} {t : Table α} (listed : Table.get d k t ≠ d) :
    (k, Table.get d k t) ∈ t := by
  induction t with
  | nil => exact absurd rfl listed
  | cons x t ih =>
    obtain ⟨j, v⟩ := x
    unfold Table.get at listed ⊢
    split
    next same => exact same ▸ List.mem_cons_self
    next other =>
      rw [if_neg other] at listed
      exact List.mem_cons_of_mem _ (ih listed)

theorem Engine.card_mem (e : Engine) {slot : Nat} (used : (e.card slot).state ≠ .free ∨ (e.card slot).pendingRecords ≠ 0) :
    (slot, e.card slot) ∈ e.cards := by
  refine Table.mem_of_get_ne fun unlisted => ?_
  have free : e.card slot = .free := unlisted
  rw [free] at used
  exact used.elim (· rfl) (· rfl)

theorem Engine.hold_mem (e : Engine) {k : Nat} (opened : (e.hold k).state ≠ .free) : (k, e.hold k) ∈ e.holds := by
  refine Table.mem_of_get_ne fun unlisted => opened ?_
  exact congrArg Hold.state (unlisted : e.hold k = .free)

/-! ## Maps that place cards alike (R11, R16) -/

section
variable {m m' : Vector RangeEntry 8}

theorem spanStart_congr (same : ∀ i : Fin 8, m'[i].enabled = m[i].enabled ∧ m'[i].slotEnd = m[i].slotEnd) (k : Nat) :
    spanStart m' k = spanStart m k := by
  unfold spanStart
  rw [toList_eq_map, toList_eq_map, ← List.map_take, ← List.map_take, List.foldl_map, List.foldl_map]
  congr 1
  funext acc i
  rw [(same i).1, (same i).2]

theorem slotOf_congr (same : ∀ i : Fin 8, m'[i].enabled = m[i].enabled ∧ m'[i].firstCard = m[i].firstCard ∧
    m'[i].slotEnd = m[i].slotEnd) (card : Nat) : slotOf m' card = slotOf m card := by
  have start := spanStart_congr fun i => ⟨(same i).1, (same i).2.2⟩
  have maps : mapsTo m' card = mapsTo m card := by
    funext i
    unfold mapsTo spanSize
    rw [(same i).1, (same i).2.1, (same i).2.2, start]
  have entry : entryOf m' card = entryOf m card := by
    unfold entryOf
    rw [maps]
  unfold slotOf
  rw [entry]
  congr 1
  funext i
  rw [start, (same i).2.1]

end

/-! ## SET_RANGE -/

namespace Engine
section
variable {e : Engine} {number count : Nat} {fl : List Flight} {ex : List Nat} {m : Vector RangeEntry 8}

theorem PurseLaw.withRanges (law : e.PurseLaw number fl ex) (ok : ({ e with ranges := m } : Engine).mapOk)
    (maps : ∀ slot, (e.card slot).state ≠ .free ∨ (e.card slot).pendingRecords ≠ 0 →
      slotOf m (e.card slot).cardNumber = some slot) : ({ e with ranges := m } : Engine).PurseLaw number fl ex :=
  { law with
    map := ok
    card := fun slot => { law.card slot with mapped := maps slot }
    sponsor := fun n => { law.sponsor n with } }

/-- What the checks of R15 and R16 make sure of. -/
theorem PurseLaw.maps_of_scan (law : e.PurseLaw number fl ex) {k : Fin 8} {x : RangeEntry}
    (scan : (x.mapsAs e.ranges[k] || e.pursesMap (e.ranges.set k x)) = true) (slot : Nat)
    (used : (e.card slot).state ≠ .free ∨ (e.card slot).pendingRecords ≠ 0) :
    slotOf (e.ranges.set k x) (e.card slot).cardNumber = some slot := by
  obtain ⟨enabled, first, slotEnd⟩ | sit := (e.scanPasses_iff x e.ranges[k] (e.ranges.set k x)).1 scan
  · rw [slotOf_congr fun i => ?_]
    · exact (law.card slot).mapped used
    · by_cases same : i = k
      · subst same
        simp [enabled, first, slotEnd]
      · have apart : k.val ≠ i.val := fun h => same (Fin.ext h.symm)
        simp [Vector.getElem_set_ne _ _ apart]
  · exact sit slot _ (e.card_mem used) ((e.isCardSlot_iff slot).1 (law.inRegion used)) used

end
end Engine

section
variable {cap : Prop} {hand : List Lane} {s : State} {l : Lane}

theorem State.Laws.withRanges {reported : Prop} {ex : List Nat} {m : Vector RangeEntry 8} (law : s.Laws reported cap ex hand)
    (ok : ({ s.engine with ranges := m } : Engine).mapOk)
    (maps : ∀ slot, (s.engine.card slot).state ≠ .free ∨ (s.engine.card slot).pendingRecords ≠ 0 →
      slotOf m (s.engine.card slot).cardNumber = some slot) :
    (s.mapEngine fun e => { e with ranges := m }).Laws reported cap ex hand :=
  { law with
    holds := law.holds.of_same (fun _ => rfl) rfl rfl fun _ => rfl
    purse := law.purse.withRanges ok maps }

theorem rangeRequest_sponsor {entry enabled first slotEnd grant sponsor limit count n : Nat} {k : Fin 8} {x : RangeEntry}
    (given : rangeRequest entry enabled first slotEnd grant sponsor limit count = some (k, x)) (named : x.sponsor = some n) :
    n < count := by
  unfold rangeRequest at given
  split at given
  next =>
    split at given
    next below =>
      cases given
      rw [named] at below
      exact of_decide_eq_true below
    next => exact nomatch given
  next => exact nomatch given

theorem State.Laws.engineSetRange {entry enabled first slotEnd grant sponsor limit : Nat} (law : s.Good cap (l :: hand)) :
    (engineSetRange l entry enabled first slotEnd grant sponsor limit s).Good cap hand := by
  unfold Machine.engineSetRange
  split
  next => exact law.refuse _
  next k x given =>
    unfold writeRange
    dsimp only
    split
    · exact law.refuse _
    · split
      · exact law.refuse _
      next order =>
        split
        · exact law.refuse _
        next clear =>
          split
          · exact law.refuse _
          next apart =>
            split
            · exact law.refuse _
            next scan =>
              refine State.Laws.fillReply (law.withRanges ⟨?_, ?_, ?_, fun i on n named => ?_⟩
                (law.purse.maps_of_scan (Bool.eq_true_of_not_eq_false
                  (by simpa only [Bool.not_eq_true', Bool.not_eq_false] using scan)))) _ _
              · simpa using order
              · simpa using clear
              · simpa using apart
              · by_cases same : i = k
                · subst same
                  refine rangeRequest_sponsor given ?_
                  have here : (s.engine.ranges.set i x)[i] = x := Vector.getElem_set_self ..
                  exact here ▸ named
                · have there : (s.engine.ranges.set k x)[i] = s.engine.ranges[i] :=
                    Vector.getElem_set_ne _ _ fun h => same (Fin.ext h.symm)
                  exact law.purse.map.2.2.2 i (there ▸ on) n (there ▸ named)

end

/-! ## SET_SPONSOR_COUNT -/

/-- A purse with no record pending keeps its law when it is emptied. -/
theorem Engine.CardLaw.emptied {e : Engine} {number slot : Nat} {fl : List Flight} {p : CardPurse}
    (law : e.CardLaw number fl slot p) (none : p.pendingRecords = 0) :
    e.CardLaw number fl slot p.emptied where
  cashHeld := rfl
  allowanceHeld := rfl
  outgoing := (reservedIn_of_unnamed (law.pending.symm.trans none) _).symm
  topUps := (reservedIn_of_unnamed (law.pending.symm.trans none) _).symm
  cash := Nat.le_refl _
  allowance := Nat.le_refl _
  current := fun held => absurd rfl held
  pending := none.symm.trans law.pending
  region := fun _ => rfl
  mapped := fun used => used.elim (absurd rfl) (absurd rfl)
  closing := nofun

section
variable {e : Engine} {number count : Nat} {fl : List Flight} {ex : List Nat} {list : List DeadlineEntry}

/-- No hold and no record names a sponsor that is not in use, or that is in no region. -/
theorem Engine.PurseLaw.sponsor_idle (law : e.PurseLaw number fl ex)
    (unused : ∀ n, count ≤ n → n < e.sponsorCount → ¬ e.sponsorInUse n = true) {n : Nat}
    (outside : min count e.sponsorCount ≤ n) :
    (∀ k, (e.hold k).state ≠ .free → (e.hold k).sponsor ≠ some n) ∧ namingSponsor fl n = 0 ∧
      ∀ i : Fin 8, e.ranges[i].enabled = true → e.ranges[i].sponsor ≠ some n := by
  by_cases inside : n < e.sponsorCount
  · have idle := mt (e.sponsorInUse_iff n).2 (unused n (by omega) inside)
    simp only [not_or, not_exists, not_and] at idle
    obtain ⟨-, -, pending, map, hold⟩ := idle
    exact ⟨fun k opened => hold k _ (e.hold_mem opened) opened, (law.sponsor n).pending.symm.trans (by omega), map⟩
  · refine ⟨fun k opened named => inside (law.holdSponsors k opened n named), ?_, fun i on named =>
      inside (law.map.2.2.2 i on n named)⟩
    by_contra pending
    obtain ⟨x, mem⟩ := List.exists_mem_of_length_pos (Nat.pos_of_ne_zero pending)
    obtain ⟨mem, named⟩ := List.mem_filter.1 mem
    exact inside (law.flightSponsors x mem n (by simpa using named))

/-- A slot that changes region holds no card purse, nor any record of one. -/
theorem Engine.PurseLaw.slot_idle (law : e.PurseLaw number fl ex) (clear : clearOfSponsors e.ranges count = true) {slot : Nat}
    (low : 4096 - max count e.sponsorCount ≤ slot) :
    (e.card slot).state = .free ∧ (e.card slot).pendingRecords = 0 := by
  by_contra used
  have mapped := (law.card slot).mapped (by tauto)
  have region := (e.isCardSlot_iff slot).1 (law.inRegion (by tauto))
  obtain ⟨k, enabled, -, -, below⟩ := slotOf_eq_some mapped
  have bound := (clearOfSponsors_iff _).1 clear k enabled
  omega

theorem Engine.withSponsorCount_card (canonical : e.Canonical) (slot : Nat) : (e.withSponsorCount count).card slot =
    if 4096 - max count e.sponsorCount ≤ slot ∧ slot < 4096 - min count e.sponsorCount then (e.card slot).emptied
    else e.card slot := e.card_emptyCards canonical.1 _ _ _

theorem Engine.withSponsorCount_sponsor (n : Nat) : (e.withSponsorCount count).sponsor n =
    if min count e.sponsorCount ≤ n ∧ n < max count e.sponsorCount then .zero else e.sponsor n := Table.get_clearRange ..

/-- The laws of purses stand a new sponsor count that passes the checks of R18. -/
theorem Engine.PurseLaw.withSponsorCount (law : e.PurseLaw number fl ex) (canonical : e.Canonical)
    (clear : clearOfSponsors e.ranges count = true)
    (unused : ∀ n, count ≤ n → n < e.sponsorCount → ¬ e.sponsorInUse n = true) :
    (e.withSponsorCount count).PurseLaw number fl ex := by
  have shares (n : Nat) : (e.withSponsorCount count).sponsorShares n = e.sponsorShares n := sponsorShares_congr (fun _ => rfl) n
  have lifts {slot : Nat} {p : CardPurse} (card : e.CardLaw number fl slot p)
      (region : (e.withSponsorCount count).isCardSlot slot = false → p = p.emptied) :
      (e.withSponsorCount count).CardLaw number fl slot p := { card with region := region }
  refine {
    settledOnce := law.settledOnce
    settling := law.settling
    covers := law.covers
    map := ⟨law.map.1, clear, law.map.2.2.1, fun k enabled n named => ?_⟩
    card := fun slot => ?_
    sponsor := fun n => ?_
    holdSponsors := fun k opened n named => ?_
    flightSponsors := fun x mem n named => ?_
    finds := fun x mem slot named => ?_ }
  · by_contra outside
    exact (law.sponsor_idle unused (n := n) ((Nat.min_le_left _ _).trans (Nat.not_lt.1 outside))).2.2 k enabled named
  · rw [Engine.withSponsorCount_card canonical]
    split
    next inside =>
      exact lifts ((law.card slot).emptied (law.slot_idle clear inside.1).2) fun _ => rfl
    next outside =>
      refine lifts (law.card slot) fun sponsored => (law.card slot).region ?_
      rw [← Bool.not_eq_true, Engine.isCardSlot_iff] at sponsored ⊢
      have same : (e.withSponsorCount count).sponsorCount = count := rfl
      rw [same] at sponsored
      omega
  · rw [Engine.withSponsorCount_sponsor]
    split
    next inside =>
      obtain ⟨noHold, noRecord, -⟩ := law.sponsor_idle unused inside.1
      refine ⟨?_, Nat.le_refl _, noRecord.symm⟩
      rw [shares, Engine.sponsorShares_eq]
      refine (List.sum_eq_zero fun x mem => ?_).symm
      obtain ⟨k, -, rfl⟩ := List.mem_map.1 mem
      exact if_neg fun named => noHold k named.1 named.2
    next => exact { law.sponsor n with held := (law.sponsor n).held.trans (shares n).symm }
  · by_contra outside
    exact (law.sponsor_idle unused (n := n) ((Nat.min_le_left _ _).trans (Nat.not_lt.1 outside))).1 k opened named
  · by_contra outside
    have noRecord := (law.sponsor_idle unused (n := n) ((Nat.min_le_left _ _).trans (Nat.not_lt.1 outside))).2.1
    exact absurd (namingSponsor_pos mem named) (by omega)
  · rw [Engine.withSponsorCount_card canonical, if_neg]
    · exact law.finds x mem slot named
    · rintro ⟨low, -⟩
      have pending := (law.card slot).pending
      have one := namingCard_pos mem named
      rw [(law.slot_idle clear low).2] at pending
      omega

end

/-! ## Balances that fall -/

theorem cashThrough_mono (records : List Record) (slot : Nat) {a b : Nat} (le : a ≤ b) :
    cashThrough records slot a ≤ cashThrough records slot b := by
  induction records generalizing a b with
  | nil => exact le
  | cons r records ih =>
    refine ih ?_
    dsimp only
    split
    · have effect : r.body.cashEffect a ≤ r.body.cashEffect b := by
        cases r.body with
        | change kind =>
          cases kind with
          | openPurse | closePurse => exact Nat.le_refl _
          | block | unblock => exact le
        | fund | periodClose => exact le
        | capture | withdraw => exact Nat.sub_le_sub_right le _
        | reversal | topUp => exact Nat.add_le_add_right le _
      exact effect
    · exact le

theorem sponsorThrough_mono (records : List Record) (n : Nat) {a b : Nat} (le : a ≤ b) :
    sponsorThrough records n a ≤ sponsorThrough records n b := by
  induction records generalizing a b with
  | nil => exact le
  | cons r records ih =>
    refine ih ?_
    dsimp only
    split
    · have effect : r.body.sponsorEffect a ≤ r.body.sponsorEffect b := by
        cases r.body with
        | capture => exact Nat.sub_le_sub_right le _
        | reversal | fund => exact Nat.add_le_add_right le _
        | topUp | withdraw | change | periodClose => exact le
      exact effect
    · exact le

theorem Engine.Caps.of_less {e e' : Engine} {records : List Record} (caps : e.Caps records)
    (cards : ∀ slot, (e'.card slot).cashBalance ≤ (e.card slot).cashBalance)
    (sponsors : ∀ n, (e'.sponsor n).balance ≤ (e.sponsor n).balance) : e'.Caps records := fun n =>
  ⟨fun slot => (cashThrough_mono _ _ (cards slot)).trans ((caps n).1 slot),
    fun m => (sponsorThrough_mono _ _ (sponsors m)).trans ((caps n).2 m)⟩

section
variable {cap : Prop} {hand : List Lane} {s : State} {l : Lane}

theorem State.Laws.engineSetSponsorCount {count : Nat} (law : s.Good cap (l :: hand)) (ready : s.restore.part = .ready) :
    (engineSetSponsorCount l count s).Good cap hand := by
  unfold Machine.engineSetSponsorCount
  split
  · exact law.refuse _
  · split
    · exact law.refuse _
    next clear =>
      split
      · exact law.refuse _
      next unused =>
        have idle : ∀ n, count ≤ n → n < s.engine.sponsorCount → ¬ s.engine.sponsorInUse n = true := fun n above below used =>
          unused (dropsUsed_iff.2 ⟨n, above, below, used⟩)
        have clear : clearOfSponsors s.engine.ranges count = true := by simpa using clear
        have kept : s.engine.Keeps (fun _ => True) (s.engine.withSponsorCount count) :=
          Engine.withSponsorCount_keeps fun _ _ _ => trivial
        refine State.Laws.fillReply (s := s.mapEngine (Engine.withSponsorCount count)) { law with
          tables := kept.tables law.tables
          restoring := fun restoring => absurd (ready.symm.trans restoring) nofun
          holds := law.holds.of_same (fun _ => rfl) rfl rfl fun slot => ?_
          purse := law.purse.withSponsorCount law.tables clear idle
          caps := fun capped => (law.caps capped).of_less (fun slot => ?_) fun n => ?_ } _ _
        · refine (congrArg CardPurse.holdList (Engine.withSponsorCount_card law.tables slot)).trans ?_
          split
          next inside =>
            by_contra held
            exact ((law.purse.card slot).current (Ne.symm held)).1 (law.purse.slot_idle clear inside.1).1
          next => rfl
        · refine (congrArg CardPurse.cashBalance (Engine.withSponsorCount_card law.tables slot)).trans_le ?_
          split
          · exact Nat.zero_le _
          · exact Nat.le_refl _
        · refine (congrArg SponsorPurse.balance (Engine.withSponsorCount_sponsor n)).trans_le ?_
          split
          · exact Nat.zero_le _
          · exact Nat.le_refl _

end

end Sys2Proof.Machine
end

section
/-! PROOF. The laws as the port changes hands for operations that are no record's: journal reads, saves, stale images, the retry; and
the requests that wait for the journal. -/

namespace Sys2Proof.Machine

/-! ## Operations that leave the queue alone -/

/-- An operation that is no work of the queue's first entry. -/
def PortOp.plain : PortOp → Bool
  | .recordWrite _ | .imageWrites .. => false
  | _ => true

/-- How often lane `l` waits for the operation that holds the port. -/
def portWaits (p : Option PortUse) (l : Lane) : Nat := ((p.map fun p => p.op.lanes).getD []).count l

theorem portWaits_none (l : Lane) : portWaits none l = 0 := rfl

theorem portWaits_some (op : PortOp) (w : Option StoreWrite) (l : Lane) : portWaits (some ⟨op, w⟩) l = op.lanes.count l := rfl

theorem JournalUnit.AtPort.resting {j : JournalUnit} (atPort : j.AtPort) (plain : ∀ p ∈ j.port, p.op.plain = true) :
    j.queue = j.waiting ∧ ∀ x ∈ j.queue, x.writing = false := by
  unfold JournalUnit.AtPort at atPort
  split at atPort
  next r op =>
    obtain ⟨p, held, same⟩ := Option.map_eq_some_iff.1 op
    have no := plain p held
    rw [same] at no
    exact nomatch no
  next r k rest op =>
    obtain ⟨p, held, same⟩ := Option.map_eq_some_iff.1 op
    have no := plain p held
    rw [same] at no
    exact nomatch no
  next => exact atPort

theorem JournalUnit.atPort_of_resting {j : JournalUnit} (resting : j.queue = j.waiting ∧ ∀ x ∈ j.queue, x.writing = false)
    (plain : ∀ p ∈ j.port, p.op.plain = true) : j.AtPort := by
  unfold JournalUnit.AtPort
  split
  next r op =>
    obtain ⟨p, held, same⟩ := Option.map_eq_some_iff.1 op
    have no := plain p held
    rw [same] at no
    exact nomatch no
  next r k rest op =>
    obtain ⟨p, held, same⟩ := Option.map_eq_some_iff.1 op
    have no := plain p held
    rw [same] at no
    exact nomatch no
  next => exact resting

section
variable {reported cap : Prop} {ex : List Nat} {hand hand' : List Lane} {s : State}

/-- The port changes hands between operations that are no work of the queue. -/
theorem State.Laws.withPort {port : Option PortUse} (law : s.Laws reported cap ex hand)
    (plain : ∀ p ∈ s.journal.port, p.op.plain = true) (plain' : ∀ p ∈ port, p.op.plain = true)
    (mayRun : ∀ p ∈ port, p.op.MayRun s.journal s.restore)
    (lanes : ∀ l, portWaits port l + hand'.count l ≤ portWaits s.journal.port l + hand.count l) :
    ({ s with journal := { s.journal with port := port } } : State).Laws reported cap ex hand' :=
  { law with
    atPort := JournalUnit.atPort_of_resting (law.atPort.resting plain) plain'
    mayRun := mayRun
    owners := law.owners.of_waits (fun l => by
      have bound := lanes l
      unfold portWaits at bound
      rw [State.waits_eq, State.waits_eq]
      change _ + (lanesOf s.inFlight).count l + _ + _ + _ + _ + _ + _ + _ ≤ _
      dsimp only at bound ⊢
      omega) fun _ f owned => ⟨f, owned⟩ }

/-- The port falls free; who waited for its operation is in hand. -/
theorem State.Laws.freePort {op : PortOp} {w : Option StoreWrite} (law : s.Laws reported cap ex hand)
    (held : s.journal.port = some ⟨op, w⟩) (plain : op.plain = true) :
    (freePort s).Laws reported cap ex (op.lanes ++ hand) := by
  refine law.withPort (port := none) (fun p mem => ?_) (forall_mem_none _) (forall_mem_none _) fun l => ?_
  · rw [held] at mem
    cases mem
    exact plain
  · rw [held, portWaits_none, portWaits_some, List.count_append, Nat.zero_add]

/-- Another operation of the same lanes goes on at the port. -/
theorem State.Laws.nextOp {op op' : PortOp} {w w' : Option StoreWrite} (law : s.Laws reported cap ex hand)
    (held : s.journal.port = some ⟨op, w⟩) (plain : op.plain = true) (plain' : op'.plain = true) (lanes : op'.lanes = op.lanes)
    (mayRun : op'.MayRun s.journal s.restore) :
    ({ s with journal := { s.journal with port := some ⟨op', w'⟩ } } : State).Laws reported cap ex hand := by
  refine law.withPort (fun p mem => ?_) (fun p mem => ?_) (fun p mem => ?_) fun l => ?_
  · rw [held] at mem
    cases mem
    exact plain
  · cases mem
    exact plain'
  · cases mem
    exact mayRun
  · rw [held, portWaits_some, portWaits_some, lanes]

/-- An operation that no lane waits for takes the free port. -/
theorem State.Laws.takePort {op : PortOp} {w : Option StoreWrite} (law : s.Laws reported cap ex hand)
    (free : s.journal.port = none) (plain : op.plain = true) (lanes : op.lanes = [])
    (mayRun : op.MayRun s.journal s.restore) :
    ({ s with journal := { s.journal with port := some ⟨op, w⟩ } } : State).Laws reported cap ex hand := by
  refine law.withPort (fun p mem => ?_) (fun p mem => ?_) (fun p mem => ?_) fun l => ?_
  · rw [free] at mem
    exact nomatch mem
  · cases mem
    exact plain
  · cases mem
    exact mayRun
  · rw [free, portWaits_none, portWaits_some, lanes, List.count_nil]

/-- A change at the Journal Unit that leaves its queue, its numbers and its port: those that wait for it may change. -/
theorem State.Laws.withWaiters {reads : List ReadWait} {syncs : List SyncWait} {retry save : Option (List Lane)}
    (law : s.Laws reported cap ex hand)
    (syncing : ∀ w ∈ syncs, s.journal.lastDurable < w.mark ∧ w.mark < s.journal.nextSeq)
    (retrying : retry ≠ none → s.restore.part = .ready ∧ s.journal.store = .fault ∧ s.journal.lastDurable < 4294967231)
    (retries : s.journal.retry ≠ none → retry ≠ none) (saving : save ≠ none → s.restore.part = .ready ∧ s.journal.store = .ok)
    (lanes : ∀ l, (reads.map ReadWait.lane).count l + (syncs.map SyncWait.lane).count l + (retry.getD []).count l +
      (save.getD []).count l + hand'.count l ≤ (s.journal.reads.map ReadWait.lane).count l +
      (s.journal.syncs.map SyncWait.lane).count l + (s.journal.retry.getD []).count l + (s.journal.save.getD []).count l +
      hand.count l) :
    ({ s with journal := { s.journal with reads := reads, syncs := syncs, retry := retry, save := save } } : State).Laws
      reported cap ex hand' :=
  { law with
    mayRun := fun p mem => by
      have may := law.mayRun p mem
      obtain ⟨op, w⟩ := p
      cases op with
      | retryHeader | retryCheck | retryVoid => exact retries may
      | recordWrite | imageWrites | staleImage | saveBlock | saveCheck | formatClear | formatVoid | formatImage | formatHeader
      | restoreImage | journalRead => exact may
    retrying := retrying
    saving := saving
    syncing := syncing
    owners := law.owners.of_waits (fun l => by
      have bound := lanes l
      rw [State.waits_eq, State.waits_eq]
      change _ + (lanesOf s.inFlight).count l + _ + _ + _ + _ + _ + _ + _ ≤ _
      dsimp only at bound ⊢
      omega) fun _ f owned => ⟨f, owned⟩ }

end

/-! ## Requests that wait for the journal (R140, R143, R144, R184) -/

section
variable {cap : Prop} {hand : List Lane} {s : State} {l : Lane}

theorem State.Laws.journalSync (law : s.Good cap (l :: hand)) : (journalSync l s).Good cap hand := by
  unfold Machine.journalSync
  dsimp only
  split
  · exact law.refuse _
  next beyond =>
    refine law.withWaiters (reads := s.journal.reads) (syncs := s.journal.syncs ++ [⟨l, s.journal.nextSeq - 1⟩]) (fun w mem => ?_)
      law.retrying id law.saving fun k => ?_
    · obtain mem | mem := List.mem_append.1 mem
      · exact law.syncing w mem
      · cases List.mem_singleton.1 mem
        dsimp only
        omega
    · rw [List.map_append, List.count_append, List.count_cons]
      simp only [List.map_cons, List.map_nil, List.count_cons, List.count_nil]
      omega

theorem State.Laws.journalReadJournal {sequence : Nat} (law : s.Good cap (l :: hand)) :
    (journalReadJournal l sequence s).Good cap hand := by
  unfold Machine.journalReadJournal
  split
  · refine law.withWaiters (reads := s.journal.reads ++ [⟨l, sequence, false⟩]) (syncs := s.journal.syncs) law.syncing
      law.retrying id law.saving fun k => ?_
    rw [List.map_append, List.count_append]
    simp only [List.map_cons, List.map_nil, List.count_cons, List.count_nil]
    omega
  · exact law.refuse _

theorem State.Laws.journalRetryStore (law : s.Good cap (l :: hand)) (ready : s.restore.part = .ready) :
    (journalRetryStore l s).Good cap hand := by
  unfold Machine.journalRetryStore
  split
  · exact law.refuse _
  next broken =>
    split
    · exact law.refuse _
    next lasting =>
      have fault : s.journal.store = .fault := by
        cases store : s.journal.store with
        | ok => exact absurd (decide_eq_true store) broken
        | fault => rfl
      refine law.withWaiters (reads := s.journal.reads) (syncs := s.journal.syncs)
        (retry := some (s.journal.retry.getD [] ++ [l])) law.syncing (fun _ => ⟨ready, fault, ?_⟩) (fun _ => nofun) law.saving
        fun k => ?_
      · simpa [JournalUnit.exhausted] using lasting
      · rw [Option.getD_some, List.count_append]
        simp only [List.count_cons, List.count_nil]
        omega

theorem State.Laws.configSaveConfig (law : s.Good cap (l :: hand)) (ready : s.restore.part = .ready) :
    (configSaveConfig l s).Good cap hand := by
  unfold Machine.configSaveConfig
  split
  · exact law.refuse _
  next ok =>
    refine law.withWaiters (reads := s.journal.reads) (syncs := s.journal.syncs)
      (save := some (s.journal.save.getD [] ++ [l])) law.syncing law.retrying id
      (fun _ => ⟨ready, by simpa [State.storeOk] using ok⟩) fun k => ?_
    rw [Option.getD_some, List.count_append]
    simp only [List.count_cons, List.count_nil]
    omega

end

/-! ## Journal reads (R145) -/

section
variable {cap : Prop} {hand : List Lane} {s : State} {l : Lane}

theorem State.Laws.judgeRead {n done : Nat} {voided : Bool} {unit : List Byte} {w : Option StoreWrite} (law : s.Good cap hand)
    (held : s.journal.port = some ⟨.journalRead l n done voided, w⟩) : (judgeRead l n done voided unit s).Good cap hand := by
  have freed := law.freePort held rfl
  unfold Machine.judgeRead
  split
  · split
    · exact State.Laws.fillReply freed _ _
    · exact State.Laws.refuse freed _
  · split
    · exact law.nextOp (op' := .journalRead l n (done + 1) voided) held rfl rfl rfl (law.mayRun _ held)
    · split
      · exact State.Laws.refuse freed _
      · exact State.Laws.refuse freed _

theorem State.Laws.execJournalReadComplete (law : s.Good cap []) (released : s.restore.inReset = false) (answer : StoreAnswer) :
    Leads (·.Good cap []) (execJournalReadComplete answer s) := by
  unfold Machine.execJournalReadComplete
  rw [event_of_released released]
  refine .next ?_
  split
  next l n done voided w held => exact law.judgeRead held
  next => exact law

end

/-! ## The retry (R141) -/

section
variable {cap : Prop} {hand : List Lane} {s : State}

/-- An operation of the retry, of which no lane waits for the port itself. -/
def PortOp.retries : PortOp → Bool
  | .retryHeader | .retryCheck | .retryVoid => true
  | _ => false

theorem PortOp.plain_of_retries {op : PortOp} (retries : op.retries = true) : op.plain = true ∧ op.lanes = [] := by
  cases op with
  | retryHeader | retryCheck | retryVoid => exact ⟨rfl, rfl⟩
  | recordWrite | imageWrites | staleImage | saveBlock | saveCheck | formatClear | formatVoid | formatImage | formatHeader
  | restoreImage | journalRead => exact nomatch retries

theorem State.Laws.retrySet {op : PortOp} {w : Option StoreWrite} (law : s.Good cap hand)
    (held : s.journal.port = some ⟨op, w⟩) (retries : op.retries = true) : ∃ lanes, s.journal.retry = some lanes := by
  have may := law.mayRun _ held
  refine Option.ne_none_iff_exists'.1 ?_
  cases op with
  | retryHeader | retryCheck | retryVoid => exact may
  | recordWrite | imageWrites | staleImage | saveBlock | saveCheck | formatClear | formatVoid | formatImage | formatHeader
  | restoreImage | journalRead => exact nomatch retries

end

end Sys2Proof.Machine
end

section
/-! PROOF. The laws as the retry ends, and as saves, stale images and journal reads take the port and leave it (R139, R141, R142,
R185). -/

namespace Sys2Proof.Machine

section
variable {cap : Prop} {hand : List Lane} {s : State} {op : PortOp} {w : Option StoreWrite}

/-! ## The end of the retry (R141) -/

/-- The retry has left the port, and those that wait on it are in hand. -/
theorem State.Laws.retryLeft {lanes : List Lane} (law : s.Good cap hand) (held : s.journal.port = some ⟨op, w⟩)
    (retries : op.retries = true) (retry : s.journal.retry = some lanes) :
    ({ s with journal := { s.journal with port := none, retry := none } } : State).Good cap (lanes ++ hand) := by
  obtain ⟨plain, nobody⟩ := PortOp.plain_of_retries retries
  have freed := law.freePort held plain
  rw [nobody, List.nil_append] at freed
  refine { freed with
    mayRun := forall_mem_none _
    retrying := absurd rfl
    owners := freed.owners.of_waits (fun l => ?_) fun _ f owned => ⟨f, owned⟩ }
  rw [State.waits_eq, State.waits_eq, List.count_append]
  have waiting : (Machine.freePort s).journal.retry = some lanes := retry
  rw [waiting]
  change s.arbiter.intake.toList.count l + (lanesOf s.inFlight).count l + (s.journal.reads.map ReadWait.lane).count l +
    (s.journal.syncs.map SyncWait.lane).count l + 0 + (s.journal.save.getD []).count l + 0 + s.restore.format.toList.count l +
    (lanes.count l + hand.count l) ≤ s.arbiter.intake.toList.count l + (lanesOf s.inFlight).count l +
    (s.journal.reads.map ReadWait.lane).count l + (s.journal.syncs.map SyncWait.lane).count l + lanes.count l +
    (s.journal.save.getD []).count l + 0 + s.restore.format.toList.count l + hand.count l
  omega

theorem State.Laws.retryFails (law : s.Good cap hand) (held : s.journal.port = some ⟨op, w⟩) (retries : op.retries = true) :
    (retryFails s).Good cap hand := by
  obtain ⟨lanes, retry⟩ := law.retrySet held retries
  rw [retryFails_eq retry]
  exact State.Laws.fillAll (law.retryLeft held retries retry) _

theorem State.Laws.retrySucceeds (law : s.Good cap hand) (held : s.journal.port = some ⟨op, w⟩) (retries : op.retries = true) :
    (retrySucceeds s).Good cap hand := by
  obtain ⟨lanes, retry⟩ := law.retrySet held retries
  obtain ⟨ready, fault, lasting⟩ := law.retrying (by rw [retry]; nofun)
  have left := law.retryLeft held retries retry
  rw [retrySucceeds_eq retry]
  have restored : ({ s with
      notices := (Machine.raiseFlag .storeRestored s).notices,
      journal := { s.journal with store := .ok, voidSlot := none, retry := none, port := none } } : State).Good cap
        (lanes ++ hand) :=
    { left with
      mayRun := forall_mem_none _, faultEmpty := nofun, retrying := absurd rfl, saving := fun saves => ⟨ready, rfl⟩,
      exhausting := fun due => absurd (fault.symm.trans (law.exhausting due).2.1) nofun,
      restoring := fun restoring => absurd (ready.symm.trans restoring) nofun,
      idle := fun unready => absurd ready unready }
  exact restored.fillAll _

theorem State.Laws.retryVoided (law : s.Good cap hand) (held : s.journal.port = some ⟨op, w⟩) (retries : op.retries = true) :
    (retryVoided s).Good cap hand := by
  cases void : s.journal.voidSlot with
  | none =>
    have same : Machine.retryVoided s = Machine.retrySucceeds s := by
      unfold Machine.retryVoided
      rw [void]
    exact same ▸ law.retrySucceeds held retries
  | some k =>
    rw [retryVoided_eq void]
    refine State.Laws.retrySucceeds (op := op) (w := w) (law.withWaiters (syncs := s.journal.syncs) law.syncing law.retrying id
      law.saving fun l => ?_) held retries
    have lanes : (s.journal.reads.map fun y => if y.sequence % 8192 = k then { y with voided := true } else y).map ReadWait.lane =
        s.journal.reads.map ReadWait.lane := by
      rw [List.map_map]
      refine List.map_congr_left fun y _ => ?_
      dsimp only [Function.comp_apply]
      split <;> rfl
    rw [lanes]

theorem State.Laws.retryContinues (law : s.Good cap hand) (held : s.journal.port = some ⟨.retryCheck, w⟩) :
    (retryContinues s).Good cap hand := by
  unfold Machine.retryContinues
  split
  · exact law.nextOp (op' := .retryVoid) held rfl rfl rfl (law.mayRun _ held)
  · exact law.retrySucceeds held rfl

theorem State.Laws.execRetryHeaderRead (law : s.Good cap []) (released : s.restore.inReset = false) (answer : StoreAnswer) :
    Leads (·.Good cap []) (execRetryHeaderRead answer s) := by
  unfold Machine.execRetryHeaderRead
  rw [event_of_released released]
  refine .next ?_
  split
  next w held =>
    dsimp only
    split
    · exact law.nextOp (op' := .retryCheck) held rfl rfl rfl (law.mayRun _ held)
    · exact law.retryFails held rfl
  next => exact law

/-! ## Saves, stale images and journal reads at the port (R139, R142, R185) -/

theorem State.Laws.saveDone {lanes : List Lane} (law : s.Good cap hand) (held : s.journal.port = some ⟨.saveCheck lanes, w⟩) :
    (saveDone lanes s).Good cap hand := by
  rw [saveDone_eq]
  exact State.Laws.fillAll (State.Laws.mapConfig (s := Machine.freePort s) (law.freePort held rfl) fun c => { c with source := .header }) _

theorem State.Laws.grantSave {lanes : List Lane} (law : s.Good cap hand) (free : s.journal.port = none)
    (save : s.journal.save = some lanes) (due : s.journal.exhaustionDue = false) : (grantSave lanes s).Good cap hand := by
  obtain ⟨ready, ok⟩ := law.saving (by rw [save]; nofun)
  have waiting := law.withWaiters (reads := s.journal.reads) (syncs := s.journal.syncs) (retry := s.journal.retry) (save := none)
    (hand' := lanes ++ hand) law.syncing law.retrying id nofun fun l => by
      rw [save, Option.getD_some, Option.getD_none, List.count_nil, List.count_append]
      omega
  refine State.Laws.withPort (hand := lanes ++ hand) waiting (fun p mem => ?_) (fun p mem => ?_) (fun p mem => ?_) fun l => ?_
  · have none : p ∈ s.journal.port := mem
    rw [free] at none
    exact nomatch none
  · cases mem
    rfl
  · cases mem
    exact ⟨ready, ok, due⟩
  · have none : portWaits s.journal.port l = 0 := by rw [free, portWaits_none]
    change portWaits _ l + _ ≤ portWaits s.journal.port l + _
    rw [none, portWaits_some, List.count_append, Nat.zero_add]
    exact Nat.le_refl _

theorem State.Laws.grantWaitingRead (law : s.Good cap hand) (free : s.journal.port = none) (ready : s.restore.part = .ready) :
    (grantWaitingRead s).Good cap hand := by
  unfold Machine.grantWaitingRead
  split
  next y rest reads =>
    have waiting := law.withWaiters (reads := rest) (syncs := s.journal.syncs) (retry := s.journal.retry) (save := s.journal.save)
      (hand' := y.lane :: hand) law.syncing law.retrying id law.saving fun l => by
        rw [reads, List.map_cons, List.count_cons, List.count_cons]
        omega
    refine State.Laws.withPort (hand := y.lane :: hand) waiting (fun p mem => ?_) (fun p mem => ?_) (fun p mem => ?_) fun l => ?_
    · have none : p ∈ s.journal.port := mem
      rw [free] at none
      exact nomatch none
    · cases mem
      rfl
    · cases mem
      exact .inl ready
    · have none : portWaits s.journal.port l = 0 := by rw [free, portWaits_none]
      change portWaits _ l + _ ≤ portWaits s.journal.port l + _
      rw [none, portWaits_some, Nat.zero_add]
      change [y.lane].count l + hand.count l ≤ (y.lane :: hand).count l
      rw [List.count_cons, List.count_cons, List.count_nil]
      omega
  next => exact law

theorem State.Laws.grantFault (law : s.Good cap hand) (free : s.journal.port = none) (ready : s.restore.part = .ready) :
    (grantFault s).Good cap hand := by
  unfold Machine.grantFault
  split
  next lanes retry => exact law.takePort (op := .retryHeader) free rfl rfl (by rw [PortOp.MayRun, retry]; nofun)
  next => exact law.grantWaitingRead free ready

end

end Sys2Proof.Machine
end

section
/-! PROOF. The laws as a record goes through the port: granted, durable, its images behind it, and its end (R125, R130, R132, R143). -/

namespace Sys2Proof.Machine

/-- The SYNCs of a kind and the others are all SYNCs. -/
theorem syncs_count_filter (syncs : List SyncWait) (p : SyncWait → Bool) (l : Lane) :
    ((syncs.filter p).map SyncWait.lane).count l + ((syncs.filter fun y => !p y).map SyncWait.lane).count l =
      (syncs.map SyncWait.lane).count l := by
  rw [← List.count_append, ← List.map_append]
  exact ((List.filter_append_perm p syncs).map SyncWait.lane).count_eq l

/-! ## The head of the queue -/

section
variable {j : JournalUnit} {q : QueueEntry} {rest : List QueueEntry}

/-- Of the records that wait the first has the next number, and each other a number after it. -/
theorem JournalUnit.head_of_numbers (numbers : j.waiting.map (fun q => q.record.sequence) =
    List.range' (j.lastDurable + 1) j.waiting.length) (waiting : j.waiting = q :: rest) :
    q.record.sequence = j.lastDurable + 1 ∧
      rest.map (fun q => q.record.sequence) = List.range' (j.lastDurable + 1 + 1) rest.length ∧
      ∀ x ∈ rest, j.lastDurable + 1 < x.record.sequence := by
  rw [waiting, List.map_cons, List.length_cons, List.range'_succ] at numbers
  obtain ⟨first, others⟩ := List.cons.inj numbers
  refine ⟨first, others, fun x mem => ?_⟩
  have listed := List.mem_map_of_mem (f := fun q : QueueEntry => q.record.sequence) mem
  rw [others, List.mem_range'_1] at listed
  exact listed.1

/-- With the head of the queue durable, the others wait. -/
theorem JournalUnit.waiting_of_durable (numbers : j.waiting.map (fun q => q.record.sequence) =
    List.range' (j.lastDurable + 1) j.waiting.length) (waiting : j.waiting = q :: rest) :
    rest.filter (fun x => decide (q.record.sequence < x.record.sequence)) = rest := by
  obtain ⟨first, -, later⟩ := JournalUnit.head_of_numbers numbers waiting
  exact List.filter_eq_self.2 fun x mem => decide_eq_true (first ▸ later x mem)

end

section
variable {cap : Prop} {hand : List Lane} {s : State} {w : Option StoreWrite} {r : Record}

/-- The queue and the port change together, no record joining or leaving those that wait. -/
theorem State.Laws.withQueue {queue : List QueueEntry} {port : Option PortUse} (law : s.Good cap hand)
    (ready : s.restore.part = .ready) (ok : s.journal.store = .ok)
    (kept : ({ s.journal with queue := queue, port := port } : JournalUnit).waiting.map (fun q => (q.record, q.owner)) =
      s.journal.waiting.map fun q => (q.record, q.owner))
    (atPort : ({ s.journal with queue := queue, port := port } : JournalUnit).AtPort)
    (suits : ∀ q ∈ queue, q.owner.suits q.record.body) (mayRun : ∀ p ∈ port, p.op.MayRun s.journal s.restore)
    (lanes : ∀ l, portWaits port l ≤ portWaits s.journal.port l) :
    ({ s with journal := { s.journal with queue := queue, port := port } } : State).Good cap hand := by
  have flight : ({ s with journal := { s.journal with queue := queue, port := port } } : State).inFlight = s.inFlight :=
    congrArg (s.engine.journalEvents.map _ ++ ·) kept
  have records : ({ s.journal with queue := queue, port := port } : JournalUnit).waiting.map QueueEntry.record =
      s.journal.waiting.map QueueEntry.record := by
    have first := congrArg (List.map Prod.fst) kept
    rwa [List.map_map, List.map_map] at first
  have earlier : ({ s with journal := { s.journal with queue := queue, port := port } } : State).earlierRecords =
      s.earlierRecords := congrArg (s.untakenRecords ++ ·) records
  have length := congrArg List.length kept
  rw [List.length_map, List.length_map] at length
  exact { law with
    next := law.next.trans (congrArg (s.journal.lastDurable + 1 + ·) length.symm)
    numbers := by
      have sequences := congrArg (List.map Record.sequence) records
      rw [List.map_map, List.map_map] at sequences
      exact sequences.trans (law.numbers.trans (congrArg (List.range' (s.journal.lastDurable + 1)) length.symm))
    atPort := atPort
    suits := suits
    mayRun := mayRun
    faultEmpty := fun fault => absurd (ok.symm.trans fault) nofun
    idle := fun unready => absurd ready unready
    closing := by rw [flight]; exact law.closing
    purse := by rw [flight]; exact law.purse
    owners := law.owners.of_waits (fun l => by
      have bound := lanes l
      unfold portWaits at bound
      rw [State.waits_eq, State.waits_eq, flight]
      dsimp only at bound ⊢
      omega) fun _ f owned => ⟨f, owned⟩
    caps := fun capped => by rw [earlier]; exact law.caps capped }

/-! ## The grant (R130) -/

theorem State.Laws.grantRecord {q : QueueEntry} {rest : List QueueEntry} (law : s.Good cap hand) (free : s.journal.port = none)
    (ready : s.restore.part = .ready) (ok : s.journal.store = .ok) (due : s.journal.exhaustionDue = false)
    (queue : s.journal.queue = q :: rest) : (grantRecord q s).Good cap hand := by
  obtain ⟨all, unwritten⟩ := law.atPort.resting fun p mem => by
    rw [free] at mem
    exact nomatch mem
  have before : s.journal.waiting = q :: rest := all.symm.trans queue
  obtain ⟨first, -, later⟩ := JournalUnit.head_of_numbers law.numbers before
  have marked : s.journal.queue.map (fun x => if x.record.sequence = q.record.sequence then { x with writing := true } else x) =
      { q with writing := true } :: rest := by
    rw [queue, List.map_cons, if_pos rfl]
    congr 1
    refine (List.map_congr_left fun x mem => if_neg ?_).trans (List.map_id rest)
    have := later x mem
    omega
  have waiting : ({ q with writing := true } :: rest).filter (fun x => decide (s.journal.lastDurable < x.record.sequence)) =
      { q with writing := true } :: rest := by
    refine List.filter_eq_self.2 fun x mem => decide_eq_true ?_
    obtain rfl | mem := List.mem_cons.1 mem
    · change s.journal.lastDurable < q.record.sequence
      omega
    · have := later x mem
      omega
  unfold Machine.grantRecord startWrite State.mapJournal
  dsimp only
  rw [marked]
  refine law.withQueue (queue := { q with writing := true } :: rest) ready ok ?_ ?_ (fun x mem => ?_) (fun p mem => ?_) fun l => ?_
  · rw [before]
    have both := congrArg (List.map fun q : QueueEntry => (q.record, q.owner)) waiting
    exact both
  · exact ⟨waiting.symm, _, rest, rfl, rfl, rfl, fun x mem => unwritten x (queue ▸ List.mem_cons_of_mem _ mem)⟩
  · obtain rfl | mem := List.mem_cons.1 mem
    · exact law.suits q (queue ▸ List.mem_cons_self)
    · exact law.suits x (queue ▸ List.mem_cons_of_mem _ mem)
  · cases mem
    exact ⟨ready, ok, due⟩
  · exact Nat.zero_le _

/-! ## A record durable (R130, R143) -/

/-- The state once the record at the head of the queue is durable and its entry gone, the port free. -/
def State.withDurable (r : Record) (s : State) : State :=
  { s with
    journal := { s.journal with
      lastDurable := r.sequence, syncs := s.journal.syncs.filter fun y => !(y.mark ≤ r.sequence),
      queue := s.journal.queue.tail, port := none }
    engine := { s.engine with journalEvents := s.engine.journalEvents ++ [.durable r (s.journal.ownerOf r)] } }

/-- The SYNCs that record `r` completes. -/
def State.metBy (s : State) (r : Record) : List Lane := (s.journal.syncs.filter fun y => y.mark ≤ r.sequence).map SyncWait.lane

theorem State.Laws.withDurable (law : s.Good cap hand) (held : s.journal.port = some ⟨.recordWrite r, w⟩) :
    (s.withDurable r).Good cap (s.metBy r ++ hand) ∧ ∃ q rest, s.journal.queue = q :: rest ∧ q.record = r ∧ q.writing = true ∧
      s.journal.ownerOf r = q.owner := by
  have atPort := law.atPort
  unfold JournalUnit.AtPort at atPort
  rw [held] at atPort
  obtain ⟨all, q, rest, queue, record, writing, unwritten⟩ := atPort
  have before : s.journal.waiting = q :: rest := all.symm.trans queue
  obtain ⟨first, numbers, later⟩ := JournalUnit.head_of_numbers law.numbers before
  have stay := JournalUnit.waiting_of_durable law.numbers before
  rw [record] at first stay
  have owner : s.journal.ownerOf r = q.owner := JournalUnit.ownerOf_of_find (by
    rw [queue]
    exact List.find?_cons_of_pos (by rw [record]; exact decide_eq_true rfl))
  obtain ⟨ready, ok, due⟩ := law.mayRun _ held
  have waiting : (s.withDurable r).journal.waiting = rest := by
    unfold State.withDurable JournalUnit.waiting
    dsimp only
    rw [queue]
    exact stay
  have flight : (s.withDurable r).inFlight = s.inFlight := by
    unfold State.inFlight
    rw [waiting, before]
    unfold State.withDurable
    dsimp only
    rw [List.map_append, List.append_assoc, owner, ← record]
    rfl
  have earlier : (s.withDurable r).earlierRecords = s.earlierRecords := by
    change (s.withDurable r).untakenRecords ++ (s.withDurable r).journal.waiting.map QueueEntry.record = _ ++ s.journal.waiting.map _
    rw [waiting, before]
    unfold State.untakenRecords State.withDurable
    dsimp only
    rw [List.filterMap_append, List.append_assoc, ← record]
    rfl
  refine ⟨{ law with
    next := ?_, numbers := ?_, atPort := ?_, suits := ?_, eventSuits := ?_, mayRun := forall_mem_none _
    faultEmpty := fun fault => absurd (ok.symm.trans fault) nofun
    retrying := fun retry => absurd (ok.symm.trans (law.retrying retry).2.1) nofun
    exhausting := fun now => absurd (due.symm.trans now) nofun
    syncing := ?_, idle := fun unready => absurd ready unready, closing := by rw [flight]; exact law.closing
    holds := law.holds.of_same (fun _ => rfl) rfl rfl fun _ => rfl
    purse := by rw [flight]; exact law.purse.of_same (fun _ => rfl) (fun _ => rfl) (fun _ => rfl) rfl rfl
    owners := ?_, caps := fun capped => by rw [earlier]; exact law.caps capped },
    q, rest, queue, record, writing, owner⟩
  · have next := law.next
    rw [before, List.length_cons] at next
    rw [waiting]
    change s.journal.nextSeq = r.sequence + 1 + rest.length
    omega
  · rw [waiting]
    exact numbers.trans (by rw [← first]; rfl)
  · refine JournalUnit.atPort_of_resting ⟨?_, fun x mem => ?_⟩ (forall_mem_none _)
    · rw [waiting]
      exact congrArg List.tail queue
    · have mem : x ∈ s.journal.queue.tail := mem
      rw [queue] at mem
      exact unwritten x mem
  · exact fun x mem => law.suits x (List.mem_of_mem_tail mem)
  · intro x mem
    obtain mem | mem := List.mem_append.1 mem
    · exact law.eventSuits x mem
    · rw [List.mem_singleton.1 mem]
      change (s.journal.ownerOf r).suits r.body
      rw [owner, ← record]
      exact law.suits q (queue ▸ List.mem_cons_self)
  · intro y mem
    obtain ⟨mem, beyond⟩ := List.mem_filter.1 mem
    have late : r.sequence < y.mark := by simpa using beyond
    exact ⟨late, (law.syncing y mem).2⟩
  · refine law.owners.of_waits (fun l => ?_) fun _ f owned => ⟨f, owned⟩
    have split := syncs_count_filter s.journal.syncs (fun y => decide (y.mark ≤ r.sequence)) l
    rw [State.waits_eq, State.waits_eq, flight, List.count_append]
    change _ + _ + _ + ((s.journal.syncs.filter fun y => !(decide (y.mark ≤ r.sequence))).map SyncWait.lane).count l + _ + _ + 0 + _ +
      (((s.journal.syncs.filter fun y => decide (y.mark ≤ r.sequence)).map SyncWait.lane).count l + _) ≤ _
    rw [← split]
    change s.arbiter.intake.toList.count l + _ + (s.journal.reads.map ReadWait.lane).count l + _ + (s.journal.retry.getD []).count l +
      (s.journal.save.getD []).count l + 0 + s.restore.format.toList.count l + _ ≤ _
    omega

/-! ## The images behind a record (R132, R133) -/

/-- A durable record stands before those that wait while its images are written. -/
theorem State.Laws.imagesFollow {q : QueueEntry} {k : Nat} {rest : List Nat} {w' : Option StoreWrite} (law : s.Good cap hand)
    (free : s.journal.port = none) (ready : s.restore.part = .ready) (ok : s.journal.store = .ok)
    (due : s.journal.exhaustionDue = false) (durable : r.sequence = s.journal.lastDurable)
    (suffix : (k :: rest) <:+ imageSlots r.body) (suits : q.owner.suits q.record.body) (record : q.record = r)
    (writing : q.writing = true) :
    ({ s with journal := { s.journal with
      queue := q :: s.journal.queue, port := some ⟨.imageWrites r k rest, w'⟩ } } : State).Good cap hand := by
  obtain ⟨all, unwritten⟩ := law.atPort.resting fun p mem => by
    rw [free] at mem
    exact nomatch mem
  have waiting : (q :: s.journal.queue).filter (fun x => decide (s.journal.lastDurable < x.record.sequence)) = s.journal.queue := by
    rw [List.filter_cons_of_neg (by rw [record, durable]; simp)]
    exact all.symm
  refine law.withQueue ready ok ?_ ?_ (fun x mem => ?_) (fun p mem => ?_) fun l => ?_
  · have same := congrArg (List.map fun q : QueueEntry => (q.record, q.owner)) (waiting.trans all)
    exact same
  · refine ⟨durable, suffix, q, congrArg (q :: ·) waiting.symm, record, writing, fun x mem => unwritten x ?_⟩
    exact waiting ▸ mem
  · obtain rfl | mem := List.mem_cons.1 mem
    · exact suits
    · exact law.suits x mem
  · cases mem
    exact ⟨ready, ok, due⟩
  · exact Nat.zero_le _

/-- What the images of a durable record stand before. -/
theorem State.Laws.imagesAt {k : Nat} {rest : List Nat} (law : s.Good cap hand)
    (held : s.journal.port = some ⟨.imageWrites r k rest, w⟩) : r.sequence = s.journal.lastDurable ∧
      (k :: rest) <:+ imageSlots r.body ∧ ∃ q, s.journal.queue = q :: s.journal.waiting ∧ q.record = r ∧ q.writing = true ∧
        ∀ x ∈ s.journal.waiting, x.writing = false := by
  have atPort := law.atPort
  unfold JournalUnit.AtPort at atPort
  rw [held] at atPort
  exact atPort

/-- The images of a durable record leave the port, and its entry the queue. -/
theorem State.Laws.imagesLeft {k : Nat} {rest : List Nat} (law : s.Good cap hand)
    (held : s.journal.port = some ⟨.imageWrites r k rest, w⟩) :
    ({ s with journal := { s.journal with queue := s.journal.waiting, port := none } } : State).Good cap hand := by
  obtain ⟨-, -, q, queue, -, -, unwritten⟩ := law.imagesAt held
  obtain ⟨ready, ok, -⟩ := law.mayRun _ held
  have waiting : ({ s.journal with queue := s.journal.waiting, port := none } : JournalUnit).waiting = s.journal.waiting :=
    List.filter_eq_self.2 fun x mem => (List.mem_filter.1 mem).2
  refine law.withQueue ready ok ?_ ?_ (fun x mem => ?_) (forall_mem_none _) fun l => Nat.zero_le _
  · rw [waiting]
  · exact JournalUnit.atPort_of_resting ⟨waiting.symm, unwritten⟩ (forall_mem_none _)
  · exact law.suits x (queue ▸ List.mem_cons_of_mem q mem)

/-- The exhaustion is noted with the journal's last record (R127). -/
theorem State.Laws.noteExhausted {due : Bool} (law : s.Good cap hand) (free : s.journal.port = none) (ready : s.restore.part = .ready)
    (ok : s.journal.store = .ok) (last : due = true → 4294967231 ≤ s.journal.lastDurable) :
    ({ s with journal := { s.journal with exhaustionDue := due } } : State).Good cap hand :=
  { law with
    mayRun := fun p mem => by
      have mem : p ∈ s.journal.port := mem
      rw [free] at mem
      exact nomatch mem
    exhausting := fun now => ⟨ready, ok, last now⟩ }

/-- The next image follows, or the record's end, its entry set before those that wait. -/
theorem State.Laws.nextImage {u : State} {q : QueueEntry} {slots : List Nat} {port : Option PortUse} (law : u.Good cap hand)
    (free : u.journal.port = none) (ready : u.restore.part = .ready) (ok : u.journal.store = .ok)
    (due : u.journal.exhaustionDue = false) (durable : r.sequence = u.journal.lastDurable)
    (suffix : slots <:+ imageSlots r.body) (suits : q.owner.suits q.record.body) (record : q.record = r) (writing : q.writing = true)
    (before : s = { u with journal := { u.journal with queue := q :: u.journal.queue, port := port } }) :
    (nextImage r slots s).Good cap hand := by
  subst before
  cases slots with
  | cons k rest => exact law.imagesFollow free ready ok due durable suffix suits record writing
  | nil =>
    have all := (law.atPort.resting fun p mem => by
      rw [free] at mem
      exact nomatch mem).1
    have left : (q :: u.journal.queue).filter (fun q => decide (q.record.sequence ≠ r.sequence)) = u.journal.queue := by
      rw [List.filter_cons_of_neg (by rw [record]; simp)]
      refine List.filter_eq_self.2 fun x mem => decide_eq_true ?_
      have waits : x ∈ u.journal.waiting := all ▸ mem
      have later : u.journal.lastDurable < x.record.sequence := of_decide_eq_true (List.mem_filter.1 waits).2
      omega
    rw [nextImage_nil]
    dsimp only
    rw [left]
    have ended := law.noteExhausted (due := u.journal.exhaustionDue || decide (4294967231 ≤ r.sequence)) free ready ok fun now => by
      rw [due, Bool.false_or] at now
      exact durable ▸ of_decide_eq_true now
    have same : ({ u with journal := { u.journal with
        queue := u.journal.queue, exhaustionDue := u.journal.exhaustionDue || decide (4294967231 ≤ r.sequence), port := none } } :
        State) = { u with journal := { u.journal with
          exhaustionDue := u.journal.exhaustionDue || decide (4294967231 ≤ r.sequence) } } := by
      rw [← free]
    exact same ▸ ended

theorem State.Laws.imageWritten {k : Nat} {rest : List Nat} (law : s.Good cap hand)
    (held : s.journal.port = some ⟨.imageWrites r k rest, w⟩) : (Machine.nextImage r rest s).Good cap hand := by
  obtain ⟨durable, suffix, q, queue, record, writing, -⟩ := law.imagesAt held
  obtain ⟨ready, ok, due⟩ := law.mayRun _ held
  refine State.Laws.nextImage (q := q) (port := s.journal.port) (law.imagesLeft held) rfl ready ok due durable
    ((List.suffix_cons k rest).trans suffix) (law.suits q (queue ▸ List.mem_cons_self)) record writing ?_
  dsimp only
  rw [← queue]

theorem State.Laws.recordDurable (law : s.Good cap hand) (held : s.journal.port = some ⟨.recordWrite r, w⟩) :
    (recordDurable r s).Good cap hand := by
  obtain ⟨taken, q, rest, queue, record, writing, owner⟩ := law.withDurable held
  obtain ⟨ready, ok, due⟩ := law.mayRun _ held
  have answered := State.Laws.fillAll taken .ok
  have made := fillAll_of_lanes (s := s) (t := s.withDurable r) (s.metBy r) .ok rfl
  rw [made] at answered
  rw [recordDurable_eq]
  refine State.Laws.nextImage (q := q) (port := s.journal.port) answered rfl ready ok due rfl List.suffix_rfl
    (law.suits q (queue ▸ List.mem_cons_self)) record writing ?_
  unfold State.withDurable State.metBy
  dsimp only
  rw [queue, List.tail_cons, ← queue]

end

end Sys2Proof.Machine
end

section
/-! PROOF. The laws as the store enters FAULT (R127, R134, R135), and as the port is granted with the store OK (R142). -/

namespace Sys2Proof.Machine

section
variable {cap : Prop} {hand hand' : List Lane} {s : State} {w : Option StoreWrite}

/-! ## FAULT -/

/-- The first record that waits gives the number that the next one gets once all are abandoned. -/
theorem JournalUnit.next_of_abandoned {j : JournalUnit} (next : j.nextSeq = j.lastDurable + 1 + j.waiting.length)
    (numbers : j.waiting.map (fun q => q.record.sequence) = List.range' (j.lastDurable + 1) j.waiting.length) :
    (j.waiting.head?.map fun q => q.record.sequence).getD j.nextSeq = j.lastDurable + 1 := by
  cases waiting : j.waiting with
  | nil =>
    rw [waiting, List.length_nil, Nat.add_zero] at next
    exact next
  | cons q rest => exact (JournalUnit.head_of_numbers numbers waiting).1

/-- Every SYNC that waits lies at or after a record that is abandoned. -/
theorem State.Laws.syncs_abandoned (law : s.Good cap hand) : ∀ y ∈ s.journal.syncs,
    (s.journal.waiting.any fun q => decide (q.record.sequence ≤ y.mark)) = true := by
  intro y mem
  obtain ⟨after, before⟩ := law.syncing y mem
  have next := law.next
  cases waiting : s.journal.waiting with
  | nil =>
    rw [waiting, List.length_nil] at next
    omega
  | cons q rest =>
    have first := (JournalUnit.head_of_numbers law.numbers waiting).1
    exact List.any_eq_true.2 ⟨q, List.mem_cons_self, decide_eq_true (by omega)⟩

/-- The journal in FAULT, its records abandoned: `port` holds the port, and nobody waits for a save or a SYNC. -/
def JournalUnit.faulted (void : Option Nat) (port : Option PortUse) (stale : List Nat) (j : JournalUnit) : JournalUnit :=
  { j with
    port := port, stale := stale, exhaustionDue := false, store := .fault, queue := [], save := none,
    nextSeq := j.lastDurable + 1, voidSlot := void.or j.voidSlot, syncs := [] }

/-- The state in FAULT, but for the flag and for the replies to those that wait on what is abandoned. -/
def State.faulted (void : Option Nat) (port : Option PortUse) (stale : List Nat) (s : State) : State :=
  { s with
    engine := { s.engine with
      journalEvents := s.engine.journalEvents ++ s.journal.waiting.map fun x => .abandoned x.record x.owner }
    journal := s.journal.faulted void port stale }

theorem State.Laws.enterFault_faulted {void : Option Nat} {port : Option PortUse} {stale : List Nat} {due : Bool}
    (law : s.Good cap hand) (clear : due = false) : enterFault void { s with
      journal := { s.journal with port := port, stale := stale, exhaustionDue := due } } =
    Machine.fillAll (s.journal.save.getD [] ++ s.journal.syncs.map SyncWait.lane) .storeFault
      { s.faulted void port stale with notices := (Machine.raiseFlag .storeFault s).notices } := by
  have nobody := List.filter_eq_nil_iff (p := fun y : SyncWait =>
    !s.journal.waiting.any fun q => decide (q.record.sequence ≤ y.mark)).2 fun y mem => by rw [law.syncs_abandoned y mem]; decide
  have everybody := List.filter_eq_self.2 law.syncs_abandoned
  have next := JournalUnit.next_of_abandoned law.next law.numbers
  have waiting : ({ s.journal with port := port, stale := stale, exhaustionDue := due } : JournalUnit).waiting =
    s.journal.waiting := rfl
  refine (enterFault_of_same (s := s) (t := { s with
    journal := { s.journal with port := port, stale := stale, exhaustionDue := due } }) void rfl rfl rfl).trans ?_
  dsimp only
  rw [waiting, everybody, nobody, next, clear]
  exact (fillAll_of_lanes (s := s) (t := { s.faulted void port stale with
    notices := (Machine.raiseFlag .storeFault s).notices }) _ .storeFault rfl).symm

/-- What is abandoned takes no effect. -/
theorem State.earlierRecords_faulted (void : Option Nat) (port : Option PortUse) (stale : List Nat) (s : State) :
    (s.faulted void port stale).earlierRecords = s.untakenRecords := by
  have nothing : (s.journal.waiting.map fun x => JournalEvent.abandoned x.record x.owner).filterMap JournalEvent.durableRecord =
      [] := by
    rw [List.filterMap_map]
    exact List.filterMap_eq_nil_iff.2 fun _ _ => rfl
  change (s.engine.journalEvents ++ _).filterMap JournalEvent.durableRecord ++ [] = _
  rw [List.append_nil, List.filterMap_append, nothing, List.append_nil]
  rfl

/-- The store enters FAULT; an operation that holds the port after it is one that runs on every journal. -/
theorem State.Laws.enterFault {void : Option Nat} {port : Option PortUse} {stale : List Nat} {due : Bool} (law : s.Good cap hand)
    (ready : s.restore.part = .ready) (ok : s.journal.store = .ok) (clear : due = false)
    (plain : ∀ p ∈ port, p.op.plain = true) (mayRun : ∀ p ∈ port, ∀ j, p.op.MayRun j s.restore)
    (lanes : ∀ l, portWaits port l + hand'.count l ≤ portWaits s.journal.port l + hand.count l) :
    (enterFault void { s with
      journal := { s.journal with port := port, stale := stale, exhaustionDue := due } }).Good cap hand' := by
  rw [law.enterFault_faulted clear]
  refine State.Laws.fillAll (State.Laws.mapNotices (s := s.faulted void port stale) ?_ fun _ => _) _
  have waiting : (s.faulted void port stale).journal.waiting = [] := rfl
  have flight : (s.faulted void port stale).inFlight = s.inFlight := by
    unfold State.inFlight
    rw [waiting]
    unfold State.faulted
    dsimp only
    rw [List.map_nil, List.append_nil, List.map_append, List.map_map]
    rfl
  have retry : s.journal.retry = none := by
    by_contra retries
    exact nomatch ok.symm.trans (law.retrying retries).2.1
  exact { law with
    next := rfl
    numbers := rfl
    atPort := JournalUnit.atPort_of_resting ⟨rfl, List.forall_mem_nil _⟩ plain
    suits := List.forall_mem_nil _
    eventSuits := fun x mem => by
      obtain mem | mem := List.mem_append.1 mem
      · exact law.eventSuits x mem
      · obtain ⟨q, waits, rfl⟩ := List.mem_map.1 mem
        exact law.suits q (List.mem_of_mem_filter waits)
    mayRun := fun p mem => mayRun p mem _
    faultEmpty := fun _ => rfl
    retrying := fun retries => absurd retry retries
    saving := absurd rfl
    exhausting := nofun
    syncing := List.forall_mem_nil _
    idle := fun unready => absurd ready unready
    restoring := fun restoring => absurd (ready.symm.trans restoring) nofun
    closing := by rw [flight]; exact law.closing
    holds := law.holds.of_same (fun _ => rfl) rfl rfl fun _ => rfl
    purse := by rw [flight]; exact law.purse.of_same (fun _ => rfl) (fun _ => rfl) (fun _ => rfl) rfl rfl
    owners := law.owners.of_waits (fun l => by
      have bound := lanes l
      rw [State.waits_eq, State.waits_eq, flight, List.count_append, List.count_append]
      change s.arbiter.intake.toList.count l + (lanesOf s.inFlight).count l + (s.journal.reads.map ReadWait.lane).count l + 0 +
        (s.journal.retry.getD []).count l + 0 + portWaits port l + s.restore.format.toList.count l + _ ≤
        _ + _ + _ + _ + _ + _ + portWaits s.journal.port l + _ + _
      omega) fun _ f owned => ⟨f, owned⟩
    caps := fun capped => by
      rw [s.earlierRecords_faulted]
      exact Engine.Caps.shorter (e := s.engine) (law.caps capped) (List.prefix_append ..) }

end

end Sys2Proof.Machine
end

section
/-! PROOF. A purse table that no hold and no record touches: after a reset, as the restore rebuilds it, and after a format (R22, R192,
R198). -/

namespace Sys2Proof.Machine

/-- Every purse stands alone: nothing is held of it, no record names it, and a card purse sits where the map puts its card. -/
structure Engine.Untouched (e : Engine) : Prop where
  card : ∀ slot, e.card slot = CardPurse.free.withAfter (e.card slot).after
  region : ∀ slot, e.isCardSlot slot = false → e.card slot = (e.card slot).emptied
  mapped : ∀ slot, (e.card slot).state ≠ .free → slotOf e.ranges (e.card slot).cardNumber = some slot
  sponsor : ∀ n, e.sponsor n = ⟨(e.sponsor n).balance, 0, 0⟩

namespace Engine
section
variable {e : Engine} {k : Nat}

theorem untouched_of_empty (cards : e.cards = []) (sponsors : e.sponsors = []) : e.Untouched := by
  have card (slot : Nat) : e.card slot = CardPurse.free := by rw [Engine.card, cards]; rfl
  have sponsor (n : Nat) : e.sponsor n = SponsorPurse.zero := by rw [Engine.sponsor, sponsors]; rfl
  refine ⟨fun slot => ?_, fun slot _ => ?_, fun slot taken => ?_, fun n => ?_⟩
  · rw [card]; rfl
  · rw [card]; rfl
  · rw [card] at taken
    exact absurd rfl taken
  · rw [sponsor]; rfl

/-- The laws of purses, where no hold is open and no record in flight. -/
theorem Untouched.purseLaw {list : List DeadlineEntry} (alone : e.Untouched) (holds : e.HoldLaw list) (none : e.openHolds = 0)
    (map : e.mapOk) (number : Nat) : e.PurseLaw number [] [] where
  settledOnce := List.nodup_nil
  settling := fun h => iff_of_false List.not_mem_nil fun settling => holds.noneOpen none h (.inr settling)
  covers := List.forall_mem_nil _
  map := map
  card := fun slot => by
    have own := alone.card slot
    have region := alone.region slot
    have mapped := alone.mapped slot
    generalize e.card slot = p at own region mapped
    rw [own]
    exact {
      cashHeld := rfl, allowanceHeld := rfl, outgoing := rfl, topUps := rfl, cash := Nat.zero_le _, allowance := Nat.zero_le _
      current := fun held => absurd rfl held
      pending := rfl
      region := fun outside => by rw [← own]; exact region outside
      mapped := fun taken => by
        rw [← own] at taken ⊢
        refine taken.elim mapped fun pending => absurd ?_ pending
        rw [own]
        rfl
      closing := nofun }
  sponsor := fun n => by
    have none : e.sponsorShares n = 0 := by
      unfold sponsorShares
      rw [List.filter_eq_nil_iff.2 fun k _ => by simp [holds.noHolds none k]]
      rfl
    rw [alone.sponsor n]
    exact ⟨none.symm, Nat.zero_le _, rfl⟩
  holdSponsors := fun k opened => absurd (holds.noHolds none k) opened
  flightSponsors := List.forall_mem_nil _
  finds := List.forall_mem_nil _

/-- A fitted purse put in its slot leaves the table untouched. -/
theorem Untouched.place {i : Image} {x : Fitted} (alone : e.Untouched)
    (canonical : Table.wf .free e.cards = true ∧ Table.wf .zero e.sponsors = true) (fits : fitPurse e k i = some x) :
    (placePurse k x e).Untouched := by
  cases x with
  | sponsor balance =>
    refine ⟨alone.card, alone.region, alone.mapped, fun n => ?_⟩
    by_cases own : n = 4095 - k
    · subst own
      unfold placePurse
      rw [Engine.sponsor_mapSponsor_same e canonical.2]
      rfl
    · unfold placePurse
      rw [Engine.sponsor_mapSponsor_other e own]
      exact alone.sponsor n
  | card p =>
    have shape : e.isCardSlot k = true ∧ p = CardPurse.free.withAfter p.after ∧
        (p.state ≠ .free → slotOf e.ranges p.cardNumber = some k) := by
      unfold fitPurse at fits
      split at fits
      · split at fits
        next inside =>
          split at fits
          · cases fits
            exact ⟨inside, rfl, fun taken => absurd rfl taken⟩
          · cases fits
        · cases fits
      · dsimp only at fits
        split at fits
        next inside =>
          split at fits
          next sits =>
            cases fits
            exact ⟨inside, rfl, sits.resolve_left⟩
          · cases fits
        · split at fits <;> cases fits
    obtain ⟨inside, own, sits⟩ := shape
    have same : (placePurse k (.card p) e).card k = p := Engine.card_mapCard_same e canonical.1 k _
    have other {slot : Nat} (apart : slot ≠ k) : (placePurse k (.card p) e).card slot = e.card slot :=
      Engine.card_mapCard_other e apart _
    refine ⟨fun slot => ?_, fun slot outside => ?_, fun slot taken => ?_, alone.sponsor⟩
    · by_cases here : slot = k
      · rw [here, same]
        exact own
      · rw [other here]
        exact alone.card slot
    · by_cases here : slot = k
      · subst here
        have inside' : (placePurse slot (.card p) e).isCardSlot slot = true := inside
        exact absurd outside (by rw [inside']; decide)
      · rw [other here]
        exact alone.region slot outside
    · by_cases here : slot = k
      · subst here
        rw [same] at taken ⊢
        exact sits taken
      · rw [other here] at taken ⊢
        exact alone.mapped slot taken

/-- The table rebuilt is untouched, and nothing else of the engine has changed. -/
theorem Untouched.rebuild {image : Nat → Option Image} {records : List Record} {ks : List Nat} {e' : Engine}
    {rewrites rewrites' : List (Nat × List Byte)} (alone : e.Untouched)
    (canonical : Table.wf .free e.cards = true ∧ Table.wf .zero e.sponsors = true)
    (ok : rebuild image records ks e rewrites = .ok (e', rewrites')) :
    e'.Untouched ∧ (Table.wf .free e'.cards = true ∧ Table.wf .zero e'.sponsors = true) ∧
      e' = { e with cards := e'.cards, sponsors := e'.sponsors } := by
  induction ks generalizing e rewrites with
  | nil =>
    cases ok
    exact ⟨alone, canonical, rfl⟩
  | cons k ks ih =>
    unfold Machine.rebuild at ok
    split at ok
    · cases ok
    · split at ok
      · cases ok
      next x fits =>
        obtain ⟨untouched, tables, frame⟩ := ih (alone.place canonical fits) (placePurse_tables x canonical) ok
        refine ⟨untouched, tables, frame.trans ?_⟩
        rw [placePurse_frame]

end
end Engine

end Sys2Proof.Machine
end

section
/-! PROOF. The laws through the restore (R188 to R195). -/

namespace Sys2Proof.Machine

/-- A configuration that can be loaded: its map passes the checks, its enabled entries name sponsors of the region, and no lane is
allowed more than 64 holds (R14, R15, R206). -/
structure WorkingConfig.Loads (c : WorkingConfig) : Prop where
  map : slotEndsInOrder c.ranges = true ∧ clearOfSponsors c.ranges c.sponsorCount = true ∧ cardsApart c.ranges = true ∧
    ∀ k : Fin 8, c.ranges[k].enabled = true → ∀ n ∈ c.ranges[k].sponsor, n < c.sponsorCount
  limits : ∀ l : Lane, c.lanes[l].holdLimit ≤ 64

theorem WorkingConfig.default_loads : WorkingConfig.default.Loads where
  map := by
    unfold WorkingConfig.default
    decide
  limits := by
    unfold WorkingConfig.default
    decide

theorem WorkingConfig.inRange.loads {c : WorkingConfig} (inRange : c.inRange)
    (enabled : ∀ k : Fin 8, c.ranges[k].enabled = true → ∀ n ∈ c.ranges[k].sponsor, n < c.sponsorCount) : c.Loads := by
  obtain ⟨-, -, -, -, -, lanes, -, -, order, clear, apart⟩ := inRange
  exact ⟨⟨order, clear, apart, enabled⟩, fun l => (lanes l).2.2.2.2⟩

/-- A configuration found in the header is in range. -/
theorem judgeHeader_inRange {h : List Byte} {base period : Nat} {c : WorkingConfig} (length : h.length = 430)
    (found : judgeHeader h = .good base period (some c)) : c.inRange := by
  unfold judgeHeader at found
  split at found
  · cases found
  · split at found
    · cases found
    · dsimp only at found
      injection found with _ _ read
      split at read
      next => exact ((readConfigBlock_eq_some (by rw [List.length_take, List.length_drop, length]; rfl)).1 read).1
      next => cases read

section
variable {cap : Prop} {hand : List Lane} {s : State}

/-! ## Nothing is under way before READY -/

/-- Before READY the journal has no record, nobody waits for it, and no hold is open. -/
theorem State.Laws.unready (law : s.Good cap hand) (unready : s.restore.part ≠ .ready) :
    s.inFlight = [] ∧ s.journal.syncs = [] ∧ s.journal.retry = none ∧ s.journal.save = none ∧ s.journal.exhaustionDue = false ∧
      s.journal.queue = [] ∧ s.engine.journalEvents = [] ∧ s.engine.openHolds = 0 ∧ s.period.state = .opened := by
  obtain ⟨noHold, opened, queue, events, -⟩ := law.idle unready
  have waiting : s.journal.waiting = [] := by rw [JournalUnit.waiting, queue]; rfl
  have next := law.next
  rw [waiting, List.length_nil] at next
  refine ⟨?_, List.eq_nil_iff_forall_not_mem.2 fun w mem => ?_, ?_, ?_, ?_, queue, events, noHold, opened⟩
  · unfold State.inFlight
    rw [events, waiting]
    rfl
  · obtain ⟨after, before⟩ := law.syncing w mem
    omega
  · by_contra retries
    exact unready (law.retrying retries).1
  · by_contra saves
    exact unready (law.saving saves).1
  · by_contra due
    exact unready (law.exhausting (by simpa using due)).1

/-- While the restore has rewritten no image yet the port is free, and the purse table is empty. -/
theorem State.Laws.unbuilt (law : s.Good cap hand) (restoring : s.restore.part = .restoring)
    (early : ∀ n records rest, s.restore.stage ≠ .rewriting n records rest) :
    s.journal.port = none ∧ s.engine.cards = [] ∧ s.engine.sponsors = [] := by
  have empty := (law.restoring restoring).2.resolve_left fun ⟨n, records, rest, stage⟩ => early n records rest stage
  refine ⟨Option.eq_none_iff_forall_ne_some.2 fun p held => ?_, empty⟩
  have may := law.mayRun p held
  obtain ⟨-, -, retry, -⟩ := law.unready (by rw [restoring]; nofun)
  obtain ⟨op, w⟩ := p
  cases op with
  | recordWrite | imageWrites | staleImage | saveBlock | saveCheck => exact nomatch restoring.symm.trans may.1
  | retryHeader | retryCheck | retryVoid => exact may retry
  | formatClear | formatVoid | formatImage | formatHeader => exact nomatch restoring.symm.trans may
  | restoreImage =>
    obtain ⟨-, n, records, rest, stage⟩ := may
    exact early n records rest stage
  | journalRead =>
    exact may.elim (fun ready => nomatch restoring.symm.trans ready) fun formatting => nomatch restoring.symm.trans formatting

/-! ## The steps -/

/-- The restore goes on to a stage, or ends short of READY. -/
theorem State.Laws.restoreStage {part : PartState} {finding : Finding} {stage : RestoreStage} {base period : Nat}
    (law : s.Good cap hand) (free : s.journal.port = none) (unready : s.restore.part ≠ .ready)
    (still : part = .restoring ∧ s.restore.part = .restoring ∧ (s.engine.cards = [] ∧ s.engine.sponsors = []) ∨
      part = .unformatted ∨ part = .restoreFailed) :
    ({ s with restore := { s.restore with
      part := part, finding := finding, stage := stage, ringBase := base, formatPeriod := period } } : State).Good cap hand := by
  obtain ⟨-, -, retry, save, due, -⟩ := law.unready unready
  exact { law with
    mayRun := fun p mem => by
      have mem : p ∈ s.journal.port := mem
      rw [free] at mem
      exact nomatch mem
    retrying := fun retries => absurd retry retries
    saving := fun saves => absurd save saves
    exhausting := fun now => absurd (due.symm.trans now) nofun
    idle := fun _ => law.idle unready
    restoring := fun now => by
      obtain ⟨-, restoring, empty⟩ | stopped | stopped := still
      · exact ⟨(law.restoring restoring).1, .inr empty⟩
      · exact nomatch stopped.symm.trans now
      · exact nomatch stopped.symm.trans now }

theorem State.Laws.loadConfig {c : WorkingConfig} (law : s.Good cap hand) (loads : c.Loads) (source : ConfigSource)
    (restoring : s.restore.part = .restoring) (stage : s.restore.stage = .header) : (loadConfig c source s).Good cap hand := by
  have unready : s.restore.part ≠ .ready := by rw [restoring]; nofun
  obtain ⟨free, cards, sponsors⟩ := law.unbuilt restoring (by rw [stage]; nofun)
  obtain ⟨flight, -, -, -, -, -, -, noHold, -⟩ := law.unready unready
  have lane (l : Lane) : (Machine.loadConfig c source s).lanes[l] = s.lanes[l].opened c.lanes[l] := loadConfig_lane c source l
  have flight' : (Machine.loadConfig c source s).inFlight = [] := flight
  have holds : (Machine.loadConfig c source s).engine.HoldLaw s.deadlines.list :=
    law.holds.of_same (fun _ => rfl) rfl rfl fun _ => rfl
  exact { law with
    limits := fun l => by
      rw [lane]
      exact loads.limits l
    holds := holds
    purse := by
      rw [flight']
      exact (Engine.untouched_of_empty (e := (Machine.loadConfig c source s).engine) cards sponsors).purseLaw holds noHold loads.map _
    owners := law.owners.of_waits (fun _ => Nat.le_refl _) fun l f owned => ⟨f, by
      rw [lane]
      exact owned⟩ }

theorem State.Laws.loadHeader {found : HeaderFound} (law : s.Good cap hand) (restoring : s.restore.part = .restoring)
    (stage : s.restore.stage = .header) (loads : ∀ base period c, found = .good base period (some c) → c.Loads) :
    (loadHeader found s).Good cap hand := by
  have unready : s.restore.part ≠ .ready := by rw [restoring]; nofun
  obtain ⟨free, cards, sponsors⟩ := law.unbuilt restoring (by rw [stage]; nofun)
  have defaults := law.loadConfig WorkingConfig.default_loads .defaults restoring stage
  unfold Machine.loadHeader
  split
  next => exact defaults.restoreStage free unready (.inr (.inl rfl))
  next => exact defaults.restoreStage free unready (.inr (.inr rfl))
  next base period =>
    rw [raiseFlag_eq]
    exact (defaults.restoreStage (part := s.restore.part) (finding := s.restore.finding) free unready
      (.inl ⟨restoring, restoring, cards, sponsors⟩)).mapNotices fun _ => _
  next base period c =>
    exact (law.loadConfig (loads base period c rfl) .header restoring stage).restoreStage (part := s.restore.part) free unready
      (.inl ⟨restoring, restoring, cards, sponsors⟩)

theorem State.Laws.scanRing {defaulted : Bool} {units : List (Option Record)} (law : s.Good cap hand)
    (restoring : s.restore.part = .restoring) (stage : s.restore.stage = .ringScan defaulted) :
    (scanRing defaulted units s).Good cap hand := by
  have unready : s.restore.part ≠ .ready := by rw [restoring]; nofun
  obtain ⟨free, empty⟩ := law.unbuilt restoring (by rw [stage]; nofun)
  unfold Machine.scanRing
  dsimp only
  split
  · exact law.restoreStage (part := s.restore.part) free unready (.inl ⟨restoring, restoring, empty⟩)
  · exact law.restoreStage free unready (.inr (.inr rfl))

end

end Sys2Proof.Machine
end

section
/-! PROOF. The laws as the restore rebuilds the purse table and ends (R192 to R195), and through a format (R196 to R198). -/

namespace Sys2Proof.Machine

section
variable {cap : Prop} {hand : List Lane} {s : State} {w : Option StoreWrite}

/-! ## The purses (R192) -/

/-- The state in which the restore rewrites images, the port being free. -/
def State.rewriting (newest : Nat) (records : List Record) (rest : List (Nat × List Byte)) (s : State) : State :=
  { s with
    journal := { s.journal with port := none }
    restore := { s.restore with stage := .rewriting newest records rest } }

/-- The table is rebuilt. -/
theorem State.Laws.rebuilt {image : Nat → Option Image} {records found : List Record} {ks : List Nat} {e : Engine} {newest : Nat}
    {rewrites rewrites' rest : List (Nat × List Byte)} (law : s.Good cap hand) (restoring : s.restore.part = .restoring)
    (early : ∀ n records rest, s.restore.stage ≠ .rewriting n records rest)
    (ok : rebuild image found ks s.engine rewrites = .ok (e, rewrites')) :
    (({ s with engine := e } : State).rewriting newest records rest).Good False hand := by
  have unready : s.restore.part ≠ .ready := by rw [restoring]; nofun
  obtain ⟨free, cards, sponsors⟩ := law.unbuilt restoring early
  obtain ⟨flight, -, -, -, -, -, events, noHold, -⟩ := law.unready unready
  obtain ⟨untouched, tables, frame⟩ :=
    (Engine.untouched_of_empty cards sponsors).rebuild ⟨law.tables.1, law.tables.2.1⟩ ok
  have holds : e.HoldLaw s.deadlines.list := by
    refine law.holds.of_same (fun k => ?_) ?_ ?_ fun slot => ?_
    · rw [frame]; rfl
    · rw [frame]
    · rw [frame]
    · rw [law.holds.emptyLists noHold slot, untouched.card slot]
      rfl
  have openHolds : e.openHolds = s.engine.openHolds := by rw [frame]; rfl
  have map : e.mapOk := by
    rw [frame]
    exact law.purse.map
  have flight' : (({ s with engine := e } : State).rewriting newest records rest).inFlight = [] := by
    rw [← flight]
    unfold State.inFlight
    rw [frame]
    rfl
  have events' : e.journalEvents = [] := by rw [frame]; exact events
  exact { law with
    tables := ⟨tables.1, tables.2, by rw [frame]; exact law.tables.2.2⟩
    atPort := JournalUnit.atPort_of_resting (law.atPort.resting fun p mem => by rw [free] at mem; exact nomatch mem) (forall_mem_none _)
    eventSuits := fun x mem => by
      have mem : x ∈ e.journalEvents := mem
      rw [events'] at mem
      exact nomatch mem
    mayRun := forall_mem_none _
    idle := fun _ => by
      obtain ⟨none, opened, queue, -, stands⟩ := law.idle unready
      exact ⟨openHolds.trans none, opened, queue, events', stands⟩
    restoring := fun _ => ⟨(law.restoring restoring).1, .inl ⟨_, _, _, rfl⟩⟩
    still := fun _ => openHolds.trans noHold
    closing := by
      rw [flight', ← flight]
      exact law.closing
    holds := holds
    purse := by
      rw [flight']
      exact untouched.purseLaw holds (openHolds.trans noHold) map _
    owners := law.owners.of_waits (fun l => by
      rw [State.waits_eq, State.waits_eq, flight', flight]
      unfold State.rewriting
      dsimp only
      rw [free]) fun _ f owned => ⟨f, owned⟩
    caps := False.elim
    counted := fun told => (law.counted told).trans openHolds.symm
    freezing := fun told state => openHolds ▸ law.freezing told state }

/-- The state at the end of the restore but for a flag it may raise: READY, with an empty journal (R193, R194). -/
def State.restored (newest number : Nat) (totals : Totals) (mark : Bool) (ring : List RingEntry) (s : State) : State :=
  { s with
    restore := { s.restore with part := .ready, finding := .none, stage := .idle }
    engine := { s.engine with totals := totals, partialMark := mark, ring := ring }
    journal := { s.journal with
      lastDurable := newest, nextSeq := newest + 1, exhaustionDue := decide (4294967231 ≤ newest), port := none }
    period := { s.period with number := number, state := .opened } }

/-- The restore ends: READY (R193, R194). -/
theorem State.Laws.restored {newest number : Nat} {totals : Totals} {mark : Bool} {ring : List RingEntry} (law : s.Good cap hand)
    (restoring : s.restore.part = .restoring) (free : s.journal.port = none) :
    (s.restored newest number totals mark ring).Good cap hand := by
  obtain ⟨flight, syncs, retry, save, -, queue, events, noHold, opened⟩ := law.unready (by rw [restoring]; nofun)
  have ok : s.journal.store = .ok := (law.restoring restoring).1
  have waiting : (s.restored newest number totals mark ring).journal.waiting = [] := by
    change s.journal.queue.filter _ = []
    rw [queue]
    rfl
  have flight' : (s.restored newest number totals mark ring).inFlight = [] := by
    unfold State.inFlight
    rw [waiting]
    change s.engine.journalEvents.map _ ++ _ = _
    rw [events]
    rfl
  have holds : (s.restored newest number totals mark ring).engine.HoldLaw s.deadlines.list :=
    law.holds.of_same (fun _ => rfl) rfl rfl fun _ => rfl
  exact { law with
    next := by rw [waiting]; rfl
    numbers := by rw [waiting]; rfl
    atPort := JournalUnit.atPort_of_resting ⟨queue.trans waiting.symm, fun x mem => by
      have mem : x ∈ s.journal.queue := mem
      rw [queue] at mem
      exact nomatch mem⟩ (forall_mem_none _)
    mayRun := forall_mem_none _
    retrying := fun retries => absurd retry retries
    saving := fun saves => absurd save saves
    exhausting := fun due => ⟨rfl, ok, of_decide_eq_true due⟩
    syncing := fun y mem => by
      have mem : y ∈ s.journal.syncs := mem
      rw [syncs] at mem
      exact nomatch mem
    idle := fun other => absurd rfl other
    restoring := nofun
    still := nofun
    closing := by
      have closing := law.closing
      rw [flight, opened] at closing
      rw [flight']
      exact closing
    holds := holds
    purse := by
      have purse := law.purse
      rw [flight] at purse
      rw [flight']
      exact (purse.withNumber (law.holds.emptyLists noHold) _).of_same (fun _ => rfl) (fun _ => rfl) (fun _ => rfl) rfl rfl
    owners := law.owners.of_waits (fun l => by
      rw [State.waits_eq, State.waits_eq, flight, flight', free]
      exact Nat.le_refl _) fun _ f owned => ⟨f, owned⟩
    caps := fun capped => by
      have same : (s.restored newest number totals mark ring).earlierRecords = s.earlierRecords := by
        change s.untakenRecords ++ (s.restored newest number totals mark ring).journal.waiting.map _ =
          s.untakenRecords ++ s.journal.waiting.map _
        rw [waiting, JournalUnit.waiting, queue]
        rfl
      rw [same]
      exact (law.caps capped).of_balances (fun _ => rfl) fun _ => rfl
    freezing := fun _ => nofun }

theorem State.Laws.finishRestore {newest : Nat} {records : List Record} {rest : List (Nat × List Byte)}
    (law : (s.rewriting newest records rest).Good cap hand) (restoring : s.restore.part = .restoring) :
    (finishRestore newest records s).Good cap hand := by
  obtain ⟨number, number_eq⟩ : ∃ number, number = restoredPeriod s.restore.formatPeriod records := ⟨_, rfl⟩
  obtain ⟨mark, mark_eq⟩ : ∃ mark, mark = restoredPartial s.restore.ringBase number records := ⟨_, rfl⟩
  obtain ⟨ring, ring_eq⟩ : ∃ ring, ring = restoredRing records := ⟨_, rfl⟩
  rw [finishRestore_eq newest records s number mark ring ring_eq number_eq mark_eq]
  exact State.Laws.mapNotices (State.Laws.restored law restoring rfl) fun _ => _

theorem State.Laws.nextRewrite {newest : Nat} {records : List Record} {rewrites : List (Nat × List Byte)}
    (law : ∀ rest, (s.rewriting newest records rest).Good cap hand) (restoring : s.restore.part = .restoring) :
    (nextRewrite newest records rewrites s).Good cap hand := by
  unfold Machine.nextRewrite
  split
  next k unit rest => exact (law rest).takePort (op := .restoreImage) rfl rfl rfl ⟨restoring, _, _, _, rfl⟩
  next => exact (law []).finishRestore restoring

theorem State.Laws.restoreImages {defaulted : Bool} {newest : Nat} {records : List Record} {images : Nat → Option Image}
    (law : s.Good cap hand) (restoring : s.restore.part = .restoring)
    (stage : s.restore.stage = .images defaulted newest records) :
    (restoreImages defaulted newest records images s).Good False hand := by
  have early : ∀ n records rest, s.restore.stage ≠ .rewriting n records rest := by rw [stage]; nofun
  unfold Machine.restoreImages
  split
  next e rewrites ok => exact State.Laws.nextRewrite (s := { s with engine := e }) (fun rest => law.rebuilt restoring early ok) restoring
  next =>
    obtain ⟨free, -⟩ := law.unbuilt restoring early
    exact law.uncapped.restoreStage free (by rw [restoring]; nofun) (.inr (.inr rfl))

/-- A rewrite leaves the port. -/
theorem State.Laws.rewriteLeft (law : s.Good cap hand) (held : s.journal.port = some ⟨.restoreImage, w⟩) :
    s.restore.part = .restoring ∧ ∀ newest records rest, (s.rewriting newest records rest).Good cap hand := by
  obtain ⟨restoring, -⟩ := law.mayRun _ held
  refine ⟨restoring, fun newest records rest => ?_⟩
  exact { law.freePort held rfl with
    mayRun := forall_mem_none _
    restoring := fun _ => ⟨(law.restoring restoring).1, .inl ⟨_, _, _, rfl⟩⟩ }

theorem State.Laws.restoreContinues (law : s.Good cap hand) (held : s.journal.port = some ⟨.restoreImage, w⟩) :
    (restoreContinues s).Good cap hand := by
  obtain ⟨restoring, left⟩ := law.rewriteLeft held
  unfold Machine.restoreContinues
  split
  next newest records rest _ => exact State.Laws.nextRewrite (fun rest => left newest records rest) restoring
  next => exact law.freePort held rfl

theorem State.Laws.restoreWriteFails (law : s.Good cap hand) (held : s.journal.port = some ⟨.restoreImage, w⟩) :
    (restoreWriteFails s).Good cap hand := by
  obtain ⟨restoring, -⟩ := law.mayRun _ held
  exact (law.freePort held rfl).restoreStage rfl (fun ready => nomatch restoring.symm.trans ready) (.inr (.inr rfl))

end

end Sys2Proof.Machine
end

section
/-! PROOF. The laws through a format (R196 to R198). -/

namespace Sys2Proof.Machine

section
variable {cap : Prop} {hand : List Lane} {s : State} {w : Option StoreWrite} {op : PortOp} {l : Lane}

/-! ## FORMAT_STORE at the Restore Unit (R196) -/

theorem State.Laws.acceptFormat {finding : Finding} (law : s.Good cap (l :: hand)) (noHold : s.engine.openHolds = 0)
    (opened : s.period.state = .opened) (events : s.engine.journalEvents = [])
    (still : s.restore.part = .ready ∧ s.journal.store = .fault ∧ s.journal.exhausted = true ∨ s.restore.part = .unformatted ∨
      s.restore.part = .restoreFailed) : (acceptFormat l finding s).Good cap hand := by
  have quiet : s.journal.queue = [] ∧ (s.journal.store = .fault ∨ s.period.clock = none) ∧ s.journal.retry = none ∧
      s.journal.save = none ∧ s.journal.exhaustionDue = false ∧ s.restore.part ≠ .restoring ∧
      (s.restore.part = .ready → s.journal.store = .fault) := by
    have before (unready : s.restore.part ≠ .ready) := law.unready unready
    obtain ⟨ready, fault, exhausted⟩ | other := still
    · refine ⟨law.faultEmpty fault, .inl fault, ?_, ?_, ?_, by rw [ready]; nofun, fun _ => fault⟩
      · by_contra retries
        have lasting := (law.retrying retries).2.2
        have := of_decide_eq_true exhausted
        omega
      · by_contra saves
        exact nomatch fault.symm.trans (law.saving saves).2
      · by_contra due
        exact nomatch fault.symm.trans (law.exhausting (by simpa using due)).2.1
    · have unready : s.restore.part ≠ .ready := by obtain part | part := other <;> (rw [part]; nofun)
      obtain ⟨-, -, retry, save, due, queue, -⟩ := before unready
      exact ⟨queue, (law.idle unready).2.2.2.2, retry, save, due, by obtain part | part := other <;> (rw [part]; nofun),
        fun ready => absurd ready unready⟩
  obtain ⟨queue, stands, retry, save, due, settled, broken⟩ := quiet
  unfold Machine.acceptFormat State.mapRestore
  exact { law with
    mayRun := fun p mem => by
      have may := law.mayRun p mem
      obtain ⟨op, w⟩ := p
      cases op with
      | recordWrite | imageWrites | staleImage | saveBlock | saveCheck => exact nomatch (broken may.1).symm.trans may.2.1
      | retryHeader | retryCheck | retryVoid => exact absurd retry may
      | formatClear | formatVoid | formatImage | formatHeader => rfl
      | restoreImage => exact absurd may.1 settled
      | journalRead => exact .inr rfl
    retrying := fun retries => absurd retry retries
    saving := fun saves => absurd save saves
    exhausting := fun now => absurd (due.symm.trans now) nofun
    idle := fun _ => ⟨noHold, opened, queue, events, stands⟩
    restoring := nofun
    owners := law.owners.of_waits (fun k => by
      rw [State.waits_eq, State.waits_eq, List.count_cons]
      change _ + (lanesOf s.inFlight).count k + _ + _ + _ + _ + _ + [l].count k + _ ≤ _
      rw [List.count_singleton]
      dsimp only
      omega) fun _ f owned => ⟨f, owned⟩ }

theorem State.Laws.dropReads (law : s.Good cap hand) : (dropReads s).Good cap hand := by
  unfold Machine.dropReads
  refine State.Laws.fillAll (law.withWaiters (reads := []) (syncs := s.journal.syncs) (retry := s.journal.retry)
    (save := s.journal.save) law.syncing law.retrying id law.saving fun k => ?_) _
  rw [List.count_append, List.map_nil, List.count_nil]
  omega

theorem State.Laws.restoreFormatStore (law : s.Good cap (l :: hand))
    (ordinary : s.restore.part = .ready → s.journal.exhausted = true → s.engine.journalEvents = [] ∧ s.journal.store = .fault) :
    (restoreFormatStore l s).Good cap hand := by
  unfold Machine.restoreFormatStore
  split
  next => exact law.refuse _
  next => exact law.refuse _
  next part =>
    obtain ⟨-, -, -, -, -, -, events, noHold, opened⟩ := law.unready (by rw [part]; nofun)
    exact law.acceptFormat noHold opened events (.inr (.inl part))
  next part =>
    obtain ⟨-, -, -, -, -, -, events, noHold, opened⟩ := law.unready (by rw [part]; nofun)
    exact law.acceptFormat noHold opened events (.inr (.inr part))
  next ready =>
    split
    · exact law.refuse _
    next lasting =>
      split
      · exact law.refuse _
      next noHold =>
        split
        · exact law.refuse _
        next opened =>
          have exhausted : s.journal.exhausted = true := by simpa using lasting
          obtain ⟨events, fault⟩ := ordinary ready exhausted
          have drops := law.dropReads
          rw [dropReads_eq] at drops ⊢
          exact drops.acceptFormat (not_not.1 noHold) (not_not.1 opened) events (.inl ⟨ready, fault, exhausted⟩)

/-! ## The writes of a format (R197) -/

theorem State.Laws.startFormat (law : s.Good cap hand) (free : s.journal.port = none) (formatting : s.restore.part = .formatting) :
    (startFormat s).Good cap hand := law.takePort (op := .formatClear) free rfl rfl formatting

theorem State.Laws.formatRing {k : Nat} (law : s.Good cap hand) (held : s.journal.port = some ⟨op, w⟩) (plain : op.plain = true)
    (nobody : op.lanes = []) (formatting : s.restore.part = .formatting) : (formatRing k s).Good cap hand := by
  unfold Machine.formatRing
  split
  · exact law.nextOp (op' := .formatVoid k) held plain rfl nobody.symm formatting
  · exact law.nextOp (op' := .formatImage 0) held plain rfl nobody.symm formatting

theorem State.Laws.formatImages {k : Nat} (law : s.Good cap hand) (held : s.journal.port = some ⟨op, w⟩) (plain : op.plain = true)
    (nobody : op.lanes = []) (formatting : s.restore.part = .formatting) : (formatImages k s).Good cap hand := by
  unfold Machine.formatImages
  split
  · exact law.nextOp (op' := .formatImage k) held plain rfl nobody.symm formatting
  · exact law.nextOp (op' := .formatHeader) held plain rfl nobody.symm formatting

/-! ## The ends of a format (R197, R198) -/

/-- The port is free and the FORMAT_STORE no longer waits. -/
def State.formatLeft (s : State) : State :=
  { s with journal := { s.journal with port := none }, restore := { s.restore with format := none } }

theorem State.Laws.answerFormat {r : Result} {body : List Byte} (law : s.formatLeft.Good cap (s.restore.format.toList ++ hand)) :
    (answerFormat r body s).Good cap hand := by
  unfold Machine.answerFormat
  dsimp only
  split
  next l format =>
    rw [format] at law
    exact State.Laws.fillReply (s := s.formatLeft) law r body
  next format =>
    rw [format] at law
    exact law

theorem State.Laws.formatFails (law : s.Good cap hand) (held : s.journal.port = some ⟨op, w⟩) (plain : op.plain = true)
    (nobody : op.lanes = []) (formatting : s.restore.part = .formatting) : (formatFails s).Good cap hand := by
  have unready : s.restore.part ≠ .ready := by rw [formatting]; nofun
  have freed := law.freePort held plain
  rw [nobody, List.nil_append] at freed
  have stopped := freed.restoreStage (part := .unformatted) (finding := .storeWrite) (stage := .idle) (base := s.restore.ringBase)
    (period := s.restore.formatPeriod) rfl unready (.inr (.inl rfl))
  have cleared := stopped.quietEngine (e := { s.engine with ring := [] }) ⟨rfl, rfl, rfl, rfl, rfl, rfl⟩ rfl rfl
  unfold Machine.formatFails
  refine State.Laws.answerFormat { cleared with
    mayRun := forall_mem_none _
    owners := cleared.owners.of_waits (fun k => ?_) fun _ f owned => ⟨f, owned⟩ }
  rw [State.waits_eq, State.waits_eq, List.count_append]
  change s.arbiter.intake.toList.count k + (lanesOf s.inFlight).count k + (s.journal.reads.map ReadWait.lane).count k +
    (s.journal.syncs.map SyncWait.lane).count k + (s.journal.retry.getD []).count k + (s.journal.save.getD []).count k + 0 + 0 +
    (s.restore.format.toList.count k + hand.count k) ≤ s.arbiter.intake.toList.count k + (lanesOf s.inFlight).count k +
    (s.journal.reads.map ReadWait.lane).count k + (s.journal.syncs.map SyncWait.lane).count k + (s.journal.retry.getD []).count k +
    (s.journal.save.getD []).count k + 0 + s.restore.format.toList.count k + hand.count k
  omega

theorem Engine.PurseLaw.formatted_card {e : Engine} {number : Nat} {fl : List Flight} {ex : List Nat}
    (law : e.PurseLaw number fl ex) (canonical : Table.wf .free e.cards = true) (slot : Nat) :
    e.formatted.card slot = (e.card slot).emptied := by
  by_cases inside : slot < 4096
  · exact Engine.card_formatted canonical inside
  · have same : e.formatted.card slot = e.card slot := Engine.card_emptyCards_other e (by omega)
    rw [same]
    exact (law.card slot).region (decide_eq_false (by omega))

/-- The state at the end of a format, before its reply (R198). -/
def State.formatted (s : State) : State :=
  { s with
    engine := s.engine.formatted
    period := { s.period with number := 1, state := .opened, drainTimer := .stopped }
    journal := { s.journal with
      lastDurable := 0, nextSeq := 1, store := .ok, queue := [], stale := [], voidSlot := none, exhaustionDue := false }
    config := { s.config with source := .formatted }
    restore := { s.restore with part := .ready, finding := .none, ringBase := 1, formatPeriod := 1 } }

theorem formatDone_formatted (s : State) : formatDone s = answerFormat .ok (beBytes 4 1) s.formatted := rfl

theorem State.Laws.formatDone (law : s.Good cap hand) (formatting : s.restore.part = .formatting) :
    (formatDone s).Good cap hand := by
  have unready : s.restore.part ≠ .ready := by rw [formatting]; nofun
  obtain ⟨flight, syncs, retry, save, -, -, events, noHold, opened⟩ := law.unready unready
  have card := law.purse.formatted_card law.tables.1
  have holds : s.engine.formatted.HoldLaw s.deadlines.list :=
    law.holds.of_same (fun _ => rfl) rfl rfl fun slot => by rw [card, law.holds.emptyLists noHold]; rfl
  have untouched : s.engine.formatted.Untouched := by
    refine ⟨fun slot => ?_, fun slot _ => ?_, fun slot taken => absurd ?_ taken, fun n => rfl⟩
    · rw [card]; rfl
    · rw [card]; rfl
    · rw [card]; rfl
  rw [formatDone_formatted]
  have flight' : s.formatted.formatLeft.inFlight = [] := by
    change s.engine.journalEvents.map _ ++ [] = _
    rw [events]
    rfl
  have earlier : s.formatted.formatLeft.earlierRecords = [] := by
    change s.engine.journalEvents.filterMap JournalEvent.durableRecord ++ [] = _
    rw [events]
    rfl
  refine State.Laws.answerFormat (s := s.formatted) { law with
    tables := ⟨s.engine.wf_emptyCards law.tables.1 _ _, rfl, law.tables.2.2⟩
    next := rfl
    numbers := rfl
    atPort := JournalUnit.atPort_of_resting ⟨rfl, List.forall_mem_nil _⟩ (forall_mem_none _)
    suits := List.forall_mem_nil _
    mayRun := forall_mem_none _
    faultEmpty := nofun
    retrying := fun retries => absurd retry retries
    saving := fun saves => absurd save saves
    exhausting := nofun
    syncing := fun y mem => by
      have mem : y ∈ s.journal.syncs := mem
      rw [syncs] at mem
      exact nomatch mem
    idle := fun other => absurd rfl other
    restoring := nofun
    still := nofun
    closing := by
      have closing := law.closing
      rw [flight, opened] at closing
      rw [flight']
      exact closing
    holds := holds
    purse := by
      rw [flight']
      exact untouched.purseLaw holds noHold law.purse.map _
    owners := law.owners.of_waits (fun k => ?_) fun _ f owned => ⟨f, owned⟩
    caps := fun _ => by
      rw [earlier]
      refine fun n => ⟨fun slot => ?_, fun n => ?_⟩
      · rw [List.take_nil]
        change (s.engine.formatted.card slot).cashBalance ≤ _
        rw [card]
        exact Nat.zero_le _
      · rw [List.take_nil]
        exact Nat.zero_le _
    freezing := fun _ => nofun }
  rw [State.waits_eq, State.waits_eq, flight, flight', List.count_append]
  change s.arbiter.intake.toList.count k + (lanesOf []).count k + (s.journal.reads.map ReadWait.lane).count k +
    (s.journal.syncs.map SyncWait.lane).count k + (s.journal.retry.getD []).count k + (s.journal.save.getD []).count k + 0 + 0 +
    (s.restore.format.toList.count k + hand.count k) ≤ s.arbiter.intake.toList.count k + (lanesOf []).count k +
    (s.journal.reads.map ReadWait.lane).count k + (s.journal.syncs.map SyncWait.lane).count k + (s.journal.retry.getD []).count k +
    (s.journal.save.getD []).count k + _ + s.restore.format.toList.count k + hand.count k
  omega

end

end Sys2Proof.Machine
end

section
/-! PROOF. The laws as the port is granted and as its writes end (R123, R130, R134, R142). -/

namespace Sys2Proof.Machine

section
variable {cap : Prop} {hand hand' : List Lane} {s : State} {op : PortOp} {w : Option StoreWrite}

/-! ## The grant (R142, R197) -/

theorem State.Laws.grantOk (law : s.Good cap hand) (free : s.journal.port = none) (ready : s.restore.part = .ready)
    (ok : s.journal.store = .ok) : (grantOk s).Good cap hand := by
  unfold Machine.grantOk
  split
  next => exact law.grantWaitingRead free ready
  next due =>
    have due : s.journal.exhaustionDue = false := by simpa using due
    split
    next k _ _ => exact law.takePort (op := .staleImage k) free rfl rfl ⟨ready, ok, due⟩
    next =>
      split
      next q rest queue => exact law.grantRecord free ready ok due queue
      next =>
        split
        next lanes save => exact law.grantSave free save due
        next => exact law.grantWaitingRead free ready

theorem State.Laws.grantPort (law : s.Good cap hand) (free : s.journal.port = none) : (grantPort s).Good cap hand := by
  unfold Machine.grantPort
  split
  next ready =>
    split
    next ok => exact law.grantOk free ready (of_decide_eq_true ok)
    next => exact law.grantFault free ready
  next formatting =>
    split
    next => exact law
    next => exact law.startFormat free formatting
  all_goals exact law

theorem State.Laws.execStorePortGrant (law : s.Good cap []) (released : s.restore.inReset = false) :
    Leads (·.Good cap []) (execStorePortGrant s) := by
  unfold Machine.execStorePortGrant
  rw [event_of_released released]
  refine .next ?_
  split
  next free => exact law.grantPort free
  next => exact law

/-! ## A write that succeeds -/

theorem State.Laws.staleWritten {stale : List Nat} {k : Nat} (law : s.Good cap hand)
    (held : s.journal.port = some ⟨.staleImage k, w⟩) :
    (Machine.freePort (s.mapJournal fun j => { j with stale := stale })).Good cap hand := by
  have freed := law.freePort held rfl
  exact { freed with }

theorem State.Laws.writeSucceeded (law : s.Good cap hand) (held : s.journal.port = some ⟨op, w⟩) :
    (writeSucceeded op s).Good cap hand := by
  cases op with
  | recordWrite r => exact law.recordDurable held
  | imageWrites r k rest => exact law.imageWritten held
  | staleImage k => exact law.staleWritten held
  | saveBlock lanes check => exact law.nextOp (op' := .saveCheck lanes) held rfl rfl rfl (law.mayRun _ held)
  | saveCheck lanes => exact law.saveDone held
  | retryCheck => exact law.retryContinues held
  | retryVoid => exact law.retryVoided held rfl
  | formatClear => exact law.formatRing held rfl rfl (law.mayRun _ held)
  | formatVoid k => exact law.formatRing held rfl rfl (law.mayRun _ held)
  | formatImage k => exact law.formatImages held rfl rfl (law.mayRun _ held)
  | formatHeader => exact law.formatDone (law.mayRun _ held)
  | restoreImage => exact law.restoreContinues held
  | journalRead | retryHeader => exact law

/-! ## A write that fails -/

/-- A write that failed puts the store in FAULT, and the port falls free; who waited for the operation is in hand. -/
theorem State.Laws.faultAtPort {void : Option Nat} {stale : List Nat} (law : s.Good cap hand)
    (held : s.journal.port = some ⟨op, w⟩)
    (may : s.restore.part = .ready ∧ s.journal.store = .ok ∧ s.journal.exhaustionDue = false) :
    (Machine.enterFault void { s with journal := { s.journal with port := none, stale := stale } }).Good cap (op.lanes ++ hand) := by
  obtain ⟨ready, ok, due⟩ := may
  refine law.enterFault (port := none) (due := s.journal.exhaustionDue) ready ok due (forall_mem_none _) (forall_mem_none _) fun l => ?_
  rw [held, portWaits_none, portWaits_some, List.count_append, Nat.zero_add]

theorem State.Laws.writeFailed (law : s.Good cap hand) (held : s.journal.port = some ⟨op, w⟩) : (writeFailed op s).Good cap hand := by
  have may := law.mayRun _ held
  cases op with
  | recordWrite r => exact law.faultAtPort (void := some (ringSlot r.sequence)) (stale := s.journal.stale) held may
  | imageWrites r k rest =>
    exact law.faultAtPort (void := none) (stale := (k :: rest).foldl (fun l k => insertSlot k l) s.journal.stale) held may
  | staleImage k => exact law.faultAtPort (void := none) (stale := s.journal.stale) held may
  | saveBlock lanes check => exact (law.faultAtPort held may).fillAll _
  | saveCheck lanes => exact (law.faultAtPort held may).fillAll _
  | retryCheck => exact law.retryFails held rfl
  | retryVoid => exact law.retryFails held rfl
  | formatClear => exact law.formatFails held rfl rfl may
  | formatVoid k => exact law.formatFails held rfl rfl may
  | formatImage k => exact law.formatFails held rfl rfl may
  | formatHeader => exact law.formatFails held rfl rfl may
  | restoreImage => exact law.restoreWriteFails held
  | journalRead | retryHeader => exact law

theorem State.Laws.attemptFails {w : StoreWrite} (law : s.Good cap hand) (held : s.journal.port = some ⟨op, some w⟩) :
    (attemptFails op w s).Good cap hand := by
  unfold Machine.attemptFails
  split
  · exact law.samePort (by rw [held]; rfl)
  · exact law.writeFailed held

/-! ## The events of a write (R123), and the exhausted journal (R127) -/

theorem State.Laws.execStoreWriteComplete (law : s.Good cap []) (released : s.restore.inReset = false) (effect : WriteEffect)
    (answers : WriteAnswers) : Leads (·.Good cap []) (execStoreWriteComplete effect answers s) := by
  unfold Machine.execStoreWriteComplete
  rw [event_of_released released]
  refine .next ?_
  split
  next op w held =>
    split
    · exact law
    · unfold writeReported
      dsimp only
      split
      · exact (law.withMemory _).writeSucceeded held
      · exact (law.withMemory _).attemptFails held
  next => exact law

theorem State.Laws.execWriteStatusTimeout (law : s.Good cap []) (released : s.restore.inReset = false) (effect : WriteEffect) :
    Leads (·.Good cap []) (execWriteStatusTimeout effect s) := by
  unfold Machine.execWriteStatusTimeout
  rw [event_of_released released]
  refine .next ?_
  split
  next op w held =>
    split
    · exact (law.withMemory _).attemptFails held
    · exact law
  next => exact law

theorem State.Laws.execJournalExhaustion (law : s.Good cap []) (released : s.restore.inReset = false) :
    Leads (·.Good cap []) (execJournalExhaustion s) := by
  unfold Machine.execJournalExhaustion
  rw [event_of_released released]
  refine .next ?_
  split
  next due =>
    obtain ⟨ready, ok, -⟩ := law.exhausting due
    have reads : ∀ p ∈ s.journal.port, ∃ l n done voided, p.op = .journalRead l n done voided := fun p mem => by
      have may := law.mayRun p mem
      obtain ⟨op, w⟩ := p
      cases op with
      | recordWrite | imageWrites | staleImage | saveBlock | saveCheck => exact nomatch due.symm.trans may.2.2
      | retryHeader | retryCheck | retryVoid => exact nomatch ok.symm.trans (law.retrying may).2.1
      | formatClear | formatVoid | formatImage | formatHeader => exact nomatch ready.symm.trans may
      | restoreImage => exact nomatch ready.symm.trans may.1
      | journalRead l n done voided => exact ⟨l, n, done, voided, rfl⟩
    refine law.enterFault (port := s.journal.port) (stale := s.journal.stale) ready ok rfl (fun p mem => ?_) (fun p mem j => ?_)
      fun l => Nat.le_refl _
    · obtain ⟨l, n, done, voided, op⟩ := reads p mem
      rw [op]
      rfl
    · obtain ⟨l, n, done, voided, op⟩ := reads p mem
      rw [op]
      exact .inl ready
  next => exact law

end

end Sys2Proof.Machine
end

section
/-! PROOF. The laws through every command: requests in the intake (R158, R159), the restore's commands, and the whole dispatch. -/

namespace Sys2Proof.Machine

section
variable {cap cap' : Prop} {hand : List Lane} {s : State} {c : Instr} {l : Lane}

theorem State.Laws.weaker {reported : Prop} {ex : List Nat} (law : s.Laws reported cap ex hand) (weaker : cap' → cap) :
    s.Laws reported cap' ex hand := { law with caps := fun capped => law.caps (weaker capped) }

/-! ## Requests -/

/-- The owner has taken the request in the intake, and its lane is in hand. -/
theorem State.Laws.taken (law : s.Good cap []) (asks : s.Asks c) (lane : (encodeRequest c).map Prod.fst = some l) :
    s.taken.Good cap [l] := by
  obtain ⟨l', k, body, f, spelt, -, -, -, intake⟩ := ownerFillsReply.1 c s asks
  rw [spelt] at lane
  obtain rfl : l' = l := Option.some.inj lane
  exact { law with
    owners := law.owners.of_waits (fun m => by
      rw [State.waits_eq, State.waits_eq, intake]
      change ([] : List Lane).count m + (lanesOf s.inFlight).count m + _ + _ + _ + _ + _ + _ + _ ≤
        [l'].count m + _ + _ + _ + _ + _ + _ + _ + _
      rw [List.count_nil]
      unfold State.taken
      dsimp only
      omega) fun _ f owned => ⟨f, owned⟩ }

theorem State.Laws.takeRequest {owner : State → Answer} (law : s.Good cap []) (released : s.restore.inReset = false)
    (lane : (encodeRequest c).map Prod.fst = some l)
    (answers : s.taken.Good cap [l] → Leads (·.Good cap []) (owner s.taken)) :
    Leads (·.Good cap []) (takeRequest c owner s) := by
  unfold Machine.takeRequest
  rw [running_of_released released]
  refine Leads.ite (fun granted => ?_) fun _ => .next law
  exact answers (law.taken ⟨released, granted⟩ lane)

theorem State.Laws.request {owner : State → State} (law : s.Good cap []) (released : s.restore.inReset = false)
    (lane : (encodeRequest c).map Prod.fst = some l) (answers : s.taken.Good cap [l] → (owner s.taken).Good cap []) :
    Leads (·.Good cap []) (request c owner s) := law.takeRequest released lane fun taken => .next (answers taken)

theorem State.Laws.readyRequest {owner : State → State} (law : s.Good cap []) (released : s.restore.inReset = false)
    (lane : (encodeRequest c).map Prod.fst = some l)
    (answers : s.taken.Good cap [l] → s.taken.restore.part = .ready → (owner s.taken).Good cap []) :
    Leads (·.Good cap []) (readyRequest c l owner s) := by
  refine law.request released lane fun taken => ?_
  split
  next ready => exact answers taken (of_decide_eq_true ready)
  next => exact taken.refuse _

theorem State.Laws.lockedRequest {owner : State → State} (law : s.Good cap []) (released : s.restore.inReset = false)
    (lane : (encodeRequest c).map Prod.fst = some l)
    (answers : s.taken.Good cap [l] → s.taken.restore.part = .ready → (owner s.taken).Good cap []) :
    Leads (·.Good cap []) (lockedRequest c l owner s) := by
  refine law.readyRequest released lane fun taken ready => ?_
  split
  · exact taken.refuse _
  · exact answers taken ready

theorem State.Laws.officeRequest {owner : State → State} (law : s.Good cap []) (released : s.restore.inReset = false)
    (lane : (encodeRequest c).map Prod.fst = some l)
    (answers : s.taken.Good cap [l] → s.taken.restore.part = .ready → (owner s.taken).Good cap []) :
    Leads (·.Good cap []) (officeRequest c l owner s) := by
  refine law.readyRequest released lane fun taken ready => ?_
  split
  · exact taken.refuse _
  · exact answers taken ready

/-! ## The restore's commands -/

theorem State.Laws.execRestoreHeaderLoaded {answer : StoreAnswer} (law : s.Good cap []) (released : s.restore.inReset = false)
    (ordinary : ∀ base period c, judgeHeader (readAnswer answer s.memory 0 430) = .good base period (some c) →
      ∀ k : Fin 8, c.ranges[k].enabled = true → ∀ n ∈ c.ranges[k].sponsor, n < c.sponsorCount) :
    Leads (·.Good cap []) (execRestoreHeaderLoaded answer s) := by
  unfold Machine.execRestoreHeaderLoaded
  rw [event_of_released released]
  refine .next ?_
  split
  next held =>
    obtain ⟨restoring, stage⟩ := held
    exact law.loadHeader restoring stage fun base period c found =>
      (judgeHeader_inRange (readAnswer_length ..) found).loads (ordinary base period c found)
  next => exact law

theorem State.Laws.execRestoreRingScan {answer : StoreAnswer} (law : s.Good cap []) (released : s.restore.inReset = false) :
    Leads (·.Good cap []) (execRestoreRingScan answer s) := by
  unfold Machine.execRestoreRingScan
  rw [event_of_released released]
  refine .next ?_
  split
  next defaulted restoring stage => exact law.scanRing restoring stage
  next => exact law

theorem State.Laws.execRestoreImages {answer : StoreAnswer} (law : s.Good cap []) (released : s.restore.inReset = false) :
    Leads (·.Good False []) (execRestoreImages answer s) := by
  unfold Machine.execRestoreImages
  rw [event_of_released released]
  refine .next ?_
  split
  next restoring stage => exact law.restoreImages restoring stage
  next => exact law.uncapped

end

end Sys2Proof.Machine
end

section
/-! PROOF. The laws through every command that is no reset. -/

namespace Sys2Proof.Machine

section
variable {cap : Prop} {s : State} {c : Instr}

/-- The states that no run reaches or the manual leaves open are kept out of a command (log entries 14, 35, 38). -/
def State.Admits (s : State) (c : Instr) : Prop :=
  (∀ l, c = .formatStore l → s.restore.part = .ready → s.journal.exhausted = true →
    s.engine.journalEvents = [] ∧ s.journal.store = .fault) ∧
  ∀ answer base period config, c = .restoreHeaderLoaded answer →
    judgeHeader (readAnswer answer s.memory 0 430) = .good base period (some config) →
    ∀ k : Fin 8, config.ranges[k].enabled = true → ∀ n ∈ config.ranges[k].sponsor, n < config.sponsorCount

/-- Every command but a reset keeps the laws, the tops of the balances but where the restore takes its purses from the store. -/
theorem State.Laws.exec (law : s.Good cap []) (released : s.restore.inReset = false) (slots : s.slotLaw) (admits : s.Admits c)
    (other : ¬ isReset c) : Leads (·.Good (cap ∧ ∀ answer, c ≠ .restoreImages answer) []) (exec c s) := by
  have all : (∀ answer, c ≠ .restoreImages answer) → Leads (·.Good cap []) (Machine.exec c s) →
      Leads (·.Good (cap ∧ ∀ answer, c ≠ .restoreImages answer) []) (Machine.exec c s) := by
    rintro - ⟨t, next, kept⟩
    exact ⟨t, next, kept.weaker And.left⟩
  obtain ⟨formats, loads⟩ := admits
  cases c with
  | powerOnReset | pinReset | resetNLow => exact absurd trivial other
  | restoreImages answer =>
    obtain ⟨t, next, kept⟩ := law.execRestoreImages (answer := answer) released
    exact ⟨t, next, kept.weaker fun capped => capped.2 answer rfl⟩
  | restoreHeaderLoaded answer =>
    exact all nofun (law.execRestoreHeaderLoaded released fun base period config => loads answer base period config rfl)
  | restoreRingScan answer => exact all nofun (law.execRestoreRingScan released)
  | journalExhaustion => exact all nofun (law.execJournalExhaustion released)
  | tick => exact all nofun (law.execTick released)
  | holdExpiryEvent handle deadline => exact all nofun (law.execHoldExpiryEvent released handle deadline)
  | clockAdvance => exact all nofun (law.execClockAdvance released)
  | drainTimerExpiry => exact all nofun (law.execDrainTimerExpiry released)
  | drainEvent => exact all nofun (law.execDrainEvent released)
  | silenceTimerExpiry l => exact all nofun (law.execSilenceTimerExpiry released l)
  | laneLostEvent l => exact all nofun (law.execLaneLostEvent released l)
  | gapTimerExpiry l => exact all nofun (law.execGapTimerExpiry released l)
  | byteReceived l b stopBit => exact all nofun (law.execByteReceived released l b stopBit)
  | frameReceived l b => exact all nofun (law.execFrameReceived released l b)
  | frameSent l => exact all nofun (law.execFrameSent released slots l)
  | laneGrant => exact all nofun (law.execLaneGrant released)
  | ping l => exact all nofun (law.execPing released l)
  | pollNotice l => exact all nofun (law.request released rfl noticesPoll)
  | balance l card => exact all nofun (law.readyRequest released rfl fun taken _ => taken.engineBalance)
  | hold l card amount parts => exact all nofun (law.takeRequest released rfl fun taken => taken.engineHold)
  | capture l handle amount final => exact all nofun (law.readyRequest released rfl fun taken _ => taken.engineCapture)
  | release l handle => exact all nofun (law.readyRequest released rfl fun taken _ => taken.engineRelease)
  | extend l handle => exact all nofun (law.readyRequest released rfl fun taken _ => taken.engineExtend)
  | reverse l receipt => exact all nofun (law.readyRequest released rfl engineReverse)
  | openPurse l card => exact all nofun (law.officeRequest released rfl engineOpenPurse)
  | closePurse l card => exact all nofun (law.officeRequest released rfl engineClosePurse)
  | block l card => exact all nofun (law.officeRequest released rfl fun taken ready => taken.engineChangeState ready (.inl rfl))
  | unblock l card => exact all nofun (law.officeRequest released rfl fun taken ready => taken.engineChangeState ready (.inr rfl))
  | topUp l card amount => exact all nofun (law.officeRequest released rfl engineTopUp)
  | withdraw l card amount => exact all nofun (law.officeRequest released rfl engineWithdraw)
  | fundSponsor l sponsor amount => exact all nofun (law.officeRequest released rfl engineFundSponsor)
  | readPurse l slot => exact all nofun (law.readyRequest released rfl fun taken _ => taken.engineReadPurse)
  | readTotals l part => exact all nofun (law.readyRequest released rfl fun taken _ => taken.engineReadTotals)
  | setRange l entry enabled first slotEnd grant sponsor limit =>
    exact all nofun (law.lockedRequest released rfl fun taken _ => taken.engineSetRange)
  | setSponsorCount l count => exact all nofun (law.lockedRequest released rfl engineSetSponsorCount)
  | setLane l named role lifetime silence limit =>
    exact all nofun (law.lockedRequest released rfl fun taken _ => taken.engineSetLane)
  | setCeiling l amount => exact all nofun (law.lockedRequest released rfl fun taken _ => taken.configSetCeiling)
  | setLowMark l amount => exact all nofun (law.lockedRequest released rfl fun taken _ => taken.configSetLowMark)
  | saveConfig l => exact all nofun (law.readyRequest released rfl configSaveConfig)
  | lockConfig l =>
    exact all nofun (law.readyRequest
      (owner := fun s => Machine.fillReply l .ok [] (s.mapConfig fun c => { c with lock := true })) released rfl
      fun taken _ => (taken.mapConfig fun c => { c with lock := true }).fillReply _ _)
  | readConfig l part => exact all nofun (law.request released rfl configReadConfig)
  | closePeriod l => exact all nofun (law.readyRequest released rfl controlClosePeriod)
  | setClock l seconds => exact all nofun (law.readyRequest released rfl controlSetClock)
  | setSchedule l entry time enable => exact all nofun (law.lockedRequest released rfl fun taken _ => taken.controlSetSchedule)
  | setDrainLimit l seconds => exact all nofun (law.lockedRequest released rfl fun taken _ => taken.controlSetDrainLimit)
  | sync l => exact all nofun (law.readyRequest released rfl fun taken _ => taken.journalSync)
  | readJournal l sequence => exact all nofun (law.readyRequest released rfl fun taken _ => taken.journalReadJournal)
  | retryStore l => exact all nofun (law.readyRequest released rfl journalRetryStore)
  | formatStore l => exact all nofun (law.request released rfl fun taken => taken.restoreFormatStore (formats l rfl))
  | setRoute l eventClass route => exact all nofun (law.lockedRequest released rfl fun taken _ => taken.noticesSetRoute)
  | clearEvents l classes => exact all nofun (law.readyRequest released rfl fun taken _ => taken.noticesClearEvents)
  | readEvents l => exact all nofun (law.readyRequest released rfl fun taken _ => taken.fillReply _ _)
  | storePortGrant => exact all nofun (law.execStorePortGrant released)
  | writeStatusTimeout effect => exact all nofun (law.execWriteStatusTimeout released effect)
  | storeWriteComplete effect answers => exact all nofun (law.execStoreWriteComplete released effect answers)
  | retryHeaderRead answer => exact all nofun (law.execRetryHeaderRead released answer)
  | journalReadComplete answer => exact all nofun (law.execJournalReadComplete released answer)
  | captureDurable sequence => exact all nofun (law.execCaptureDurable released sequence)
  | captureAbandoned sequence => exact all nofun (law.execCaptureAbandoned released sequence)
  | reversalDurable sequence => exact all nofun (law.execReversalDurable released sequence)
  | reversalAbandoned sequence => exact all nofun (law.execReversalAbandoned released sequence)
  | officeRecordDurable sequence => exact all nofun (law.execOfficeRecordDurable released sequence)
  | officeRecordAbandoned sequence => exact all nofun (law.execOfficeRecordAbandoned released sequence)
  | periodCloseDurable sequence => exact all nofun (law.execPeriodCloseDurable released sequence)
  | periodAdvance => exact all nofun (law.execPeriodAdvance released)
  | periodCloseAbandoned sequence => exact all nofun (law.execPeriodCloseAbandoned released sequence)
  | closeFailed => exact all nofun (law.execCloseFailed released)

end

end Sys2Proof.Machine
end

section
/-! PROOF. The laws of a step (R2 to R7, R24 to R30, R110, R125 to R131): kept by every command, which answers in every lawful state. -/

namespace Sys2Proof.Machine

section
variable {s t : State} {c : Instr}

/-! ## Drains (R110) -/

theorem State.drains_iff (s : State) : s.drainLaw ↔ s.Drains False :=
  and_congr_left fun _ => ⟨fun counted _ => counted, fun counted => counted id⟩

theorem exec_keeps_drainLaw (law : s.drainLaw) (next : exec c s = .next t) : t.drainLaw := by
  by_cases reset : isReset c
  · cases c with
    | powerOnReset | pinReset =>
      cases next
      exact reset_drainLaw
    | resetNLow =>
      cases next
      exact law
    | _ => exact reset.elim
  · obtain ⟨m, _, keeps⟩ := exec_keepsRest c s reset t next
    exact t.drains_iff.2 (keeps.drain (s.drains_iff.1 law))

/-! ## Resets -/

theorem reset_good : State.reset.Good True [] := by
  have tables : State.reset.tablesCanonical := ⟨rfl, rfl, rfl⟩
  exact State.good_of_lawful ⟨tables, reset_drainLaw, reset_slotLaw,
    fun _ => ⟨reset_journalLaw, reset_holdLaw, reset_settlingLaw, reset_balanceLaw, reset_placeLaw⟩⟩ rfl fun _ => reset_capLaw

/-- Every state after a reset is that of the power-on reset, but for the lock, the store, the commands that wait, and whether a pin
reset holds the part. -/
theorem afterReset_good (lock inReset : Bool) (m : Memory) (pending : List Instr) :
    ((State.afterReset lock m pending).mapRestore fun r => { r with inReset := inReset }).Good True [] := { reset_good with }

/-! ## Every command -/

/-- A command keeps the laws, and but for the restore of the purses the tops of the balances. -/
theorem exec_keeps_lawful (lawful : s.lawful) (admits : s.Admits c) (next : exec c s = .next t) :
    t.lawful ∧ (s.capLaw → (∀ answer, c ≠ .restoreImages answer) → t.capLaw) := by
  have slots := exec_keeps_slotLaw lawful.2.2.1 next
  by_cases reset : isReset c
  · cases c with
    | powerOnReset cut =>
      cases next
      obtain ⟨lawful', caps⟩ := (afterReset_good _ _ _ _).lawful slots
      exact ⟨lawful', fun _ _ => caps trivial⟩
    | pinReset cut =>
      cases next
      obtain ⟨lawful', caps⟩ := (afterReset_good s.config.lock false _ _).lawful slots
      exact ⟨lawful', fun _ _ => caps trivial⟩
    | resetNLow cut =>
      cases next
      obtain ⟨tables, drain, -⟩ := lawful
      exact ⟨⟨tables, drain, slots, nofun⟩, fun caps _ => caps⟩
    | _ => exact reset.elim
  · by_cases held : s.restore.inReset = true
    · rw [exec_of_held held reset] at next
      cases next
      exact ⟨lawful, fun caps _ => caps⟩
    · have released : s.restore.inReset = false := by simpa using held
      obtain ⟨t', next', good⟩ := (State.good_of_lawful lawful released id).exec released lawful.2.2.1 admits reset
      cases next.symm.trans next'
      obtain ⟨lawful', caps⟩ := good.lawful slots
      exact ⟨lawful', fun capped other => caps ⟨capped, other⟩⟩

/-- An event always answers a state. -/
theorem event_answers (f : State → State) (s : State) : ∃ t, event f s = .next t := by
  unfold event running
  split
  · exact ⟨_, rfl⟩
  · exact ⟨_, rfl⟩

/-- A request whose owner answers it in every case always answers a state. -/
theorem request_answers (c : Instr) (owner : State → State) (s : State) : ∃ t, request c owner s = .next t := by
  unfold request takeRequest running
  split
  · exact ⟨_, rfl⟩
  · dsimp only
    split
    · exact ⟨_, rfl⟩
    · exact ⟨_, rfl⟩

/-- In a lawful state every command answers a state: a HOLD that comes to a slot finds one free (R26). -/
theorem exec_answers (lawful : s.lawful) (c : Instr) : ∃ t, exec c s = .next t := by
  by_cases reset : isReset c
  · cases c with
    | powerOnReset | pinReset | resetNLow => exact ⟨_, rfl⟩
    | _ => exact reset.elim
  · by_cases held : s.restore.inReset = true
    · exact ⟨s, exec_of_held held reset⟩
    · have released : s.restore.inReset = false := by simpa using held
      by_cases formats : ∃ l, c = .formatStore l
      · obtain ⟨l, rfl⟩ := formats
        exact request_answers _ _ s
      · by_cases loads : ∃ answer, c = .restoreHeaderLoaded answer
        · obtain ⟨answer, rfl⟩ := loads
          exact event_answers _ s
        · have admits : s.Admits c :=
            ⟨fun l same => absurd ⟨l, same⟩ formats, fun answer _ _ _ same => absurd ⟨answer, same⟩ loads⟩
          obtain ⟨t, next, -⟩ := (State.good_of_lawful lawful released id).exec released lawful.2.2.1 admits reset
          exact ⟨t, next⟩

/-- An ordinary step runs a command that the state admits. -/
theorem State.ordinary.admits {rest : List Instr} (ordinary : s.ordinary) (front : s.pending = c :: rest) :
    ({ s with pending := rest } : State).Admits c := by
  obtain ⟨formats, loads⟩ := ordinary
  refine ⟨fun l same => formats l rest (same ▸ front), fun answer base period config same found => ?_⟩
  exact loads answer rest base period config (same ▸ front) found

/-- Settles O5: by the laws `State.Laws`, which every command keeps, as do the steps that commands share; `State.Drains` for the
first claim. -/
theorem stepKeepsDrainLaw : Obligations.stepKeepsDrainLaw := by
  unfold Obligations.stepKeepsDrainLaw
  refine ⟨fun s t law next => ?_, fun s t lawful ordinary next => ?_, fun s t lawful ordinary caps other next => ?_,
    fun s c lawful => exec_answers lawful c⟩
  · obtain rfl | ⟨c, rest, -, next⟩ := step_cases next
    · exact law
    · exact exec_keeps_drainLaw (s := { s with pending := rest }) law next
  · obtain rfl | ⟨c, rest, front, next⟩ := step_cases next
    · exact lawful
    · exact (exec_keeps_lawful (s := { s with pending := rest }) lawful (ordinary.admits front) next).1
  · obtain rfl | ⟨c, rest, front, next⟩ := step_cases next
    · exact caps
    · refine (exec_keeps_lawful (s := { s with pending := rest }) lawful (ordinary.admits front) next).2 caps fun answer same => ?_
      refine other answer ?_
      rw [front, same]
      rfl

end

end Sys2Proof.Machine
end
